-- ==== Sys2Proof/Word.lean ====
section
/-! DEFINITION. The word types of the ZN256: bytes, 32-bit register words, 64-bit reeve words and 128-bit elements. -/
namespace Sys2Proof

/-- One byte of memory (R6). -/
abbrev Byte := BitVec 8
/-- One register of a register page (R476). -/
abbrev Word32 := BitVec 32
/-- One reeve register or address (R314). -/
abbrev Word64 := BitVec 64
/-- One element, the native word (R8). -/
abbrev Elem := BitVec 128
/-- One long register or mask register of a reeve (R350). -/
abbrev LongWord := BitVec 4096

end Sys2Proof
end

