-- ==== Sys2Proof/Syntax.lean ====
section
/-! DEFINITION. The commands the module takes: one constructor for each row of spec/opcode_table.json. -/
namespace Sys2Proof

/-- Who makes an access, in the order of the INITIATOR codes of CMX_DEC_INFO (R367): a physical reeve, housekeeping DMA, a function of
a host port, the Tally memory master. -/
inductive Initiator where
  | reeve (n : Nat)
  | hkd
  | host (port fn : Nat)
  | tally
  deriving DecidableEq, Repr

/-- A ring frame: the head flit's fields (Table 15-7) and its payload as a number, least significant byte first (R418). -/
structure Frame where
  kind : Nat
  set : Nat := 0
  status : Nat := 0
  dest : Nat
  src : Nat
  tag : Nat := 0
  addr : Nat := 0
  units : Nat := 0
  op : Nat := 0
  width : Nat := 0
  epoch : Nat := 0
  channel : Nat := 0
  data : Nat := 0
  deriving DecidableEq, Repr

/-- A codeword as its receiver sees it after correction (R416): symbols corrected, whether it is uncorrectable or its CRC is bad, its
SEQ, the acknowledged SEQ, whether it carries a NAK, the credits it returns, its flits and those of a reserved kind. -/
structure Codeword where
  symbols : Nat := 0
  uncorr : Bool := false
  crcBad : Bool := false
  seq : Nat := 0
  ack : Nat := 0
  nak : Bool := false
  credits : List Nat := []
  flits : Nat := 0
  reserved : Nat := 0
  deriving DecidableEq, Repr

/-- A Gate message (Table 20-3) that arrives on a binding: 0 SMBus, 1 and 2 the host ports. Its KIND and the CODE of a command are the
row's; `args` are the bytes of BODY (after CODE in a command). -/
structure GateMsg where
  binding : Nat
  slot : Nat := 0
  sid : Nat := 0
  seq : Nat := 0
  args : List Byte := []
  mac : Nat := 0
  deriving DecidableEq, Repr

/-- A feature of Table 14-2 that a function's capability structures enable, where it is there. -/
inductive Feature where
  | hdmDb | multiLogical | portRouting | ats | pri | pasid | msi | intx
  | ide | doe | extendedTags | tenBitTags | relaxedOrdering | idOrdering | aer | memPoison
  deriving DecidableEq, Repr

/-- What a host configuration write sets (R384, R385, R391, R393, R396, Tables 14-1 to 14-3); a BAR by its number. -/
inductive ConfigField where
  | busMaster | vfEnable | numVfs | cacheEnable | memEnable | uioEnable | powerState | msixEnable | functionMask
  | maxPayload | maxReadRequest | feature (f : Feature) | bar (n : Nat)
  deriving DecidableEq, Repr


/-- The commands: one constructor for each row of the opcode table, named as the row where Lean allows (a stream opcode is `stream…`,
an instruction of a reeve `reeve…`); the docstring is the row's summary. -/
inductive Instr where
  /-- POWER_UP_INSERTION (R431): Mating of the power blades or return of a valid VIN starts a Cold start: VNW and VSAF come up and bell time starts at zero in FREE. -/
  | insertion
  /-- INPUT_SWITCH_CLOSE (R430): Once VIN has been valid for 10 ms with the latch closed, coolant proven and the board cool, the dual-FET input switch closes under its dV/dt ramp. -/
  | switchClose (a b : Bool)
  /-- PWRGD_ASSERT (R532): The rails reach regulation in order and the module drives PWRGD high. -/
  | pwrgdAssert
  /-- PERST_RELEASE (R432): Release of PERST# on a port starts its link training and the readiness time of its functions. -/
  | perstRelease (p : Nat)
  /-- LINK_TRAINED (R383): A host port completes training to a supported rate and width. -/
  | linkTrained (p speed width : Nat) (flit256 : Bool)
  /-- FIRMWARE_LOADED (R508): The reeves finish loading firmware from the pending or active bank, or fall back to the other bank and raise FW_ROLLBACK. -/
  | firmwareLoaded (bad : Bool) (failed : List Nat)
  /-- HBM_TRAINING_DONE (R431): HBM training ends: HBM is zeroed, failed stacks enter LOST, and Memory_Active is set. -/
  | hbmTrainingDone (failed : List Nat)
  /-- ALNAR_TRAINING_DONE (R431): The Alnar ports finish training, and the Bell unit selects its source. -/
  | alnarTrainingDone (ports : List Nat)
  /-- READY_SET (R433): GLB_STATUS.READY is set and a READY message is pushed to mailbox 0. -/
  | readySet
  /-- START_STEP_TIMEOUT (R433): A start-up step passes its bound: READY stays clear, and the failed step is logged and reported. -/
  | startStepTimeout (step : Nat)
  /-- GLB_RESET_WARM (R490): A write to GLB_RESET with WARM = 1 requests a Warm reset, which is checked against KEY and counted if absorbed, ignored or refused. -/
  | glbResetWarm (i : Initiator) (v : Nat)
  /-- LINK_DOWN (R396): Loss of a port's data link starts a Port reset of that port. -/
  | linkDown (p : Nat)
  /-- HOT_RESET (R396): A CXL hot reset from the host starts a Port reset of that port. -/
  | hotReset (p : Nat)
  /-- PORT_RECOVERY_START (R396): Once the link is up and Bus Master Enable is set in the PF and the owning function, recovery of a port's channels begins. -/
  | portRecoveryStart (p : Nat)
  /-- FLR_PF (R398): FLR of a port's PF acts as a Port reset while the link, HDM decoder and CXL enables stay up. -/
  | flrPf (p : Nat)
  /-- FLR_VF (R398): FLR of a VF stops its jobs, puts its channels in OFF with ledgers intact and resets its MSI-X table and PBA. -/
  | flrVf (p fn : Nat)
  /-- IDE_INTEGRITY_FAILURE (R395): An IDE integrity failure on a stream sets IDE_FAIL and starts a Port reset. -/
  | ideIntegrityFailure (p : Nat)
  /-- CLOCK_FAULT (R23): The Constable finds a commanded clock stopped for 1 µs or off by more than 10 %, and raises the reaction for its domain. -/
  | clockFault (dom : Nat)
  /-- CROSSING_TIMEOUT (R26): A request through a crossing whose far side is down gets an error response and zero data within 2 µs, recorded in ERR_CODE. -/
  | crossingTimeout (kind inst off view : Nat)
  /-- WEST_EAST_LINK_FAILURE (R16): Loss of the West-East link routes die-to-die traffic through the Green and raises LINK_REROUTE. -/
  | westEastLinkFailure
  /-- DOORBELL (R223): A write to CHN_DB_TAIL offers a new job-ring tail, which is taken or refused and counted. -/
  | doorbell (p fn ch v : Nat)
  /-- DESCRIPTOR_FETCH (R558): The channel engine reads pending descriptors of a cached channel, waiting without limit while the port cannot serve the fetch. -/
  | descriptorFetch (ch : Nat)
  /-- JOB_ACCEPT (R230): When the channel is in RUN, a tag and a completion slot are free and the ledger record is durable, the accept index advances and a sequence number is assigned. -/
  | jobAccept (ch : Nat)
  /-- LEDGER_WRITE_DURABLE (R250): Every place of the channel's ledger acknowledges a ledger write, which releases the action that waited for it. -/
  | ledgerWriteDurable (ch : Nat)
  /-- STREAM_JOB (R35): A STREAM job starts once its start conditions hold, and the Sower reads its program. -/
  | streamJob (tag : Nat)
  /-- CONTROL_JOB (R310): A CONTROL job starts on a free CONTROL reeve bound to its channel, in the state of Table 11-1. -/
  | controlJob (tag : Nat)
  /-- COPY_JOB (R226): A COPY job moves BYTES bytes from SRC to DST in 64 KiB pieces. -/
  | copyJob (tag : Nat)
  /-- FILL_JOB (R226): A FILL job writes the 16-byte pattern into every 16-byte unit from DST in 64 KiB pieces. -/
  | fillJob (tag : Nat)
  /-- FENCE_JOB (R227): A FENCE job completes when every earlier job's results are visible, and it holds back later jobs until then. -/
  | fenceJob (tag : Nat)
  /-- MARK_JOB (R227): A MARK job completes when every earlier job has completed, and records the bell time of that moment. -/
  | markJob (tag : Nat)
  /-- JOB_FINISH (R234): A job's status is fixed, its remaining strips are discarded on failure, and it enters FINISHED. -/
  | jobFinish (tag : Nat)
  /-- COMPLETION_RECORD_WRITE (R236): The completion record of the oldest FINISHED job is written whole at slot DONE, and DONE advances. -/
  | completionRecordWrite (ch : Nat)
  /-- MSIX_MESSAGE (R394): After the announced write completes, the source sends its MSI-X message, or sets the PBA bit if the vector is masked. -/
  | msixMessage (p : Nat)
  /-- LEDGER_RETIRE (R250): RSEQ is written and the records of up to 64 completed jobs are freed or retired, freeing their tags. -/
  | ledgerRetire (ch : Nat)
  /-- RECORD_WRITE_FAILURE (R559): A completion record or fault entry that still cannot be written after the wait puts the channel in BROKEN without losing ledger records. -/
  | recordWriteFailure (ch : Nat)
  /-- CR_HEAD_WRITE (R238): A write to CHN_DB_CR_HEAD consumes completion records, or is ignored and counted if it moves backwards or past DONE. -/
  | crHeadWrite (p fn ch v : Nat)
  /-- FQ_HEAD_WRITE (R243): A write to CHN_DB_FQ_HEAD resolves the fault entries passed by reading each one's ACTION. -/
  | fqHeadWrite (p fn ch v : Nat)
  /-- FAULT_ENTRY_POST (R242): A translation fault posts its 32-byte fault entry at FQ_TAIL once a slot is free. -/
  | faultEntryPost (ch : Nat)
  /-- ENABLE (R556): ENABLE loads and checks the channel entry, recovers the ledger from the base point and brings the channel to RUN, PAUSED or BROKEN. -/
  | enable (p fn ch : Nat)
  /-- PAUSE (R239): PAUSE stops acceptance and job starts on a channel in RUN, after PAUSED = 1 is written to the ledger header. -/
  | pause (p fn ch : Nat)
  /-- RESUME (R239): RESUME returns a PAUSED channel to RUN after PAUSED = 0 is written to the ledger header. -/
  | resume (p fn ch : Nat)
  /-- ABORT (R239): ABORT ends every accepted job not yet FINISHED with ABORTED and leaves the channel PAUSED, or OFF from DRAINING. -/
  | abort (p fn ch : Nat)
  /-- DRAIN (R239): DRAIN stops acceptance and lets the accepted jobs run to COMPLETE. -/
  | drain (p fn ch : Nat)
  /-- DRAIN_COMPLETE (R260): When the last job of a draining channel completes, the channel enters OFF, writes OWNED = 0 and is unpinned. -/
  | drainComplete (ch : Nat)
  /-- CHANNEL_ENTRY_LOAD (R218): The channel engine loads and checks an entry and its owned-window list into the channel cache, and a failed check puts the channel in BROKEN. -/
  | channelEntryLoad (ch : Nat)
  /-- CHN_INV (R221): A write of CHN_INV with GO = 1 stops acceptance on the named channel or all channels to invalidate their cached entries. -/
  | chnInv (i : Initiator) (ch all : Nat)
  /-- CHN_INV_COMPLETE (R221): Once every accepted job of the named channels has completed, the cached entries are dropped and GO clears. -/
  | chnInvComplete
  /-- COMMIT (R240): A write of CHN_DB_SH_COMMIT copies both shadow registers into the channel's pending set. -/
  | commit (p fn ch v : Nat)
  /-- SHADOW_APPLY (R240): At the next job boundary the pending set is applied whole to the cached entry, or discarded if invalid. -/
  | shadowApply (ch : Nat)
  /-- INSTRUCTION_ISSUE (R37): The Sower decodes the next stream or sown instruction, checks it and its chain, and refuses it or cuts it into strips. -/
  | instructionIssue (tag : Nat)
  /-- TICKET_DEAL (R165): The Sower deals a strip ticket to a croft chosen by home die, hamlet load and deque room, or by rank under NONE. -/
  | ticketDeal
  /-- ORDERED_SEGMENT_DEAL (R161): After the previous segment of an ordered chain is reported done, the next segment is dealt to the same croft. -/
  | orderedSegmentDeal (tag : Nat)
  /-- TICKET_TAKE (R146): A croft takes the ticket at the head of its deque, and it becomes an active strip. -/
  | ticketTake (c : Nat)
  /-- GLEAN (R168): An idle croft takes one ticket from the tail of the fullest eligible victim's deque, trying the levels in order. -/
  | glean (c : Nat)
  /-- GLEAN_RETRY_TIMER (R168): A croft that found no victim tries to glean again after 64 cycles. -/
  | gleanRetryTimer (c : Nat)
  /-- ELEMENT_START (R109): A croft starts the next element of its chain when its operands, temporaries and pipe occupancy are ready. -/
  | elementStart (c : Nat)
  /-- LOAD_RESPONSE (R133): A read response returns to the operand buffers, where the residue of each loaded element is formed after the ECC check. -/
  | loadResponse (c ecc : Nat)
  /-- SHARED_TLB_RESPONSE (R140): The shared TLB answers a lookup, and the micro-TLB is filled under tree pseudo-LRU. -/
  | sharedTlbResponse
  /-- TABLE_WALK_COMPLETE (R297): A walk of the channel's page tables ends with a translation that is cached, or with the first failing cause. -/
  | tableWalkComplete
  /-- PIPE_RESULT (R142): A member's checked result becomes available after its latency to the next member or to the store port. -/
  | pipeResult (c : Nat)
  /-- STORE_ACK (R147): A write is acknowledged by its target, and the shelf advances the strip's checkpoint. -/
  | storeAck (c : Nat)
  /-- STRIP_COMMIT (R172): The Sower commits a done strip in job order and ORs its flags into the job's flag byte. -/
  | stripCommit (tag : Nat)
  /-- PARTIAL_COMBINE (R173): The combine unit combines two sibling reduction nodes as soon as both are present, and checks the combine. -/
  | partialCombine (tag : Nat)
  /-- CHAIN_COMPLETE (R172): A chain completes when its last strip commits and any single final write is acknowledged. -/
  | chainComplete (tag : Nat)
  /-- WITNESS_COMPARE (R182): When both PAIRED copies deliver their digests, the Sower compares them, releases copy A on a match and deals a third copy otherwise. -/
  | witnessCompare (tag : Nat)
  /-- OVERFLOW_SLOT_FREE (R139): A held strip that waited for an overflow slot in HBM receives one when a slot frees. -/
  | overflowSlotFree
  /-- JOURNAL_COMMIT (R264): After STAGED is durable, the Sower copies a journaled chain's staged image onto its destinations in 64 KiB pieces. -/
  | journalCommit (tag : Nat)
  /-- JOURNAL_SPACE_FREE (R266): A chain that waited for journal space gets its extent once enough of the journal has been freed. -/
  | journalSpaceFree (tag : Nat)
  /-- HAMLET_FAULT (R453): A Fence slice mismatch or a checkpoint check failure quarantines the hamlet and deals its strips again from their first elements. -/
  | hamletFault (h : Nat)
  /-- CROFT_SELF_TEST_DONE (R152): The croft self-test ends and the croft becomes IN_SERVICE or QUARANTINED. -/
  | croftSelfTestDone (c : Nat) (pass : Bool)
  /-- CROFT_STALL_TIMEOUT (R151): A croft with an unparked active strip that makes no progress for 100 µs is reset. -/
  | croftStallTimeout (c : Nat)
  /-- CRF_RESET (R155): CRF_CMD.RESET through the control matrix starts a croft reset. -/
  | crfReset (i : Initiator) (c : Nat)
  /-- CRF_QUARANTINE (R155): CRF_CMD.QUARANTINE starts a croft reset that ends QUARANTINED whatever the self-test gives. -/
  | crfQuarantine (i : Initiator) (c : Nat)
  /-- CRF_RELEASE (R155): CRF_CMD.RELEASE starts a croft reset of a QUARANTINED croft, and is ignored in any other state. -/
  | crfRelease (i : Initiator) (c : Nat)
  /-- FI_ARM (R156): Setting CRF_FI.ARM arms a residue corruption of the next result at SITE, which fires once as an injected check failure. -/
  | fiArm (i : Initiator) (c site : Nat)
  /-- GLB_MODE_ARM (R177): GLB_MODE_CMD.ARM samples the requested mode and its stroke into the pending request. -/
  | glbModeArm (i : Initiator)
  /-- GLB_MODE_CANCEL (R177): GLB_MODE_CMD.CANCEL discards the pending mode request. -/
  | glbModeCancel (i : Initiator)
  /-- PACE_CLOCK_MOVE (R178): A die's croft clock moves to the new pace when its last old-mode strip completes, or 100 µs after stroke N begins. -/
  | paceClockMove (die : Nat)
  /-- THERMAL_STEP_DOWN (R180): While a die stays above its step-down threshold, its croft clock steps down 50 MHz each 100 µs. -/
  | thermalStepDown (die : Nat)
  /-- POWER_LIMIT_STEP (R180): Input power or current over its limit makes the croft clock step down at once far enough to meet the limit. -/
  | powerLimitStep (mhz : Nat)
  /-- STAGGER_SLOT (R445): At the module's stagger slot, the power-stage controller makes the pending upward and cap steps, up to PWR_RAMP per stroke. -/
  | staggerSlot (coolWest coolEast : Bool)
  /-- SCRUB_READ (R207): A patrol scrub read of an HBM burst or Granary word corrects or poisons what it finds and logs the error. -/
  | scrubRead (pa found : Nat)
  /-- STACK_LOST (R208): A stack that fails training, falls silent or passes its error threshold enters LOST, and the near ledger goes on with one copy. -/
  | stackLost (k : Nat)
  /-- MEMORY_ATOMIC (R198): An ADD or SWAP atomic on an aligned 16-byte element is performed at its target as a locked sequence. -/
  | memoryAtomic (swap : Bool) (pa width v : Nat)
  /-- HIGH_CLASS_WINDOW_END (R211): The end of an arbitration window restores the quota of the masked high-class requesters. -/
  | highClassWindowEnd (point : Nat)
  /-- ARB_CFG_WRITE (R214): A write to HBM_ARB_CFG, GRN_ARB_CFG or CMX_ARB_CFG is checked whole and applies from the next window. -/
  | arbCfgWrite (i : Initiator) (kind inst v : Nat)
  /-- INV_PAGE (R302): XLT_INV_CMD with TYPE PAGE removes the ASID's translations of the page that holds the address. -/
  | invPage (i : Initiator) (asid va : Nat)
  /-- INV_RANGE (R302): XLT_INV_CMD with TYPE RANGE removes the ASID's translations that overlap the aligned range. -/
  | invRange (i : Initiator) (asid va sizeLog2 : Nat)
  /-- INV_ASID (R302): XLT_INV_CMD with TYPE ASID removes every translation of the ASID. -/
  | invAsid (i : Initiator) (asid : Nat)
  /-- INV_ALL (R302): XLT_INV_CMD with TYPE ALL removes every translation except those of the firmware half. -/
  | invAll (i : Initiator)
  /-- INV_FIRMWARE (R302): XLT_INV_CMD with TYPE FIRMWARE removes every firmware-half translation, through the control matrix only. -/
  | invFirmware (i : Initiator)
  /-- XLT_INV_COMPLETE (R303): Once every access that used a removed translation is acknowledged or stopped, GO clears and XLT_INVS counts. -/
  | xltInvComplete
  /-- SEW_WINDOW_WRITE (R307): A write to an XLT_SEW window is checked and applies to later walks and translations. -/
  | sewWindowWrite (i : Initiator) (n hi v : Nat)
  /-- ADD (R88): The stream opcode ADD adds its lanes, with wrap or saturation and OV or CY. -/
  | streamAdd (c : Nat)
  /-- SUB (R88): The stream opcode SUB subtracts its lanes, with wrap or saturation and OV or CY. -/
  | streamSub (c : Nat)
  /-- ADDC (R93): ADDC adds a, b and bit 0 of c, and writes the carry out to D1 or raises CY. -/
  | streamAddc (c : Nat)
  /-- SUBB (R93): SUBB subtracts b and bit 0 of c from a, and writes the borrow out to D1 or raises CY. -/
  | streamSubb (c : Nat)
  /-- NEG (R88): NEG writes 0 − a per lane. -/
  | streamNeg (c : Nat)
  /-- ABS (R88): ABS writes the signed absolute value per lane. -/
  | streamAbs (c : Nat)
  /-- MIN (R88): The stream opcode MIN writes the lesser lane. -/
  | streamMin (c : Nat)
  /-- MAX (R88): The stream opcode MAX writes the greater lane. -/
  | streamMax (c : Nat)
  /-- CMP (R90): CMP writes a mask bit per lane for the comparison that FUNC selects. -/
  | streamCmp (c : Nat)
  /-- LOGIC (R90): LOGIC applies the bitwise truth table held in FUNC. -/
  | streamLogic (c : Nat)
  /-- SHL (R92): SHL shifts each lane left by s, raising CY or OV on lost bits. -/
  | streamShl (c : Nat)
  /-- SHR (R92): SHR shifts each lane right by s, logically or arithmetically. -/
  | streamShr (c : Nat)
  /-- ROTL (R92): ROTL rotates each lane left by s mod w. -/
  | streamRotl (c : Nat)
  /-- ROTR (R92): ROTR rotates each lane right by s mod w. -/
  | streamRotr (c : Nat)
  /-- POPCNT (R88): POPCNT writes the number of 1 bits per lane. -/
  | streamPopcnt (c : Nat)
  /-- CLZ (R88): The stream opcode CLZ writes the leading zero count per lane. -/
  | streamClz (c : Nat)
  /-- CTZ (R88): The stream opcode CTZ writes the trailing zero count per lane. -/
  | streamCtz (c : Nat)
  /-- MULLO (R118): MULLO writes the low w bits of the product. -/
  | streamMullo (c : Nat)
  /-- MULHI (R118): MULHI writes the high w bits of the 2w-bit product. -/
  | streamMulhi (c : Nat)
  /-- MULW (R117): MULW writes the 2w-bit product as an element pair. -/
  | streamMulw (c : Nat)
  /-- DIVSTEP (R94): DIVSTEP performs AUX steps of unsigned restoring division per lane. -/
  | streamDivstep (c : Nat)
  /-- MADD (R95): MADD writes (a × b + c) mod q, or its Montgomery form. -/
  | streamMadd (c : Nat)
  /-- MMUL (R95): MMUL writes a × b mod q, or a × b × R^−1 mod q with MONT = 1. -/
  | streamMmul (c : Nat)
  /-- MADDQ (R95): MADDQ writes (a + b) mod q. -/
  | streamMaddq (c : Nat)
  /-- MSUBQ (R95): MSUBQ writes (a − b) mod q. -/
  | streamMsubq (c : Nat)
  /-- MRED (R95): MRED reduces a 2w-bit pair modulo q, plain or Montgomery. -/
  | streamMred (c : Nat)
  /-- MTOM (R95): MTOM moves a value into Montgomery form. -/
  | streamMtom (c : Nat)
  /-- MFROM (R95): MFROM moves a value out of Montgomery form. -/
  | streamMfrom (c : Nat)
  /-- BFLY (R96): BFLY computes a CT or GS butterfly into D0 and D1. -/
  | streamBfly (c : Nat)
  /-- SEL (R98): SEL writes a where the selector is 1 and b elsewhere. -/
  | streamSel (c : Nat)
  /-- COPY (R98): The stream opcode COPY writes a. -/
  | streamCopy (c : Nat)
  /-- FILL (R98): The stream opcode FILL writes a constant or an arithmetic sequence. -/
  | streamFill (c : Nat)
  /-- NARROW (R97): NARROW writes a 2w-bit pair in w bits, raising PX or saturating. -/
  | streamNarrow (c : Nat)
  /-- WIDEN (R97): WIDEN sign- or zero-extends each lane to a 2w-bit pair. -/
  | streamWiden (c : Nat)
  /-- COMPRESS (R99): COMPRESS packs the selected lanes into D0 and can write their count to D1. -/
  | streamCompress (c : Nat)
  /-- EXPAND (R100): EXPAND spreads packed lanes over the selected lanes of D0. -/
  | streamExpand (c : Nat)
  /-- GATHER (R102): GATHER reads table element x[i] from an INDEXED or LOCAL operand. -/
  | streamGather (c : Nat)
  /-- SCATTER (R103): SCATTER writes element i to table element x[i], the highest index winning on duplicates. -/
  | streamScatter (c : Nat)
  /-- SCATTER_ADD (R67): SCATTER_ADD adds each active contribution into its target with a 128-bit atomic add. -/
  | streamScatterAdd (c : Nat)
  /-- REDUCE (R68): REDUCE folds the stream by FUNC over the fixed block tree and writes D0 once. -/
  | streamReduce (c : Nat)
  /-- SCAN (R70): SCAN writes the inclusive or exclusive prefix by FUNC. -/
  | streamScan (c : Nat)
  /-- CMPX (R105): CMPX writes the lesser lane to D0 and the greater to D1. -/
  | streamCmpx (c : Nat)
  /-- ZMIX (R106): ZMIX computes the keyed 128-bit mixing function. -/
  | streamZmix (c : Nat)
  /-- SETQ (R323): SETQ sets a register to a signed 6-bit immediate. -/
  | reeveSetq (n : Nat)
  /-- ADDQ (R323): ADDQ adds a signed 6-bit immediate to a register. -/
  | reeveAddq (n : Nat)
  /-- LDQ (R323): LDQ loads 64 bits from the spill area at s7 + uimm6 × 8. -/
  | reeveLdq (n ecc : Nat)
  /-- STQ (R323): STQ stores 64 bits to the spill area at s7 + uimm6 × 8. -/
  | reeveStq (n : Nat)
  /-- SHLQ (R323): SHLQ shifts a register left by an immediate. -/
  | reeveShlq (n : Nat)
  /-- SHRQ (R323): SHRQ shifts a register right arithmetically by an immediate. -/
  | reeveShrq (n : Nat)
  /-- RORQ (R323): RORQ rotates a register right by an immediate. -/
  | reeveRorq (n : Nat)
  /-- JZQ (R323): JZQ branches when the register is zero. -/
  | reeveJzq (n : Nat)
  /-- JNZQ (R323): JNZQ branches when the register is not zero. -/
  | reeveJnzq (n : Nat)
  /-- DECQ (R323): DECQ decrements a register and branches while it is not zero. -/
  | reeveDecq (n : Nat)
  /-- GOQ (R323): GOQ jumps by a signed 11-bit offset. -/
  | reeveGoq (n : Nat)
  /-- CALLQ (R323): CALLQ calls PC + simm11 × 2 with the window advance of CALL. -/
  | reeveCallq (n : Nat)
  /-- MOVQ (R323): MOVQ copies one register to another. -/
  | reeveMovq (n : Nat)
  /-- ADDRQ (R323): ADDRQ adds one register into another. -/
  | reeveAddrq (n : Nat)
  /-- SUBQ (R323): SUBQ subtracts one register from another. -/
  | reeveSubq (n : Nat)
  /-- ANDQ (R323): ANDQ ANDs one register into another. -/
  | reeveAndq (n : Nat)
  /-- JMPQ (R323): JMPQ jumps to the address in a register with bit 0 cleared. -/
  | reeveJmpq (n : Nat)
  /-- RETQ (R323): RETQ returns as RET does. -/
  | reeveRetq (n : Nat)
  /-- NOPQ (R323): NOPQ does nothing. -/
  | reeveNopq (n : Nat)
  /-- BRKQ (R323): BRKQ acts as BRK. -/
  | reeveBrkq (n : Nat)
  /-- SOWQ (R335): SOWQ sows the stream instruction at the register's address, as SOW does. -/
  | reeveSowq (n : Nat)
  /-- ALU_ADD (R324): The reeve ALU function ADD adds two registers. -/
  | reeveAdd (n : Nat)
  /-- ALU_SUB (R324): The reeve ALU function SUB subtracts two registers. -/
  | reeveSub (n : Nat)
  /-- AND (R324): AND writes ra AND rb. -/
  | reeveAnd (n : Nat)
  /-- OR (R324): OR writes ra OR rb. -/
  | reeveOr (n : Nat)
  /-- XOR (R324): XOR writes ra XOR rb. -/
  | reeveXor (n : Nat)
  /-- ANDN (R324): ANDN writes ra AND NOT rb. -/
  | reeveAndn (n : Nat)
  /-- SLL (R324): SLL shifts ra left by rb[5:0]. -/
  | reeveSll (n : Nat)
  /-- SRL (R324): SRL shifts ra right logically by rb[5:0]. -/
  | reeveSrl (n : Nat)
  /-- SRA (R324): SRA shifts ra right arithmetically by rb[5:0]. -/
  | reeveSra (n : Nat)
  /-- ROL (R324): ROL rotates ra left by rb[5:0]. -/
  | reeveRol (n : Nat)
  /-- ROR (R324): ROR rotates ra right by rb[5:0]. -/
  | reeveRor (n : Nat)
  /-- SLT (R324): SLT writes 1 when ra is below rb, signed. -/
  | reeveSlt (n : Nat)
  /-- SLTU (R324): SLTU writes 1 when ra is below rb, unsigned. -/
  | reeveSltu (n : Nat)
  /-- ALU_MIN (R324): The reeve ALU function MIN writes the signed minimum. -/
  | reeveMin (n : Nat)
  /-- ALU_MAX (R324): The reeve ALU function MAX writes the signed maximum. -/
  | reeveMax (n : Nat)
  /-- MINU (R324): MINU writes the unsigned minimum. -/
  | reeveMinu (n : Nat)
  /-- MAXU (R324): MAXU writes the unsigned maximum. -/
  | reeveMaxu (n : Nat)
  /-- ALU_CLZ (R324): The reeve ALU function CLZ counts leading zeros, 64 for zero. -/
  | reeveClz (n : Nat)
  /-- ALU_CTZ (R324): The reeve ALU function CTZ counts trailing zeros, 64 for zero. -/
  | reeveCtz (n : Nat)
  /-- POPC (R324): POPC counts the 1 bits of ra. -/
  | reevePopc (n : Nat)
  /-- SLLI (R324): SLLI shifts left by an immediate amount. -/
  | reeveSlli (n : Nat)
  /-- SRLI (R324): SRLI shifts right logically by an immediate amount. -/
  | reeveSrli (n : Nat)
  /-- SRAI (R324): SRAI shifts right arithmetically by an immediate amount. -/
  | reeveSrai (n : Nat)
  /-- MUL (R324): MUL writes the low 64 bits of the product after 4 cycles. -/
  | reeveMul (n : Nat)
  /-- MULH (R324): MULH writes the high 64 bits of the signed product. -/
  | reeveMulh (n : Nat)
  /-- MULHU (R324): MULHU writes the high 64 bits of the unsigned product. -/
  | reeveMulhu (n : Nat)
  /-- DIV (R324): DIV divides signed, truncating toward zero, in 68 cycles. -/
  | reeveDiv (n : Nat)
  /-- DIVU (R324): DIVU divides unsigned in 68 cycles. -/
  | reeveDivu (n : Nat)
  /-- REM (R324): REM writes the signed remainder. -/
  | reeveRem (n : Nat)
  /-- REMU (R324): REMU writes the unsigned remainder. -/
  | reeveRemu (n : Nat)
  /-- SCALAR_RESULT_WRITEBACK (R329): A multiply, divide or long operation beside the pipe writes its result and clears its scoreboard entry. -/
  | scalarResultWriteback (n : Nat)
  /-- ADDI (R323): ADDI adds a sign-extended immediate. -/
  | reeveAddi (n : Nat)
  /-- ANDI (R323): ANDI ANDs with an immediate. -/
  | reeveAndi (n : Nat)
  /-- ORI (R323): ORI ORs with an immediate. -/
  | reeveOri (n : Nat)
  /-- XORI (R323): XORI XORs with an immediate. -/
  | reeveXori (n : Nat)
  /-- SLTI (R323): SLTI compares signed against an immediate. -/
  | reeveSlti (n : Nat)
  /-- SLTIU (R323): SLTIU compares unsigned against the sign-extended immediate. -/
  | reeveSltiu (n : Nat)
  /-- LDHI (R323): LDHI loads imm20 × 4,096, sign-extended. -/
  | reeveLdhi (n : Nat)
  /-- PCADD (R323): PCADD writes PC + imm20 × 4,096. -/
  | reevePcadd (n : Nat)
  /-- LDB (R325): LDB loads a byte, sign-extended. -/
  | reeveLdb (n ecc : Nat)
  /-- LDBU (R325): LDBU loads a byte, zero-extended. -/
  | reeveLdbu (n ecc : Nat)
  /-- LDH (R325): LDH loads a halfword, sign-extended. -/
  | reeveLdh (n ecc : Nat)
  /-- LDHU (R325): LDHU loads a halfword, zero-extended. -/
  | reeveLdhu (n ecc : Nat)
  /-- LDW (R325): LDW loads a word, sign-extended. -/
  | reeveLdw (n ecc : Nat)
  /-- LDWU (R325): LDWU loads a word, zero-extended. -/
  | reeveLdwu (n ecc : Nat)
  /-- LDD (R325): LDD loads a doubleword. -/
  | reeveLdd (n ecc : Nat)
  /-- STB (R325): STB stores a byte through the store buffer. -/
  | reeveStb (n : Nat)
  /-- STH (R325): STH stores a halfword. -/
  | reeveSth (n : Nat)
  /-- STW (R325): STW stores a word. -/
  | reeveStw (n : Nat)
  /-- STD (R325): STD stores a doubleword. -/
  | reeveStd (n : Nat)
  /-- BEQ (R323): BEQ branches when ra equals rb. -/
  | reeveBeq (n : Nat)
  /-- BNE (R323): BNE branches when ra differs from rb. -/
  | reeveBne (n : Nat)
  /-- BLT (R323): BLT branches on signed less-than. -/
  | reeveBlt (n : Nat)
  /-- BGE (R323): BGE branches on signed greater-or-equal. -/
  | reeveBge (n : Nat)
  /-- BLTU (R323): BLTU branches on unsigned less-than. -/
  | reeveBltu (n : Nat)
  /-- BGEU (R323): BGEU branches on unsigned greater-or-equal. -/
  | reeveBgeu (n : Nat)
  /-- JMP (R323): JMP links and jumps PC-relative. -/
  | reeveJmp (n : Nat)
  /-- JMPR (R323): JMPR links and jumps to ra + imm15. -/
  | reeveJmpr (n : Nat)
  /-- CALL (R318): CALL advances the window by two groups, spilling if full, writes the return address and jumps. -/
  | reeveCall (n : Nat)
  /-- CALLR (R318): CALLR calls through a register as CALL does. -/
  | reeveCallr (n : Nat)
  /-- LOOP (R333): LOOP sets COUNT, SPAN and LEND for a hardware loop, or skips the body when COUNT is 0. -/
  | reeveLoop (n : Nat)
  /-- BLD (R322): BLD makes a borrowed load through the bound channel, checked as a User access. -/
  | reeveBld (n ecc : Nat)
  /-- BLDU (R322): BLDU makes a borrowed load, zero-extended. -/
  | reeveBldu (n ecc : Nat)
  /-- BST (R322): BST makes a borrowed store through the bound channel. -/
  | reeveBst (n : Nat)
  /-- LL (R328): LL loads 64 bits and sets a reservation on the 64-byte block. -/
  | reeveLl (n ecc : Nat)
  /-- SC (R328): SC stores if the reservation holds and reports success or failure. -/
  | reeveSc (n : Nat)
  /-- LL_RESERVATION_TIMEOUT (R328): 256 cycles after LL the reservation is lost. -/
  | llReservationTimeout (n : Nat)
  /-- AADD (R198): AADD performs an atomic ADD of a register pair and returns the old value. -/
  | reeveAadd (n : Nat)
  /-- ASWP (R198): ASWP performs an atomic SWAP of a register pair and returns the old value. -/
  | reeveAswp (n : Nat)
  /-- RET (R319): RET jumps to w8 and moves the window back, filling from s7 if needed. -/
  | reeveRet (n : Nat)
  /-- RETE (R348): RETE checks the frame at s6, refills spilled groups and restores the interrupted state. -/
  | reeveRete (n : Nat)
  /-- TRAP (R346): TRAP enters at Monitor with the TRAP cause and its code. -/
  | reeveTrap (n : Nat)
  /-- WFI (R349): WFI waits until an eligible interrupt, a debug halt or a reset. -/
  | reeveWfi (n : Nat)
  /-- FENCE (R327): The reeve FENCE waits for every earlier access and empties the fetch buffers. -/
  | reeveFence (n : Nat)
  /-- BRK (R521): BRK halts the reeve under BRK_HALT, or enters as the BRK trap. -/
  | reeveBrk (n : Nat)
  /-- EXIT (R312): EXIT performs SOWSYNC and ends the CONTROL job by ra[7:0] or by a sown failure. -/
  | reeveExit (n : Nat)
  /-- SOW (R335): SOW hands a 128-byte stream instruction to the Sower as the next sown instruction of the job. -/
  | reeveSow (n : Nat)
  /-- SOW_RETIRE (R335): A waiting SOW retires once earlier stores are visible and the Sower has copied the instruction. -/
  | sowRetire (n : Nat)
  /-- SOWSYNC (R337): SOWSYNC waits for every sown instruction to complete and writes the sown status, flags and failure index. -/
  | reeveSowsync (n : Nat)
  /-- CSRR (R316): CSRR reads a control register under Table 11-3. -/
  | reeveCsrr (n : Nat)
  /-- CSRW (R340): CSRW writes a control register, with STATUS and WINPTR checked. -/
  | reeveCsrw (n : Nat)
  /-- CSRS (R340): CSRS sets bits of a control register. -/
  | reeveCsrs (n : Nat)
  /-- CSRC (R340): CSRC clears bits of a control register. -/
  | reeveCsrc (n : Nat)
  /-- LSIZE (R354): LSIZE sets VL to min(ra, VLMAX) and returns the elements left. -/
  | reeveLsize (n : Nat)
  /-- LADD (R354): LADD adds two long groups element by element. -/
  | reeveLadd (n : Nat)
  /-- LSUB (R354): LSUB subtracts two long groups. -/
  | reeveLsub (n : Nat)
  /-- LMUL (R354): LMUL writes the low EW bits of each product. -/
  | reeveLmul (n : Nat)
  /-- LAND (R354): LAND ANDs two long groups. -/
  | reeveLand (n : Nat)
  /-- LOR (R354): LOR ORs two long groups. -/
  | reeveLor (n : Nat)
  /-- LXOR (R354): LXOR XORs two long groups. -/
  | reeveLxor (n : Nat)
  /-- LTEST (R354): LTEST writes a mask register from an element comparison. -/
  | reeveLtest (n : Nat)
  /-- LGET (R356): LGET loads unit-stride elements, precisely at faults. -/
  | reeveLget (n : Nat)
  /-- LGETS (R356): LGETS loads elements at a byte stride. -/
  | reeveLgets (n : Nat)
  /-- LGATH (R356): LGATH loads elements at base plus index offsets. -/
  | reeveLgath (n : Nat)
  /-- LPROBE (R357): LPROBE loads as LGET but shortens VL at a fault instead of trapping. -/
  | reeveLprobe (n : Nat)
  /-- LPUT (R356): LPUT stores unit-stride elements. -/
  | reeveLput (n : Nat)
  /-- LPUTS (R356): LPUTS stores elements at a byte stride. -/
  | reeveLputs (n : Nat)
  /-- LSCAT (R356): LSCAT stores elements at base plus index offsets. -/
  | reeveLscat (n : Nat)
  /-- LCOPY (R354): LCOPY copies one long group to another. -/
  | reeveLcopy (n : Nat)
  /-- LFILL (R354): LFILL fills each element with the low EW bits of a scalar. -/
  | reeveLfill (n : Nat)
  /-- LSUM (R354): LSUM sums the active elements into a scalar modulo 2^64. -/
  | reeveLsum (n : Nat)
  /-- LONG_UNIT_READY (R360): After LE is set, the long unit finishes powering up with every long and mask register zero. -/
  | longUnitReady (n : Nat)
  /-- INTERRUPT_ENTRY (R343): At an instruction boundary the highest eligible interrupt is taken through the entry of R346. -/
  | interruptEntry (n : Nat)
  /-- WATCHDOG_WARN (R458): At 75 % of its period a reeve's watchdog raises WDOG_WARN. -/
  | watchdogWarn (n : Nat)
  /-- WATCHDOG_EXPIRY (R458): Expiry of a reeve's watchdog counts as a third fault and resets the core. -/
  | watchdogExpiry (n : Nat)
  /-- REEVE_SELF_TEST_DONE (R470): A reset reeve's self-test ends: it becomes the seed or is RETIRED, and the seed serves its logical reeve. -/
  | reeveSelfTestDone (n : Nat) (pass : Bool)
  /-- REMAP (R362): Setting CMX_BOOT.REMAP shows control SRAM in the boot window. -/
  | remap (i : Initiator)
  /-- HKD_COPY (R369): GO with OP COPY starts a housekeeping DMA copy, after an argument check. -/
  | hkdCopy (i : Initiator) (n : Nat)
  /-- HKD_FILL (R369): GO with OP FILL starts a housekeeping DMA pattern fill. -/
  | hkdFill (i : Initiator) (n : Nat)
  /-- HKD_COMPARE (R371): GO with OP COMPARE starts a compare that finds the first differing unit. -/
  | hkdCompare (i : Initiator) (n : Nat)
  /-- HKD_BURST_RESPONSE (R371): A housekeeping DMA burst completes, advancing DONE_BYTES and finishing the channel when all is done. -/
  | hkdBurstResponse (n : Nat)
  /-- HKD_DISABLE (R374): DISABLE drops everything in flight on a channel and returns it to IDLE. -/
  | hkdDisable (i : Initiator) (n : Nat)
  /-- HKD_RESUME (R373): HKD_CMD.RESUME restarts STOPPED channels once BUSERR is clear. -/
  | hkdResume (i : Initiator)
  /-- MBX_TX_LO_WRITE (R376): A write of MBX_TX_LO fills the sender's holding register. -/
  | mbxTxLoWrite (i : Initiator) (n v : Nat)
  /-- MBX_PUSH (R376): A write of MBX_TX_HI pushes a numbered word, dropping it on overflow or refusing it while the peer is down. -/
  | mbxPush (i : Initiator) (n v : Nat)
  /-- MBX_POP (R377): A consuming read of MBX_RX_LO pops the head word and latches its high half and stamp. -/
  | mbxPop (i : Initiator) (n : Nat)
  /-- MBX_CROSSED (R381): When both queues stay full for 64 µs without a pop, CROSSED is set on both pages. -/
  | mbxCrossed (n : Nat)
  /-- BAR_ACCESS (R386): A host BAR0 or BAR2 request is split into 4-byte register accesses in address order. -/
  | barAccess (p fn bar off len : Nat) (wdata : Option (List Byte))
  /-- HDM_COMMIT (R387): A host commits a port's HDM decoder, which fails if its ways or size are outside the limits. -/
  | hdmCommit (p base size ways : Nat)
  /-- CXL_MEM_READ (R388): A CXL.mem read returns HBM data, or poison for an inactive range, reserved range or poisoned unit. -/
  | cxlMemRead (p hpa : Nat)
  /-- CXL_MEM_WRITE (R553): A CXL.mem write is applied to HBM, or dropped and counted. -/
  | cxlMemWrite (p hpa enables data : Nat) (poison : Bool)
  /-- H2D_SNOOP (R390): A host snoop is answered from the Green's coherent cache. -/
  | h2dSnoop (p line : Nat) (inval : Bool)
  /-- LINK_WAIT_EXPIRY (R397): A request waiting for a down port gets an error response when HLK_LINK_WAIT.MS ends. -/
  | linkWaitExpiry (p : Nat)
  /-- HLK_CFG_WRITE (R400): A write to HLK_CFG applies at the next training, with IDE_REQUIRE applying at once. -/
  | hlkCfgWrite (i : Initiator) (p v : Nat)
  /-- BELL_FRAME (R409): A BELL input frame is timestamped and its mark checked and applied. -/
  | bellFrame (v interval : Nat)
  /-- ALNAR_MARK (R412): A relayed mark in a codeword's link-control field gives the stroke instant, less delay and MARK_AGE. -/
  | alnarMark (p stroke period : Nat) (free : Bool) (hops origin interval : Nat)
  /-- FREE_STROKE (R406): While no source is followed, a stroke begins at each free period. -/
  | freeStroke
  /-- SOURCE_LOST (R407): No valid mark within a sixteenth of a period raises LOST, begins the missing stroke and selects a source again. -/
  | sourceLost
  /-- TIMING_EXCHANGE (R411): An exchange of TX_TIME and ECHO_TIME updates a port's measured one-way delay. -/
  | timingExchange (p echo r2 : Nat)
  /-- BEL_CFG_WRITE (R425): A write to BEL_CFG is checked whole and applies at the next mark or free-running stroke. -/
  | belCfgWrite (i : Initiator) (v : Nat)
  /-- CODEWORD_RECEIVE (R416): A received codeword is corrected and checked, its flits are taken in order, or a NAK requests a resend. -/
  | codewordReceive (p : Nat) (cw : Codeword)
  /-- LANE_SPARE (R417): A failing data lane is replaced by the spare lane at an agreed block count. -/
  | laneSpare (p : Nat) (sent lost : Bool) (lane : Nat)
  /-- PORT_DOWN (R417): An Alnar port that loses block lock, its control exchange or 64 NAKs goes DOWN and retrains. -/
  | portDown (p : Nat)
  /-- HALF_RETRAIN (R417): A further lane failure with the spare in use retrains the port on 4 lanes. -/
  | halfRetrain (p : Nat) (sent : Bool) (lane : Nat)
  /-- TOPOLOGY (R419): A TOPOLOGY frame updates the route table, which settles on fewest hops and lowest latency. -/
  | topology (p src : Nat) (links : List (Nat × Nat)) (age : Nat)
  /-- READ (R422): A far READ frame is served by the target, or answered REFUSED, POISON or LOST. -/
  | farRead (p : Nat) (f : Frame)
  /-- WRITE (R422): A far WRITE frame is applied and acknowledged after the target's memory acknowledges it. -/
  | farWrite (p : Nat) (f : Frame)
  /-- ATOMIC (R422): A far ATOMIC frame is applied once, or answered from the kept response slot for a retry. -/
  | farAtomic (p : Nat) (f : Frame)
  /-- READ_RESP (R422): A READ_RESP returns far data or a failure status to the origin. -/
  | readResp (p : Nat) (f : Frame)
  /-- WRITE_ACK (R422): A WRITE_ACK completes a far write at the origin. -/
  | writeAck (p : Nat) (f : Frame)
  /-- ATOMIC_RESP (R422): An ATOMIC_RESP returns the old value or a failure status. -/
  | atomicResp (p : Nat) (f : Frame)
  /-- FAR_REQUEST_TIMEOUT (R422): A far request without response after RETRY_US is sent again, or ends the job with MEMORY_LOST after the last retry. -/
  | farRequestTimeout (kind dest tag : Nat)
  /-- MIRROR_SETUP (R272): The understudy accepts or refuses a channel's mirror setup. -/
  | mirrorSetup (p : Nat) (f : Frame)
  /-- MIRROR_WRITE (R423): The understudy applies a mirrored record or header write if it is further along, then acknowledges it. -/
  | mirrorWrite (p : Nat) (f : Frame)
  /-- MIRROR_ACK (R273): The understudy's acknowledgement makes a mirrored ledger write durable at the origin. -/
  | mirrorAck (p : Nat) (f : Frame)
  /-- HEARTBEAT (R423): A HEARTBEAT frame from the origin resets the understudy's missed-heartbeat count. -/
  | heartbeat (p : Nat) (f : Frame)
  /-- UNMIRRORED (R273): No mirror acknowledgement for 2 strokes makes the channel UNMIRRORED. -/
  | unmirrored (ch : Nat)
  /-- MIRROR_RESEND (R273): When the understudy answers again, the origin re-sends the header and open records and the channel is mirrored again. -/
  | mirrorResend (ch : Nat)
  /-- ALN_ID_WRITE (R426): A write of ALN_ID through the control matrix sets the module ID, ignored from BAR0. -/
  | alnIdWrite (i : Initiator) (v : Nat)
  /-- ALN_OPEN_WRITE (R427): A write to an ALN_OPEN window is checked and applies to later ring requests. -/
  | alnOpenWrite (i : Initiator) (n hi v : Nat)
  /-- LEASE_READBACK (R274): The readback of a renewed far header confirms the lease or leaves it unconfirmed. -/
  | leaseReadback (ch : Nat)
  /-- ADOPTION (R277): The understudy claims the far header, loads the entry into its pool, recovers the channel and sends the adoption vector. -/
  | adoption (origin ch : Nat)
  /-- LDG_ADOPT_CMD (R275): LDG_ADOPT_CMD.GO claims every mirrored channel of the named origin. -/
  | ldgAdoptCmd (i : Initiator) (origin : Nat)
  /-- ADOPT_LOG_POP (R279): A consuming read of LDG_ADOPT_LOG_LO pops an adoption log entry and latches its high half. -/
  | adoptLogPop (i : Initiator)
  /-- CLEAR (R261): LDG_CHAN_CMD.CLEAR zeroes both directory copies of a channel in OFF. -/
  | clear (i : Initiator) (ch : Nat)
  /-- LDG_CFG_WRITE (R282): A write to LDG_CFG is ignored unless every channel is OFF and the value is in range. -/
  | ldgCfgWrite (i : Initiator) (v : Nat)
  /-- CHANNEL_RECOVERY (R269): Recovery rebuilds a channel's indices from the ledger, rewrites or replays open jobs and brings it to RUN or PAUSED. -/
  | channelRecovery (ch : Nat)
  /-- LATCH_OPEN (R441): Opening the ejector latch starts orderly detach: acceptance stops, mirrored channels hand off and the rest drain. -/
  | latchOpen
  /-- DETACH_LIMIT_EXPIRY (R280): Jobs still unfinished at LDG_DETACH.LIMIT_MS are aborted. -/
  | detachLimitExpiry
  /-- SAFE_REACHED (R441): After the leave notice and rail shutdown, the input switch opens and the module enters SAFE. -/
  | safeReached
  /-- LATCH_CLOSED_IN_SAFE (R442): A latch held closed for 1 s in SAFE starts a Cold start from step 2. -/
  | latchClosedInSafe
  /-- PRESENCE_LOST (R443): PRSNT# high for 5 µs opens the input switch within 20 µs, with no further writes. -/
  | presenceLost
  /-- PRESENCE_GAINED (R532): PRSNT# low for 10 ms counts as presence gained. -/
  | presenceGained
  /-- VIN_UV (R439): VIN under-voltage opens the input switch and lets the rails fall. -/
  | vinUv
  /-- VIN_OV (R439): VIN over-voltage opens the input switch and lets the rails fall. -/
  | vinOv
  /-- VIN_RECOVERY (R431): Release of the VIN comparator after a trip starts a Cold start. -/
  | vinRecovery
  /-- BOARD_OT (R439): The Nightwatch board over-temperature comparator forces stand-down with cause 0x0D. -/
  | boardOt
  /-- COOL_LOW (R439): The Nightwatch coolant comparator forces stand-down with cause 0x0D. -/
  | coolLow
  /-- ALN_DETECT (R440): Signal on lane 0 of an Alnar port is recorded, or wakes the module from STANDBY if enabled. -/
  | alnDetect
  /-- MGMT_WAKE (R440): MGMT_WAKE# low for 1 µs is recorded, or wakes the module from STANDBY if enabled. -/
  | mgmtWake
  /-- BELL_LOST (R439): The bell-lost comparator is set and recorded. -/
  | bellLost
  /-- WAKE_AT_STROKE (R440): The stroke timer NWT_WAKE_AT wakes the module when enabled. -/
  | wakeAtStroke
  /-- QUIET (R437): PWR_CMD QUIET switches the compute dies off and puts HBM in self-refresh when every channel is OFF. -/
  | quiet (i : Initiator)
  /-- WAKE (R437): PWR_CMD WAKE powers the compute dies up, zeroes the Granary and scratchpads and takes HBM out of self-refresh. -/
  | wake (i : Initiator)
  /-- STANDBY (R438): PWR_CMD STANDBY through the control matrix drains every channel, stops the rails and opens the input switch. -/
  | standby (i : Initiator)
  /-- INPUT_OVERCURRENT (R449): Input current over the Constable threshold opens the input within 2 µs, cause 0x01. -/
  | inputOvercurrent
  /-- REVERSE_INPUT_CURRENT (R449): Reverse input current opens the input, cause 0x02. -/
  | reverseInputCurrent
  /-- CONSTABLE_VIN_OVERVOLTAGE (R449): VIN over the Constable threshold opens the input, cause 0x03. -/
  | constableVinOvervoltage
  /-- RAIL_OVERVOLTAGE (R449): A rail over 110 % of its set point opens the input, cause 0x04. -/
  | railOvervoltage
  /-- DIE_OVERTEMPERATURE (R449): A die over the Constable threshold forces orderly stand-down, cause 0x05. -/
  | dieOvertemperature
  /-- BOARD_OVERTEMPERATURE (R449): The board over the Constable threshold forces orderly stand-down, cause 0x06. -/
  | boardOvertemperature
  /-- COOL_OK_LOW (R449): COOL_OK low for the filter time forces orderly stand-down, cause 0x07. -/
  | coolOkLow
  /-- SENSE_MISMATCH (R450): Constable and controller A readings that disagree beyond the bounds open the input, cause 0x08. -/
  | senseMismatch
  /-- CONTROLLER_A_HEARTBEAT_LOST (R451): Controller A's heartbeat stopping for 100 µs makes the Constable open FET B, cause 0x0E. -/
  | controllerAHeartbeatLost
  /-- CONSTABLE_HEARTBEAT_LOST (R451): The Constable's heartbeat stopping makes controller A request stand-down, cause 0x0F, and sets CONSTABLE_LOST. -/
  | constableHeartbeatLost
  /-- GREEN_COMPARE_MISMATCH (R454): A duplicate-compare mismatch in the Green hub logic or its Fence slice forces datapath stand-down, cause 0x0B. -/
  | greenCompareMismatch
  /-- STANDDOWN_STRIP_TIMEOUT (R461): Strips still active 200 µs into an orderly stand-down stop at their checkpoints. -/
  | standdownStripTimeout
  /-- CAUSE_RELEASE (R561): A stand-down cause passes its release value and CAUSE_ACTIVE may clear. -/
  | causeRelease (cause : Nat)
  /-- SAF_WDOG_KICK (R459): A write of SAF_WDOG_KICK with the correct alternating key restarts the Constable watchdog, and a wrong key counts as a miss. -/
  | safWdogKick (i : Initiator) (key : Nat)
  /-- SAF_WDOG_EXPIRY (R459): Expiry of the Constable watchdog forces orderly stand-down, cause 0x0A. -/
  | safWdogExpiry
  /-- SAF_FORCE (R460): SAF_FORCE.GO through the control matrix forces stand-down, cause 0x0C. -/
  | safForce (i : Initiator)
  /-- SAF_FWWIN_WRITE (R466): A write to a firmware window through the control matrix is checked and applies to later writes. -/
  | safFwwinWrite (i : Initiator) (n hi v : Nat)
  /-- SPR_CMD_GO (R469): SPR_CMD.GO names a swap of the given croft or bank for a stroke, or is refused. -/
  | sprCmdGo (i : Initiator) (kind unit : Nat)
  /-- BANK_COPY_COMPLETE (R469): The copy to a seed bank ends, and GRN_MAP switches at the next strip boundary. -/
  | bankCopyComplete
  /-- PHASE_SHED (R471): A failed power phase is shed, the rail limit falls and a seed phase follows at the next stagger slot. -/
  | phaseShed (rail unit : Nat)
  /-- SPR_LOG_POP (R469): A consuming read of SPR_LOG_LO pops a sparing log entry. -/
  | sprLogPop (i : Initiator)
  /-- TAKE (R485): Setting a page's SNAP.TAKE copies its counters and pairs into its snapshot copy. -/
  | take (i : Initiator) (kind inst : Nat)
  /-- HOLD (R486): SNAP.HOLD makes reads of the page's counters and pairs return the snapshot copy. -/
  | hold (i : Initiator) (kind inst : Nat) (on : Bool)
  /-- DEVICE_SNAPSHOT_TAKE (R487): GLB_SNAP.TAKE sets T at least 2 µs ahead for a device-wide snapshot. -/
  | deviceSnapshotTake (i : Initiator)
  /-- DEVICE_SNAPSHOT_ARM (R488): GLB_SNAP.ARM names a device-wide snapshot for a stroke. -/
  | deviceSnapshotArm (i : Initiator)
  /-- DEVICE_SNAPSHOT_CANCEL (R488): GLB_SNAP.CANCEL discards the pending stroke-timed snapshot. -/
  | deviceSnapshotCancel (i : Initiator)
  /-- DEVICE_SNAPSHOT_AT_T (R487): At time T every page copies its counters and pairs, GLB_SNAP_BT takes T and SNAPPED is set. -/
  | deviceSnapshotAtT
  /-- ZERO (R482): CTRL.ZERO sets every counter of the page to zero. -/
  | zero (i : Initiator) (kind inst fz : Nat)
  /-- FREEZE (R482): CTRL.FREEZE holds the page's counters while it is 1. -/
  | freeze (i : Initiator) (kind inst : Nat) (on : Bool)
  /-- LOCK (R480): Setting LOCK makes every RWL field of the page read-only until reset. -/
  | lock (i : Initiator) (kind inst : Nat)
  /-- EVENT_FORCE (R478): A write of EVENT_FORCE sets EVENT bits as hardware would. -/
  | eventForce (i : Initiator) (kind inst v : Nat)
  /-- SET_VIEW_WRITE (R483): A write through the SET view sets the written bits of each field by its type, in one indivisible step. -/
  | setViewWrite (i : Initiator) (kind inst off v : Nat)
  /-- CLEAR_VIEW_WRITE (R483): A write through the CLEAR view clears the written bits of each field by its type. -/
  | clearViewWrite (i : Initiator) (kind inst off v : Nat)
  /-- TOGGLE_VIEW_WRITE (R483): A write through the TOGGLE view inverts the written bits of RW fields. -/
  | toggleViewWrite (i : Initiator) (kind inst off v : Nat)
  /-- PAIR_LO_READ (R485): A normal-view read of a _LO register latches the matching _HI for that initiator. -/
  | pairLoRead (i : Initiator) (kind inst off : Nat)
  /-- REGISTER_WRITE (R476): A write to a register with no behaviour of its own acts by field type, is checked and records any error in ERR_CODE. -/
  | registerWrite (i : Initiator) (kind inst off v : Nat)
  /-- PLDM_READ (R493): A PLDM monitoring or base request that only reads is served at any time. -/
  | pldmRead (binding what : Nat)
  /-- REQUEST_UPDATE (R493): A PLDM firmware update request is served only from the endpoint with an UPDATE session, writing the inactive bank. -/
  | requestUpdate (binding version svn : Nat) (image : List Byte)
  /-- VERIFY_COMPLETE (R507): At VerifyComplete the image's signature and SVN are checked and the bank marked invalid on failure. -/
  | verifyComplete (binding : Nat)
  /-- ACTIVATE_FIRMWARE (R507): ActivateFirmware marks the inactive bank pending for the next reset. -/
  | activateFirmware (binding : Nat)
  /-- KEY_EXCHANGE (R493): SPDM KEY_EXCHANGE and FINISH open a secured session for IDE key management. -/
  | keyExchange (binding : Nat) (io cm : Bool)
  /-- SPDM_MEASUREMENTS (R493): An SPDM request returns the measurement blocks of Table 20-2. -/
  | spdmMeasurements (binding ix : Nat)
  /-- OPEN (R495): A Gate OPEN is answered with CHALLENGE, or refused with REFUSE and a reason. -/
  | gateOpen (m : GateMsg)
  /-- PROVE (R495): A correct PROVE within 1 s opens the session and is answered with ACCEPT and a new SID. -/
  | gateProve (m : GateMsg)
  /-- PROVE_TIMEOUT (R497): A PROVE missing 1 s after CHALLENGE fails the opening and doubles the slot's backoff. -/
  | proveTimeout
  /-- INFO (R500): The Gate command INFO replies with life-cycle, slot, firmware and calibration state. -/
  | gateInfo (m : GateMsg)
  /-- SET_ID (R500): SET_ID has firmware write ALN_ID with the given module ID. -/
  | gateSetId (m : GateMsg)
  /-- WARM_RESET (R500): The Gate command WARM_RESET requests a Warm reset through GLB_RESET. -/
  | gateWarmReset (m : GateMsg)
  /-- POWER (R500): The Gate command POWER writes PWR_CMD with the given command. -/
  | gatePower (m : GateMsg)
  /-- CAL_SET (R505): CAL_SET stages one calibration delta after checking its bounds. -/
  | gateCalSet (m : GateMsg)
  /-- CAL_COMMIT (R506): CAL_COMMIT writes the staged deltas as a new page generation and applies them within 10 ms. -/
  | gateCalCommit (m : GateMsg)
  /-- LIFECYCLE (R502): LIFECYCLE advances the OTP life-cycle state, erases per Table 20-5 and performs a Warm reset. -/
  | gateLifecycle (m : GateMsg)
  /-- DEBUG_AUTH (R516): DEBUG_AUTH grants a Tally authorisation level for a lifetime within the life-cycle limit. -/
  | gateDebugAuth (m : GateMsg)
  /-- SVN_COMMIT (R509): SVN_COMMIT raises the OTP minimum SVN to that of the active image. -/
  | gateSvnCommit (m : GateMsg)
  /-- KEY_SET (R499): KEY_SET writes a key slot with rights from a masked key, in a slot 0 session only. -/
  | gateKeySet (m : GateMsg)
  /-- KEY_REVOKE (R499): KEY_REVOKE makes a slot other than 0 REVOKED. -/
  | gateKeyRevoke (m : GateMsg)
  /-- CLOSE (R496): A Gate CLOSE ends the session. -/
  | gateClose (m : GateMsg)
  /-- PROVISION (R503): PROVISION in BLANK over SMBus sets the slot 0 key and enters PROVISIONED. -/
  | provision (m : GateMsg)
  /-- SESSION_IDLE_TIMEOUT (R496): A Gate session with no accepted message for 30 s closes. -/
  | sessionIdleTimeout
  /-- TAMPER (R504): A tamper input open for 10 µs wipes the Strongroom, closes the session and latches TAMPER. -/
  | tamper (stays : Bool)
  /-- WIPE_DONE (R203): A Strongroom wipe completes and WIPE_DONE is reported. -/
  | wipeDone
  /-- TALLY_WAKE_SEQUENCE (R512): A Tally wake sequence brings the port into step. -/
  | tallyWakeSequence
  /-- TALLY_DIO_LOW_RESET (R512): TALLY_DIO held low for 256 clocks performs a Debug reset. -/
  | tallyDioLowReset
  /-- TALLY_READ_FRAME (R513): A Tally read frame returns a DBG register with ACK and DCRC. -/
  | tallyReadFrame (hdr crc : Nat)
  /-- TALLY_WRITE_FRAME (R513): A Tally write frame writes a DBG register, answered with ACK. -/
  | tallyWriteFrame (hdr wdata crc : Nat)
  /-- DBG_HALT (R518): DBG_RUN.HALT requests a halt of a reeve at its next instruction boundary. -/
  | dbgHalt (i : Initiator) (n : Nat)
  /-- HALT_TAKES_EFFECT (R518): A pending halt takes effect at an instruction boundary, setting HALTED and DBG_WHY. -/
  | haltTakesEffect (n : Nat)
  /-- FORCED_HALT (R518): A locked sequence still running after 256 cycles is broken and the halt forced, setting LOCK_BROKEN. -/
  | forcedHalt (n : Nat)
  /-- DBG_RESUME (R520): DBG_RUN.RESUME restarts a halted reeve at its PC. -/
  | dbgResume (i : Initiator) (n : Nat)
  /-- DBG_STEP (R520): DBG_RUN.STEP runs a halted reeve for one instruction and halts it again. -/
  | dbgStep (i : Initiator) (n : Nat)
  /-- DBG_REG_READ (R522): A read of DBG_REG_DATA_LO reads the selected reeve register and latches its high half. -/
  | dbgRegRead (i : Initiator)
  /-- DBG_REG_WRITE (R522): A write of DBG_REG_DATA_LO writes the selected register of a halted reeve with the held high half. -/
  | dbgRegWrite (i : Initiator) (v : Nat)
  /-- DBG_MM_GO (R523): DBG_MM_CTRL.GO starts a 4-byte memory-master access at DBG_MM_ADDR. -/
  | dbgMmGo (i : Initiator) (write auto consume : Nat)
  /-- DBG_MM_DATA_AUTO (R523): With AUTO = 1 an access of DBG_MM_DATA starts the next read or write. -/
  | dbgMmDataAuto (i : Initiator) (wdata : Option Nat)
  /-- MM_ACCESS_DONE (R524): A memory-master access completes, advances ADDR and records any error. -/
  | mmAccessDone
  /-- DEBUG_RESET (R526): DBG_CMD.DEBUG_RESET resets the debug domain, empties the trace and resumes halted reeves. -/
  | debugReset (i : Initiator)
  /-- DROP_AUTH (R516): DBG_CMD.DROP_AUTH drops the authorisation level. -/
  | dropAuth (i : Initiator)
  /-- MARK (R525): DBG_CMD.MARK records a marker trace record of VALUE. -/
  | dbgMark (i : Initiator) (v : Nat)
  /-- AUTH_EXPIRY (R516): The end of a DEBUG_AUTH lifetime drops the level and releases halted reeves. -/
  | authExpiry
  /-- MSIX_TABLE_WRITE (R393): A host write to a function's MSI-X table or PBA in BAR4 masks or unmasks a vector, and an unmask with its PBA bit set sends one message. -/
  | msixTableWrite (p fn off v : Nat)
  /-- CONFIGURATION_SPACE_WRITE (R391): A host configuration write sets Bus Master Enable, VF Enable and NumVFs, the CXL.cache, CXL.mem and unordered I/O enables, or the function power state. -/
  | configurationSpaceWrite (p fn : Nat) (field : ConfigField) (v : Nat)
  /-- SET_ENDPOINT_ID (R492): An MCTP control Set Endpoint ID request from the bus owner assigns the endpoint ID shared by all bindings. -/
  | setEndpointId (binding eid : Nat)
  /-- ILLEGAL_INSTR (R323): A reeve meets a reserved encoding, a broken field constraint or the halfword 0x0000 and raises the illegal-instruction exception. -/
  | illegalInstr (n : Nat)
  /-- FETCH_FAULT (R345): A reeve's instruction fetch faults in translation or finds poison, an uncorrectable error or a LOST stack, and raises FETCH_FAULT or FETCH_ERROR. -/
  | fetchFault (n ecc : Nat)
  /-- POWER_LOSS (R439): VIN falls below 6.0 V, the VNW and VSAF regulators stop, and the Nightwatch, Constable and bell time are lost. -/
  | powerLoss
  /-- BLOCKING_COMPARATOR_RELEASE (R440): In STANDBY, the last set blocking Nightwatch comparator releases while an enabled wake source is set, and the module wakes. -/
  | blockingComparatorRelease (bit : Nat)
  /-- HAMLET_CLOCK_GATING (R436): A hamlet with no active strip for 10 µs gates its croft clocks. -/
  | hamletClockGating (h : Nat)
  deriving DecidableEq, Repr

end Sys2Proof
end

