-- ==== Sys2Proof/Decode.lean ====
section
/-! DEFINITION. The command a word spells by the bits of spec/opcode_table.json. No row of the table has fields or bits, so no word spells
a command: the module takes its commands from its buses, pins and clocks. -/
namespace Sys2Proof

/-- The command spelled by `nbits` bits `w`: none, since no row of the table gives bits (log entry 1). -/
def decodeTableWord (_nbits _w : Nat) : Option Instr := none

end Sys2Proof
end

