-- ==== Sys2Proof/Config.lean ====
section
/-! DEFINITION. What an implementation fixes and the spec does not: uninterpreted constants with no body.
Each is named in a row of notes/assumptions; no proof can see a value of one. -/
namespace Sys2Proof

/-- A value the spec leaves open, as a number; the argument is the step's own counter (log entry 2). -/
opaque Config.freeValue : Nat → Nat

/-- A choice the spec leaves open, as a truth value; the argument is the step's own counter (log entry 2). -/
opaque Config.freeChoice : Nat → Bool

/-- The set of the shared TLB that a page number selects; Table 10-7 gives the number of sets and not their choice (log entry 8). -/
opaque Config.tlbSet : Nat → Nat

/-- The set of the walk cache that a prefix selects (log entry 8). -/
opaque Config.walkSet : Nat → Nat

/-- HMAC-SHA-384 of a message under a key (R495, R496; named by the spec, defined elsewhere, log entry 6). -/
opaque Config.hmacSha384 : Nat → List Byte → Nat

/-- SHA-384 of a message (R493, R508; log entry 6). -/
opaque Config.sha384 : List Byte → Nat

/-- Whether an image's ECDSA signature verifies against the ROM key (R507, R508; log entry 6). -/
opaque Config.signatureValid : List Byte → Bool

end Sys2Proof
end

