-- ==== Sys2Proof/Machine/Bits.lean ====
section
/-! DEFINITION. Bit fields of natural numbers, sign extension, byte lists and finite maps: the helpers every engine shares. -/
namespace Sys2Proof.Machine

/-- The field of `len` bits of `v` that begins at bit `lo` (bit ranges as R5 writes them). -/
def field (v lo len : Nat) : Nat := (v >>> lo) % 2 ^ len

/-- Bit `i` of `v`. -/
def bitOf (v i : Nat) : Bool := v.testBit i

/-- `v` with the field of `len` bits at `lo` replaced by `x`. -/
def putField (v lo len x : Nat) : Nat := v - (field v lo len) * 2 ^ lo + (x % 2 ^ len) * 2 ^ lo

/-- One if the condition holds, else zero. -/
def ofBool (b : Bool) : Nat := if b then 1 else 0

/-- A `w`-bit pattern read as two's complement (R110). -/
def toSigned (w v : Nat) : Int := if w ≠ 0 ∧ v ≥ 2 ^ (w - 1) then (v : Int) - (2 : Int) ^ w else (v : Int)

/-- The `w`-bit pattern of an integer, modulo `2^w`. -/
def wrapInt (w : Nat) (x : Int) : Nat := (x % ((2 : Int) ^ w)).toNat

/-- `v` of `w` bits, sign-extended to `m` bits. -/
def signExtend (w m v : Nat) : Nat := wrapInt m (toSigned w v)

/-- The `n` bytes of `v`, least significant first (R6). -/
def bytesOf : Nat → Nat → List Byte
  | 0, _ => []
  | n + 1, v => BitVec.ofNat 8 v :: bytesOf n (v / 256)

/-- The number that bytes spell, least significant first (R6). -/
def ofBytes : List Byte → Nat
  | [] => 0
  | b :: bs => b.toNat + 256 * ofBytes bs

/-- Number of one bits among the low `n` bits of `v`. -/
def popcount : Nat → Nat → Nat
  | 0, _ => 0
  | n + 1, v => v % 2 + popcount n (v / 2)

/-- Number of zero bits below the lowest one bit among the low `n` bits; `n` if there is none. -/
def trailingZeros : Nat → Nat → Nat
  | 0, _ => 0
  | n + 1, v => if v % 2 = 1 then 0 else 1 + trailingZeros n (v / 2)

/-- Number of zero bits above the highest one bit of an `n`-bit value; `n` if there is none. -/
def leadingZeros : Nat → Nat → Nat
  | 0, _ => 0
  | n + 1, v => if v.testBit n then 0 else 1 + leadingZeros n v

/-- Least `k ≤ fuel` with `v ≤ 2^k`, `fuel` if none. -/
def clog2 : Nat → Nat → Nat
  | 0, _ => 0
  | n + 1, v => if v ≤ 1 then 0 else 1 + clog2 n ((v + 1) / 2)

/-- Division rounded up. -/
def ceilDiv (a b : Nat) : Nat := (a + b - 1) / b

/-- A finite map keyed by number, in ascending key order: register files and banks of like units. -/
abbrev Map (α : Type) := List (Nat × α)

namespace Map

/-- The value kept under `k`, if any. -/
def find? {α : Type} : Map α → Nat → Option α
  | [], _ => none
  | (j, v) :: m, k => if j = k then some v else find? m k

/-- The value kept under `k`, or the value an unlisted key has. -/
def get {α : Type} (m : Map α) (dflt : α) (k : Nat) : α := (m.find? k).getD dflt

/-- The map with `v` kept under `k`. -/
def set {α : Type} : Map α → Nat → α → Map α
  | [], k, v => [(k, v)]
  | (j, u) :: m, k, v =>
    if k < j then (k, v) :: (j, u) :: m
    else if k = j then (k, v) :: m
    else (j, u) :: set m k v

/-- The map without key `k`. -/
def erase {α : Type} (m : Map α) (k : Nat) : Map α := m.filter (fun e => e.1 ≠ k)

end Map

/-- The natural numbers from `lo` to `lo + n - 1`. -/
def span (lo n : Nat) : List Nat := (List.range n).map (lo + ·)

/-- The least of a nonempty list under a key, the earliest among equals. -/
def argmin {α : Type} (key : α → Nat) : List α → Option α
  | [] => none
  | a :: as =>
    match argmin key as with
    | none => some a
    | some b => if key a ≤ key b then some a else some b

/-- An entry put before the first one with a greater key. -/
def insertBy {α : Type} (key : α → Nat) (a : α) : List α → List α
  | [] => [a]
  | b :: bs => if key a < key b then a :: b :: bs else b :: insertBy key a bs

/-- A list in ascending order of a key, equal keys in their order. -/
def sortBy {α : Type} (key : α → Nat) (as : List α) : List α := as.foldl (fun acc a => insertBy key a acc) []

end Sys2Proof.Machine
end

