-- ==== Sys2Proof/Machine/RegTable.lean ====
section
/-! DEFINITION. The registers of every page: offset, reset value and field types, as the register descriptions and
counter tables of the spec give them (R475 to R485; Tables 19-2, 19-3, 19-9, 19-10), and the page map of BAR0. -/
namespace Sys2Proof.Machine

/-- Field type codes of Table 0-3. -/
inductive FType where
  | ro | rw | rwl | w1c | w1s | wo | rc
  deriving DecidableEq, Repr

/-- One register of a page: its fields as (lowest bit, width, type); bits of no field are reserved (R9).
`ctr` marks a counter of CTRL (R482), `lo` the _LO half of a pair whose _HI half is the next register (R485). -/
structure RegRow where
  off : Nat
  reset : Nat := 0
  fields : List (Nat × Nat × FType)
  ctr : Bool := false
  lo : Bool := false
  deriving DecidableEq, Repr

/-- 48-bit counters laid out as in R157: _LO at each offset and _HI after it. -/
def counterRows (los : List Nat) : List RegRow :=
  los.flatMap (fun o => [{ off := o, fields := [(0, 32, .ro)], ctr := true, lo := true },
                         { off := o + 4, fields := [(0, 16, .ro)], ctr := true }])

/-- Eight window register pairs from an offset up. -/
def windowRows (base : Nat) (lo hi : List (Nat × Nat × FType)) : List RegRow :=
  (List.range 8).flatMap (fun n => [{ off := base + 8 * n, fields := lo }, { off := base + 8 * n + 4, fields := hi }])

/-- Table 13-5 with HKD_CTRL and HKD_STATE, for the eight channels. -/
def hkdChannelRows : List RegRow :=
  (List.range 8).flatMap (fun n =>
    let b := 0x100 + n * 0x40
    ((List.range 9).map (fun k => ({ off := b + 4 * k, fields := [(0, 32, .rw)] } : RegRow))) ++
    [{ off := b + 0x24, fields := [(0, 2, .rw), (8, 1, .w1s), (9, 1, .wo)] },
     { off := b + 0x28, fields := [(0, 3, .ro), (3, 1, .ro), (4, 1, .ro), (8, 4, .ro)] },
     { off := b + 0x2C, fields := [(0, 32, .ro)] }, { off := b + 0x30, fields := [(0, 32, .ro)] }])

/-- Common header of Table 19-2, but for ID, CAPS, STATUS and EVENT, which differ by block. -/
def headerRows : List RegRow := [
  { off := 0x000, fields := [(0, 32, .ro)] },
  { off := 0x004, fields := [(0, 32, .ro)] },
  { off := 0x008, fields := [(0, 1, .rw), (1, 1, .wo)] },
  { off := 0x014, fields := [(0, 32, .rw)] },
  { off := 0x018, fields := [(0, 32, .wo)] },
  { off := 0x01C, fields := [(0, 1, .w1s)] },
  { off := 0x020, fields := [(0, 1, .w1s), (1, 1, .rw), (2, 1, .ro), (3, 1, .ro), (8, 8, .ro)] },
  { off := 0x024, fields := [(0, 31, .ro), (31, 1, .w1c)] }]

/-- GLB page. -/
def regsGlb : List RegRow := [
  { off := 0x00C, reset := 0x0, fields := [(0, 1, .ro), (1, 1, .ro), (2, 1, .ro), (3, 1, .ro), (4, 1, .ro), (8, 4, .ro), (12, 1, .ro)] },
  { off := 0x010, reset := 0x0, fields := [(0, 1, .w1c), (1, 1, .w1c), (2, 1, .w1c), (3, 1, .w1c), (4, 1, .w1c), (5, 1, .w1c), (6, 1, .w1c), (7, 1, .w1c), (8, 1, .w1c), (9, 1, .w1c), (10, 1, .w1c)] },
  { off := 0x040, reset := 0x0, fields := [(0, 2, .ro), (2, 2, .ro), (4, 1, .ro), (6, 2, .ro), (8, 7, .ro)] },
  { off := 0x044, reset := 0x0, fields := [(0, 2, .rw), (2, 2, .rw), (4, 1, .rw), (6, 2, .rw), (8, 7, .rw)] },
  { off := 0x048, reset := 0x0, fields := [(0, 32, .rw)] },
  { off := 0x04C, reset := 0x0, fields := [(0, 8, .rw)] },
  { off := 0x050, reset := 0x0, fields := [(0, 1, .w1s), (1, 1, .wo)] },
  { off := 0x054, reset := 0x0, fields := [(0, 1, .wo), (8, 8, .wo)] },
  { off := 0x058, reset := 0x0, fields := [(0, 1, .w1s), (1, 1, .w1s), (2, 1, .wo)] },
  { off := 0x05C, reset := 0x0, fields := [(0, 20, .ro)] },
  { off := 0x078, reset := 0x0, fields := [(0, 32, .rw)] },
  { off := 0x07C, reset := 0x0, fields := [(0, 8, .rw)] },
  { off := 0x080, reset := 0x0, fields := [(0, 32, .ro)] },
  { off := 0x084, reset := 0x0, fields := [(0, 32, .ro)] },
  { off := 0x088, reset := 0x0, fields := [(0, 8, .ro), (8, 1, .ro), (9, 1, .ro), (10, 6, .ro), (31, 1, .ro)] },
  { off := 0x08C, reset := 0x0, fields := [(0, 26, .ro)] },
  { off := 0x090, reset := 0x0, fields := [(0, 32, .ro)], ctr := true },
  { off := 0x094, reset := 0x0, fields := [(0, 32, .ro)] },
  { off := 0x098, reset := 0x0, fields := [(0, 32, .rw)] },
  { off := 0x09C, reset := 0x0, fields := [(0, 32, .rw)] },
  { off := 0x0A0, reset := 0x0, fields := [(0, 32, .ro)] },
  { off := 0x0A4, reset := 0x0, fields := [(0, 32, .ro)] },
  { off := 0x0A8, reset := 0x0, fields := [(0, 32, .ro)] },
  { off := 0x0AC, reset := 0x0, fields := [(0, 32, .ro)] },
  { off := 0x0B0, reset := 0x0, fields := [(0, 32, .ro)] },
  { off := 0x0B4, reset := 0x0, fields := [(0, 32, .ro)] },
  { off := 0x0B8, reset := 0x0, fields := [(0, 32, .ro)] },
  { off := 0x0BC, reset := 0x0, fields := [(0, 32, .ro)] }]

/-- SWR page. -/
def regsSwr : List RegRow := [
  { off := 0x048, reset := 0x1000, fields := [(0, 17, .rw), (24, 1, .rw)] }]

/-- LDG page. -/
def regsLdg : List RegRow := [
  { off := 0x00C, reset := 0x0, fields := [(0, 1, .ro), (1, 1, .ro), (2, 1, .ro)] },
  { off := 0x010, reset := 0x0, fields := [(0, 1, .w1c), (1, 1, .w1c), (2, 1, .w1c), (3, 1, .w1c), (4, 1, .w1c), (5, 1, .w1c), (6, 1, .w1c)] },
  { off := 0x040, reset := 0x4, fields := [(0, 8, .rwl), (8, 8, .rwl)] },
  { off := 0x044, reset := 0x1F4, fields := [(0, 16, .rw)] },
  { off := 0x048, reset := 0x0, fields := [(0, 12, .rwl), (12, 13, .rwl)] },
  { off := 0x04C, reset := 0x0, fields := [(0, 7, .rwl), (7, 1, .rwl), (8, 1, .rwl), (16, 11, .rwl)] },
  { off := 0x050, reset := 0x0, fields := [(0, 12, .rw), (31, 1, .w1s)] },
  { off := 0x054, reset := 0x0, fields := [(0, 12, .rc), (12, 12, .rc), (31, 1, .rc)] },
  { off := 0x058, reset := 0x0, fields := [(0, 12, .ro), (12, 2, .ro)] },
  { off := 0x05C, reset := 0x0, fields := [(0, 12, .wo), (12, 1, .wo)] },
  { off := 0x060, reset := 0x0, fields := [(0, 12, .rw)] },
  { off := 0x064, reset := 0x0, fields := [(0, 2, .ro), (2, 1, .ro), (3, 1, .ro)] }]

/-- CHN page. -/
def regsChn : List RegRow := [
  { off := 0x040, reset := 0x0, fields := [(12, 20, .rwl)] },
  { off := 0x044, reset := 0x0, fields := [(0, 32, .rwl)] },
  { off := 0x048, reset := 0x0, fields := [(0, 2, .rwl)] },
  { off := 0x04C, reset := 0x0, fields := [(0, 12, .rw), (12, 1, .rw), (31, 1, .w1s)] },
  { off := 0x050, reset := 0x0, fields := [(0, 10, .ro), (16, 10, .ro)] },
  { off := 0x054, reset := 0x40000, fields := [(0, 19, .ro)] }]

/-- XLT page. -/
def regsXlt : List RegRow := [
  { off := 0x00C, reset := 0x0, fields := [(0, 1, .ro), (8, 7, .ro)] },
  { off := 0x040, reset := 0x3, fields := [(0, 1, .rwl), (1, 1, .rwl), (2, 1, .rwl), (3, 1, .rwl)] },
  { off := 0x044, reset := 0x0, fields := [(0, 32, .rw)] },
  { off := 0x048, reset := 0x0, fields := [(0, 32, .rw)] },
  { off := 0x04C, reset := 0x0, fields := [(0, 16, .rw), (16, 3, .rw), (19, 6, .rw), (31, 1, .w1s)] },
  { off := 0x050, reset := 0x0, fields := [(12, 20, .rwl)] },
  { off := 0x054, reset := 0x0, fields := [(0, 24, .rwl)] },
  { off := 0x080, reset := 0x0, fields := [(0, 1, .rwl), (1, 6, .rwl), (12, 20, .rwl)] },
  { off := 0x084, reset := 0x0, fields := [(0, 24, .rwl)] }]

/-- HLK page. -/
def regsHlk : List RegRow := [
  { off := 0x00C, reset := 0x0, fields := [(0, 1, .ro), (1, 3, .ro), (4, 5, .ro), (9, 1, .ro), (10, 1, .ro), (11, 1, .ro), (12, 1, .ro), (13, 1, .ro), (14, 1, .ro), (15, 1, .ro)] },
  { off := 0x010, reset := 0x0, fields := [(0, 1, .w1c), (1, 1, .w1c), (2, 1, .w1c), (3, 1, .w1c), (4, 1, .w1c), (5, 1, .w1c), (6, 1, .w1c)] },
  { off := 0x040, reset := 0x6, fields := [(0, 3, .rwl), (3, 1, .rwl), (4, 1, .rwl)] },
  { off := 0x044, reset := 0x10000, fields := [(0, 11, .rw), (16, 11, .rw)] },
  { off := 0x048, reset := 0xA, fields := [(0, 16, .rw)] }]

/-- BEL page. -/
def regsBel : List RegRow := [
  { off := 0x00C, reset := 0x48, fields := [(0, 2, .ro), (2, 3, .ro), (5, 3, .ro), (8, 12, .ro), (20, 12, .ro)] },
  { off := 0x010, reset := 0x0, fields := [(0, 1, .w1c), (1, 1, .w1c), (2, 1, .w1c), (3, 1, .w1c), (4, 1, .w1c), (5, 1, .w1c)] },
  { off := 0x040, reset := 0x4020, fields := [(0, 3, .rw), (4, 3, .rw), (8, 8, .rw)] },
  { off := 0x044, reset := 0x0, fields := [(0, 32, .ro)] },
  { off := 0x048, reset := 0x0, fields := [(0, 32, .ro)] },
  { off := 0x04C, reset := 0x30D40, fields := [(0, 24, .ro)] }]

/-- ALN page. -/
def regsAln : List RegRow := [
  { off := 0x00C, reset := 0x0, fields := [(0, 3, .ro), (3, 4, .ro), (8, 12, .ro), (20, 1, .ro)] },
  { off := 0x010, reset := 0x0, fields := [(0, 1, .w1c), (1, 1, .w1c), (2, 1, .w1c), (3, 1, .w1c), (4, 1, .w1c), (5, 1, .w1c)] },
  { off := 0x040, reset := 0x7, fields := [(0, 1, .rwl), (1, 1, .rw), (2, 1, .rw)] },
  { off := 0x044, reset := 0x0, fields := [(0, 16, .ro)] },
  { off := 0x048, reset := 0x0, fields := [(0, 12, .rwl), (12, 1, .rwl), (13, 1, .ro)] },
  { off := 0x04C, reset := 0x0, fields := [(0, 12, .rw)] },
  { off := 0x050, reset := 0x7, fields := [(0, 3, .ro), (4, 12, .ro), (16, 16, .ro)] },
  { off := 0x054, reset := 0x300C8, fields := [(0, 16, .rw), (16, 2, .rw)] },
  { off := 0x0C0, reset := 0x0, fields := [(0, 1, .rwl), (1, 6, .rwl), (7, 1, .rwl), (12, 20, .rwl)] },
  { off := 0x0C4, reset := 0x0, fields := [(0, 8, .rwl)] }]

/-- PWR page. -/
def regsPwr : List RegRow := [
  { off := 0x00C, reset := 0x0, fields := [(0, 3, .ro), (3, 1, .ro), (4, 1, .ro), (5, 1, .ro), (6, 1, .ro), (7, 1, .ro)] },
  { off := 0x010, reset := 0x0, fields := [(0, 1, .w1c), (1, 1, .w1c), (2, 1, .w1c), (3, 1, .w1c)] },
  { off := 0x040, reset := 0x0, fields := [(0, 2, .wo)] },
  { off := 0x044, reset := 0x100, fields := [(0, 8, .rwl), (8, 1, .rwl)] },
  { off := 0x048, reset := 0x64, fields := [(0, 10, .rw)] },
  { off := 0x050, reset := 0x0, fields := [(0, 32, .ro)] },
  { off := 0x054, reset := 0x0, fields := [(0, 32, .ro)] },
  { off := 0x058, reset := 0x0, fields := [(0, 32, .ro)] },
  { off := 0x05C, reset := 0x0, fields := [(0, 32, .ro)] }]

/-- SAF page. -/
def regsSaf : List RegRow := [
  { off := 0x00C, reset := 0x0, fields := [(0, 1, .ro), (1, 1, .ro), (2, 1, .ro), (3, 1, .ro), (4, 1, .ro), (8, 8, .ro)] },
  { off := 0x010, reset := 0x0, fields := [(0, 1, .w1c), (1, 1, .w1c), (2, 1, .w1c), (3, 1, .w1c), (4, 1, .w1c), (5, 1, .w1c)] },
  { off := 0x040, reset := 0x0, fields := [(1, 17, .ro)] },
  { off := 0x044, reset := 0x64, fields := [(0, 16, .rwl)] },
  { off := 0x048, reset := 0x0, fields := [(0, 8, .wo)] },
  { off := 0x04C, reset := 0x0, fields := [(0, 1, .wo)] },
  { off := 0x050, reset := 0x0, fields := [(0, 12, .ro), (12, 5, .ro), (17, 1, .ro), (31, 1, .ro)] },
  { off := 0x054, reset := 0x0, fields := [(0, 32, .ro)] },
  { off := 0x058, reset := 0x0, fields := [(0, 32, .ro)] },
  { off := 0x0A0, reset := 0x0, fields := [(0, 32, .ro)] },
  { off := 0x0A4, reset := 0x0, fields := [(0, 32, .ro)] },
  { off := 0x0A8, reset := 0x0, fields := [(0, 32, .ro)] },
  { off := 0x0C0, reset := 0x0, fields := [(0, 1, .rwl), (1, 6, .rwl), (12, 20, .rwl)] },
  { off := 0x0C4, reset := 0x0, fields := [(0, 24, .rwl)] }]

/-- SPR page. -/
def regsSpr : List RegRow := [
  { off := 0x00C, reset := 0x0, fields := [(0, 5, .ro), (5, 4, .ro), (9, 1, .ro), (10, 2, .ro), (12, 2, .ro), (14, 4, .ro), (18, 7, .ro), (25, 1, .ro)] },
  { off := 0x010, reset := 0x0, fields := [(0, 1, .w1c), (1, 1, .w1c), (2, 1, .w1c), (3, 1, .w1c), (4, 1, .w1c)] },
  { off := 0x040, reset := 0x1, fields := [(0, 8, .rwl)] },
  { off := 0x044, reset := 0x0, fields := [(0, 2, .rw), (4, 9, .rw), (31, 1, .w1s)] },
  { off := 0x048, reset := 0x0, fields := [(0, 32, .rw)] },
  { off := 0x04C, reset := 0x0, fields := [(0, 8, .rw)] },
  { off := 0x050, reset := 0x0, fields := [(0, 9, .rc), (9, 9, .rc), (18, 3, .rc), (21, 3, .rc), (31, 1, .rc)] },
  { off := 0x054, reset := 0x0, fields := [(0, 32, .ro)] }]

/-- MGT page. -/
def regsMgt : List RegRow := [
  { off := 0x00C, reset := 0x0, fields := [(0, 3, .ro), (3, 1, .ro), (4, 3, .ro), (7, 1, .ro), (8, 1, .ro), (9, 1, .ro), (10, 1, .ro)] },
  { off := 0x010, reset := 0x0, fields := [(0, 1, .w1c), (1, 1, .w1c), (2, 1, .w1c), (3, 1, .w1c), (4, 1, .w1c), (5, 1, .w1c), (6, 1, .w1c), (7, 1, .w1c)] },
  { off := 0x040, reset := 0x0, fields := [(0, 16, .ro)] },
  { off := 0x044, reset := 0x0, fields := [(0, 8, .rw)] },
  { off := 0x048, reset := 0x0, fields := [(0, 16, .ro), (16, 16, .ro)] },
  { off := 0x04C, reset := 0x0, fields := [(0, 16, .ro), (16, 6, .ro), (22, 6, .ro)] }]

/-- MBX page. -/
def regsMbx : List RegRow := [
  { off := 0x00C, reset := 0x0, fields := [(0, 4, .ro), (4, 1, .ro), (8, 4, .ro), (12, 1, .ro), (16, 1, .ro)] },
  { off := 0x010, reset := 0x0, fields := [(0, 1, .w1c), (1, 1, .w1c), (2, 1, .w1c), (3, 1, .w1c)] },
  { off := 0x040, reset := 0x0, fields := [(0, 32, .rw)] },
  { off := 0x044, reset := 0x0, fields := [(0, 32, .wo)] },
  { off := 0x048, reset := 0x0, fields := [(0, 32, .rc)] },
  { off := 0x04C, reset := 0x0, fields := [(0, 32, .ro)] },
  { off := 0x050, reset := 0x0, fields := [(0, 16, .ro), (16, 8, .ro), (31, 1, .ro)] },
  { off := 0x054, reset := 0x0, fields := [(0, 16, .ro)] }]

/-- DBG page. -/
def regsDbg : List RegRow := [
  { off := 0x00C, reset := 0x0, fields := [(0, 5, .ro), (5, 5, .ro), (10, 2, .ro), (12, 1, .ro)] },
  { off := 0x010, reset := 0x0, fields := [(0, 1, .w1c), (1, 1, .w1c), (2, 1, .w1c), (3, 1, .w1c), (4, 1, .w1c)] },
  { off := 0x040, reset := 0x0, fields := [(0, 5, .w1s), (8, 5, .wo), (16, 5, .wo)] },
  { off := 0x044, reset := 0x0, fields := [(0, 5, .rw), (8, 5, .rw), (16, 1, .rw), (17, 1, .rw)] },
  { off := 0x048, reset := 0x1, fields := [(0, 1, .rw)] },
  { off := 0x04C, reset := 0x0, fields := [(0, 15, .ro)] },
  { off := 0x050, reset := 0x0, fields := [(0, 16, .rw), (16, 3, .rw)] },
  { off := 0x054, reset := 0x0, fields := [(0, 32, .rw)] },
  { off := 0x058, reset := 0x0, fields := [(0, 32, .rw)] },
  { off := 0x05C, reset := 0x0, fields := [(0, 2, .ro), (16, 16, .ro)] },
  { off := 0x060, reset := 0x0, fields := [(0, 1, .wo), (1, 1, .wo), (2, 1, .wo), (16, 16, .wo)] },
  { off := 0x064, reset := 0x0, fields := [(0, 32, .rw)] },
  { off := 0x068, reset := 0x0, fields := [(0, 32, .rw)] },
  { off := 0x06C, reset := 0x0, fields := [(0, 32, .rw)] },
  { off := 0x070, reset := 0x0, fields := [(0, 1, .w1s), (1, 1, .rw), (2, 1, .rw), (3, 1, .rw), (4, 4, .ro)] },
  { off := 0x080, reset := 0x0, fields := [(0, 6, .rw), (6, 1, .rw), (8, 12, .rw)] },
  { off := 0x084, reset := 0x0, fields := [(0, 32, .ro)] },
  { off := 0x088, reset := 0x0, fields := [(0, 32, .rw)] },
  { off := 0x08C, reset := 0x0, fields := [(0, 32, .ro)], ctr := true },
  { off := 0x0A0, reset := 0x0, fields := [(0, 32, .ro)] },
  { off := 0x0A4, reset := 0x0, fields := [(0, 32, .ro)] },
  { off := 0x0A8, reset := 0x0, fields := [(0, 32, .ro)] },
  { off := 0x0AC, reset := 0x0, fields := [(0, 32, .ro)] },
  { off := 0x0B0, reset := 0x0, fields := [(0, 32, .ro)] },
  { off := 0x0B4, reset := 0x0, fields := [(0, 32, .ro)] },
  { off := 0x0B8, reset := 0x0, fields := [(0, 32, .ro)] },
  { off := 0x0BC, reset := 0x0, fields := [(0, 32, .ro)] }]

/-- NWT page. -/
def regsNwt : List RegRow := [
  { off := 0x00C, reset := 0x0, fields := [(0, 8, .ro)] },
  { off := 0x010, reset := 0x0, fields := [(0, 8, .w1c)] },
  { off := 0x040, reset := 0x30, fields := [(4, 1, .rw), (5, 1, .rw), (8, 1, .rw)] },
  { off := 0x044, reset := 0x0, fields := [(0, 32, .rw)] },
  { off := 0x048, reset := 0x0, fields := [(0, 8, .rw)] },
  { off := 0x04C, reset := 0x0, fields := [(0, 4, .ro)] }]

/-- HBM page. -/
def regsHbm : List RegRow := [
  { off := 0x00C, reset := 0x0, fields := [(0, 3, .ro), (8, 8, .ro), (16, 1, .ro)] },
  { off := 0x040, reset := 0x4000100, fields := [(0, 12, .rwl), (16, 12, .rwl)] },
  { off := 0x044, reset := 0x0, fields := [(0, 16, .ro)] },
  { off := 0x048, reset := 0x118, fields := [(0, 8, .rw), (8, 1, .rw)] },
  { off := 0x050, reset := 0x0, fields := [(0, 32, .ro)] },
  { off := 0x054, reset := 0x0, fields := [(0, 7, .ro), (31, 1, .ro)] }]

/-- GRN control page. -/
def regsGrn : List RegRow := [
  { off := 0x040, reset := 0x4000100, fields := [(0, 12, .rwl), (16, 12, .rwl)] },
  { off := 0x044, reset := 0x103E8, fields := [(0, 16, .rw), (16, 1, .rw)] },
  { off := 0x048, reset := 0x0, fields := [(0, 8, .rw)] },
  { off := 0x04C, reset := 0x0, fields := [(0, 9, .ro)] }]

/-- GRN bank page. -/
def regsGrnb : List RegRow := [
  { off := 0x00C, reset := 0x0, fields := [(0, 3, .ro), (8, 8, .ro)] },
  { off := 0x040, reset := 0x0, fields := [(0, 32, .ro)], ctr := true },
  { off := 0x044, reset := 0x0, fields := [(0, 32, .ro)], ctr := true },
  { off := 0x048, reset := 0x0, fields := [(0, 13, .ro), (13, 1, .ro), (31, 1, .ro)] }]

/-- CRF page. -/
def regsCrf : List RegRow := [
  { off := 0x00C, reset := 0x0, fields := [(0, 3, .ro), (8, 3, .ro), (16, 6, .ro), (24, 1, .ro), (25, 1, .ro), (26, 1, .ro)] },
  { off := 0x040, reset := 0x0, fields := [(0, 1, .wo), (1, 1, .wo), (2, 1, .wo)] },
  { off := 0x044, reset := 0x0, fields := [(0, 3, .rwl), (8, 1, .w1s), (9, 1, .w1c)] },
  { off := 0x048, reset := 0x0, fields := [(0, 32, .ro)], ctr := true },
  { off := 0x04C, reset := 0x0, fields := [(0, 3, .ro), (3, 1, .ro), (4, 3, .ro), (8, 16, .ro)] },
  { off := 0x050, reset := 0x0, fields := [(0, 32, .ro)] },
  { off := 0x054, reset := 0x0, fields := [(0, 32, .ro)] },
  { off := 0x058, reset := 0x0, fields := [(0, 8, .ro), (8, 8, .ro), (16, 8, .ro), (24, 8, .ro)] },
  { off := 0x0A0, reset := 0x0, fields := [(0, 16, .ro), (16, 16, .ro)] },
  { off := 0x0A4, reset := 0x0, fields := [(0, 32, .ro)] }]

/-- CMX page. -/
def regsCmx : List RegRow := [
  { off := 0x010, reset := 0x0, fields := [(0, 1, .w1c), (1, 1, .w1c)] },
  { off := 0x040, reset := 0x0, fields := [(0, 1, .w1s)] },
  { off := 0x044, reset := 0x4000100, fields := [(0, 12, .rwl), (16, 12, .rwl)] },
  { off := 0x048, reset := 0x0, fields := [(0, 8, .ro), (8, 1, .ro), (31, 1, .ro)] },
  { off := 0x04C, reset := 0x0, fields := [(0, 32, .ro)] },
  { off := 0x050, reset := 0x0, fields := [(0, 32, .ro)] },
  { off := 0x054, reset := 0x0, fields := [(0, 8, .ro), (8, 1, .ro), (31, 1, .ro)] },
  { off := 0x058, reset := 0x0, fields := [(0, 32, .ro)] },
  { off := 0x05C, reset := 0x0, fields := [(0, 32, .ro)] },
  { off := 0x060, reset := 0x0, fields := [(0, 32, .ro)], ctr := true },
  { off := 0x064, reset := 0x0, fields := [(0, 32, .ro)], ctr := true }]

/-- HKD page. -/
def regsHkd : List RegRow := [
  { off := 0x010, reset := 0x0, fields := [(0, 9, .w1c)] },
  { off := 0x040, reset := 0x0, fields := [(0, 1, .wo)] },
  { off := 0x044, reset := 0x0, fields := [(0, 3, .ro), (4, 4, .ro), (31, 1, .ro)] },
  { off := 0x048, reset := 0x0, fields := [(0, 32, .ro)] },
  { off := 0x04C, reset := 0x0, fields := [(0, 32, .ro)] }]

/-- Registers of a page kind (the BLOCK code of Table 19-3), STATUS and EVENT reading zero where the block gives none. -/
def pageRows (kind : Nat) : List RegRow :=
  let own := match kind with
    | 1 => regsGlb ++ counterRows [0x060, 0x068, 0x070]
    | 2 => regsSwr ++ counterRows [0x060, 0x068, 0x070, 0x078, 0x080, 0x088, 0x090, 0x098, 0x0A0]
    | 3 => regsLdg ++ counterRows [0x080, 0x088, 0x090, 0x098, 0x0A0, 0x0A8, 0x0B0]
    | 4 => regsChn ++ counterRows [0x060, 0x068, 0x070, 0x078, 0x080, 0x088, 0x090]
    | 5 => regsXlt ++ counterRows [0x0C0, 0x0C8, 0x0D0, 0x0D8, 0x0E0, 0x0E8] ++ windowRows 0x80 [(0, 1, .rwl), (1, 6, .rwl), (12, 20, .rwl)] [(0, 24, .rwl)]
    | 6 => regsHlk ++ counterRows [0x060, 0x068, 0x070, 0x078, 0x080, 0x088, 0x090, 0x098, 0x0A0]
    | 7 => regsBel ++ counterRows [0x060, 0x068, 0x070, 0x078]
    | 8 => regsAln ++ counterRows [0x060, 0x068, 0x070, 0x078, 0x080, 0x088, 0x090, 0x098, 0x0A0] ++ windowRows 0xC0 [(0, 1, .rwl), (1, 6, .rwl), (7, 1, .rwl), (12, 20, .rwl)] [(0, 8, .rwl)]
    | 9 => regsPwr ++ counterRows [0x060, 0x068, 0x070]
    | 10 => regsSaf ++ counterRows [0x060, 0x068, 0x070, 0x078] ++ windowRows 0xC0 [(0, 1, .rwl), (1, 6, .rwl), (12, 20, .rwl)] [(0, 24, .rwl)]
    | 11 => regsSpr ++ counterRows [0x060, 0x068]
    | 12 => regsMgt ++ counterRows [0x060, 0x068, 0x070, 0x078]
    | 13 => regsMbx
    | 14 => regsDbg
    | 15 => regsNwt
    | 16 => regsHbm ++ counterRows [0x060, 0x068, 0x070, 0x078, 0x080]
    | 17 => regsGrn ++ counterRows [0x060, 0x068, 0x070, 0x078]
    | 18 => regsGrnb
    | 19 => regsCrf ++ counterRows [0x060, 0x068, 0x070, 0x078, 0x080, 0x088, 0x090, 0x098]
    | 20 => regsCmx
    | 21 => regsHkd ++ hkdChannelRows
    | _ => []
  let opt (o : Nat) : List RegRow := if own.any (fun r => r.off = o) then [] else [{ off := o, fields := [] }]
  headerRows ++ opt 0x00C ++ opt 0x010 ++ own

/-- First register of a kind's page at an offset, if the offset is implemented; ALN ports 1 to 3 lack the
module-wide registers of port 0 (R426, Table 19-9). -/
def findRow (kind inst off : Nat) : Option RegRow :=
  if kind = 8 ∧ inst ≠ 0 ∧ (off = 0x048 ∨ off = 0x04C ∨ off = 0x050 ∨ off = 0x054 ∨ off = 0x0A0 ∨ off = 0x0A4 ∨ off ≥ 0x0C0) then none
  else (pageRows kind).find? (fun r => r.off = off)

/-- Bits of the fields of one type. -/
def RegRow.maskOf (r : RegRow) (t : FType) : Nat :=
  r.fields.foldl (fun m f => if f.2.2 = t then m ||| ((2 ^ f.2.1 - 1) <<< f.1) else m) 0

/-- Bits that any field implements. -/
def RegRow.allMask (r : RegRow) : Nat := r.fields.foldl (fun m f => m ||| ((2 ^ f.2.1 - 1) <<< f.1)) 0

/-- Page number (offset / 16 KiB) of a kind's page (Tables 19-9 and 19-10; CMX, HKD and the reeve side of the mailboxes
follow BAR0 at 64 MiB, where Table 13-1 puts them). -/
def pageNo (kind inst : Nat) : Nat :=
  match kind with
  | 1 => 0
  | 2 => 1
  | 3 => 2
  | 4 => 3
  | 5 => 4
  | 6 => 5 + inst
  | 7 => 7
  | 8 => 8 + inst
  | 9 => 12
  | 10 => 13
  | 11 => 14
  | 12 => 15
  | 13 => 16 + inst
  | 14 => 20
  | 15 => 21
  | 16 => 24 + inst
  | 17 => 32
  | 18 => 33 + inst
  | 19 => 512 + inst
  | 20 => 4096
  | 21 => 4097
  | _ => 4098 + inst

/-- Kind of the reeve side of a mailbox, whose registers are those of kind 13. -/
def kMbxReeve : Nat := 22

/-- Kind and instance of a page number; none for a hole (Table 19-9). -/
def pageOf (no : Nat) : Option (Nat × Nat) :=
  if no < 5 then some (no + 1, 0)
  else if no < 7 then some (6, no - 5)
  else if no = 7 then some (7, 0)
  else if no < 12 then some (8, no - 8)
  else if no < 16 then some (no - 3, 0)
  else if no < 20 then some (13, no - 16)
  else if no = 20 then some (14, 0)
  else if no = 21 then some (15, 0)
  else if no < 24 then none
  else if no < 32 then some (16, no - 24)
  else if no = 32 then some (17, 0)
  else if no < 297 then some (18, no - 33)
  else if no < 512 then none
  else if no < 784 then some (19, no - 512)
  else if no < 4096 then none
  else if no = 4096 then some (20, 0)
  else if no = 4097 then some (21, 0)
  else if no < 4102 then some (kMbxReeve, no - 4098)
  else none

/-- Register file key of a register: page number and offset within the normal view. -/
def regKey (kind inst off : Nat) : Nat := pageNo kind inst * 0x4000 + off

/-- Rows of a kind, the reeve side of a mailbox included. -/
def rowsKind (kind : Nat) : Nat := if kind = kMbxReeve then 13 else kind

/-- Reset value of the register under a key. -/
def regReset (key : Nat) : BitVec 32 :=
  match pageOf (key / 0x4000) with
  | none => 0
  | some (k, i) =>
    match findRow (rowsKind k) i (key % 0x4000) with
    | none => 0
    | some r => BitVec.ofNat 32 r.reset

end Sys2Proof.Machine
end

