-- ==== Sys2Proof/Machine/StreamAlu.lean ====
section
/-! DEFINITION. Lane arithmetic of the 50 stream opcodes (Table 3-5, R88 to R107; edges Tables 4-3 and 4-6). -/
namespace Sys2Proof.Machine

/-- Sticky flag byte bits of Table 4-2. -/
def flagOV : Nat := 0x01
def flagCY : Nat := 0x02
def flagSAT : Nat := 0x04
def flagMQ : Nat := 0x08
def flagDZ : Nat := 0x10
def flagIX : Nat := 0x20
def flagPX : Nat := 0x40

/-- What a lane operation reads beside its operands: width, SIGNED, SAT, MONT, FUNC, AUX, the modulus,
whether D1 is NONE, and the lane's number in the stream (i × n + j, for FILL). -/
structure LaneCtx where
  w : Nat
  signed : Bool := false
  sat : Bool := false
  mont : Bool := false
  func : Nat := 0
  aux : Nat := 0
  q : Nat := 3
  d1None : Bool := true
  laneNo : Nat := 0
  sel : Bool := true
  deriving DecidableEq, Repr

/-- One lane's results: the value for D0 (a wide value is lo with hi above it), the value for D1, and its flags. -/
structure LaneOut where
  lo : Nat
  hi : Nat := 0
  d1 : Nat := 0
  flags : Nat := 0
  deriving DecidableEq, Repr

/-- A lane read as SIGNED states (R110). -/
def LaneCtx.val (c : LaneCtx) (v : Nat) : Int := if c.signed then toSigned c.w v else (v : Int)

/-- Least and greatest value of a lane (Table 4-1). -/
def LaneCtx.minVal (c : LaneCtx) : Int := if c.signed then -((2 : Int) ^ (c.w - 1)) else 0
def LaneCtx.maxVal (c : LaneCtx) : Int := if c.signed then (2 : Int) ^ (c.w - 1) - 1 else (2 : Int) ^ c.w - 1

/-- R91, R115: an exact result in its lane: kept when in range; else clamped with SAT, or wrapped with `lost`. -/
def LaneCtx.fit (c : LaneCtx) (lost : Nat) (x : Int) : LaneOut :=
  if c.minVal ≤ x ∧ x ≤ c.maxVal then { lo := wrapInt c.w x }
  else if c.sat then { lo := wrapInt c.w (if x < c.minVal then c.minVal else c.maxVal), flags := flagSAT }
  else { lo := wrapInt c.w x, flags := lost }

/-- OV for a signed and CY for an unsigned operation (R88). -/
def LaneCtx.ovcy (c : LaneCtx) : Nat := if c.signed then flagOV else flagCY

/-- Lane operands: a, b, c in slot order S0, S1, S2 (`ah` the high half where S0 is a pair). -/
structure LaneIn where
  a : Nat
  b : Nat := 0
  c : Nat := 0
  ah : Nat := 0
  deriving DecidableEq, Repr

def laneAdd (c : LaneCtx) (x : LaneIn) : LaneOut := c.fit c.ovcy (c.val x.a + c.val x.b)
def laneSub (c : LaneCtx) (x : LaneIn) : LaneOut := c.fit c.ovcy (c.val x.a - c.val x.b)
def laneNeg (c : LaneCtx) (x : LaneIn) : LaneOut := c.fit c.ovcy (0 - c.val x.a)
def laneAbs (c : LaneCtx) (x : LaneIn) : LaneOut := c.fit flagOV (if c.val x.a < 0 then - c.val x.a else c.val x.a)

/-- R93: the carry in is bit 0 of c; the carry out goes to D1, or raises CY where D1 is NONE. -/
def laneAddc (c : LaneCtx) (x : LaneIn) : LaneOut :=
  let t := x.a + x.b + x.c % 2
  let co := t / 2 ^ c.w
  { lo := t % 2 ^ c.w, d1 := co, flags := if c.d1None ∧ co ≠ 0 then flagCY else 0 }

/-- R93: borrow in and out as for the carry of ADDC. -/
def laneSubb (c : LaneCtx) (x : LaneIn) : LaneOut :=
  let t : Int := (x.a : Int) - x.b - (x.c % 2 : Nat)
  let bo := if t < 0 then 1 else 0
  { lo := wrapInt c.w t, d1 := bo, flags := if c.d1None ∧ bo ≠ 0 then flagCY else 0 }

def laneMin (c : LaneCtx) (x : LaneIn) : LaneOut := { lo := if c.val x.b < c.val x.a then x.b else x.a }
def laneMax (c : LaneCtx) (x : LaneIn) : LaneOut := { lo := if c.val x.a < c.val x.b then x.b else x.a }

/-- R90: CMP by FUNC; the one result bit is the lane's bit of the mask written (R44). -/
def laneCmp (c : LaneCtx) (x : LaneIn) : LaneOut :=
  let a := c.val x.a
  let b := c.val x.b
  { lo := ofBool (match c.func with
      | 0 => a == b
      | 1 => a != b
      | 2 => a < b
      | 3 => a ≤ b
      | 4 => b < a
      | _ => b ≤ a) }

/-- R90: LOGIC: result bit = bit (2 × a + b) of FUNC, for every bit of the lane. -/
def laneLogic (c : LaneCtx) (x : LaneIn) : LaneOut :=
  let m := 2 ^ c.w - 1
  let na := m ^^^ x.a
  let nb := m ^^^ x.b
  let t (i v : Nat) : Nat := if c.func.testBit i then v else 0
  { lo := t 0 (na &&& nb) ||| t 1 (na &&& x.b) ||| t 2 (x.a &&& nb) ||| t 3 (x.a &&& x.b) }

/-- R92: SHL; a shift of the width or more leaves 0 and raises CY or OV when a ≠ 0. -/
def laneShl (c : LaneCtx) (x : LaneIn) : LaneOut := c.fit c.ovcy (c.val x.a * (2 : Int) ^ (min x.b c.w))
def laneShr (c : LaneCtx) (x : LaneIn) : LaneOut := { lo := wrapInt c.w (c.val x.a / (2 : Int) ^ (min x.b c.w)) }

/-- Rotation of a `w`-bit value left by `s` mod `w`. -/
def rotLeft (w v s : Nat) : Nat := ((v <<< (s % w)) ||| (v >>> (w - s % w))) % 2 ^ w

def laneRotl (c : LaneCtx) (x : LaneIn) : LaneOut := { lo := rotLeft c.w x.a x.b }
def laneRotr (c : LaneCtx) (x : LaneIn) : LaneOut := { lo := rotLeft c.w x.a (c.w - x.b % c.w) }
def lanePopcnt (c : LaneCtx) (x : LaneIn) : LaneOut := { lo := popcount c.w x.a }
def laneClz (c : LaneCtx) (x : LaneIn) : LaneOut := { lo := leadingZeros c.w x.a }
def laneCtz (c : LaneCtx) (x : LaneIn) : LaneOut := { lo := trailingZeros c.w x.a }

/-- R118: low and high half of the exact product. -/
def laneMullo (c : LaneCtx) (x : LaneIn) : LaneOut := c.fit c.ovcy (c.val x.a * c.val x.b)
def laneMulhi (c : LaneCtx) (x : LaneIn) : LaneOut := { lo := wrapInt c.w (c.val x.a * c.val x.b / (2 : Int) ^ c.w) }
def laneMulw (c : LaneCtx) (x : LaneIn) : LaneOut :=
  let p := wrapInt (2 * c.w) (c.val x.a * c.val x.b)
  { lo := p % 2 ^ c.w, hi := p / 2 ^ c.w }

/-- R94: `k` steps of restoring division on (r, n) by v; the last component gathers CY. -/
def divSteps (w v : Nat) : Nat → Nat × Nat × Nat → Nat × Nat × Nat
  | 0, s => s
  | k + 1, (r, n, fl) =>
    let t := 2 * r + n / 2 ^ (w - 1)
    let n2 := (2 * n) % 2 ^ w
    let (t', n') := if t ≥ v then (t - v, n2 + 1) else (t, n2)
    divSteps w v k (t' % 2 ^ w, n', if t' ≥ 2 ^ w then fl ||| flagCY else fl)

def laneDivstep (c : LaneCtx) (x : LaneIn) : LaneOut :=
  let (r, n, fl) := divSteps c.w x.c c.aux (x.a, x.b, 0)
  { lo := r, d1 := n, flags := fl ||| (if x.c = 0 then flagDZ else 0) }

/-- Modular inverse of 2 modulo an odd q: halving `k` times gives R^−1 for R = 2^k. -/
def halveMod (q : Nat) : Nat → Nat → Nat
  | 0, v => v % q
  | k + 1, v =>
    let v := v % q
    halveMod q k (if v % 2 = 0 then v / 2 else (v + q) / 2)

/-- v × R^−1 mod q with R = 2^w (R95). -/
def LaneCtx.redc (c : LaneCtx) (v : Nat) : Nat := halveMod c.q c.w v

/-- R95: a product as MONT states. -/
def LaneCtx.mprod (c : LaneCtx) (a b : Nat) : Nat := if c.mont then c.redc (a * b) else a * b % c.q

/-- R121: MQ when any of the named operands is ≥ q. -/
def LaneCtx.mq (c : LaneCtx) (vs : List Nat) : Nat := if vs.any (fun v => v ≥ c.q) then flagMQ else 0

/-- (a − b) mod q, in [0, q − 1] (R120). -/
def subMod (q a b : Nat) : Nat := (a % q + (q - b % q)) % q

def laneMadd (c : LaneCtx) (x : LaneIn) : LaneOut := { lo := (c.mprod x.a x.b + x.c) % c.q, flags := c.mq [x.a, x.b, x.c] }
def laneMmul (c : LaneCtx) (x : LaneIn) : LaneOut := { lo := c.mprod x.a x.b, flags := c.mq [x.a, x.b] }
def laneMaddq (c : LaneCtx) (x : LaneIn) : LaneOut := { lo := (x.a + x.b) % c.q, flags := c.mq [x.a, x.b] }
def laneMsubq (c : LaneCtx) (x : LaneIn) : LaneOut := { lo := subMod c.q x.a x.b, flags := c.mq [x.a, x.b] }
def laneMred (c : LaneCtx) (x : LaneIn) : LaneOut :=
  let p := x.a + x.ah * 2 ^ c.w
  { lo := if c.mont then c.redc p else p % c.q, flags := if c.mont then c.mq [x.ah] else 0 }
def laneMtom (c : LaneCtx) (x : LaneIn) : LaneOut := { lo := x.a * 2 ^ c.w % c.q, flags := c.mq [x.a] }
def laneMfrom (c : LaneCtx) (x : LaneIn) : LaneOut := { lo := c.redc x.a, flags := c.mq [x.a] }

/-- R96: BFLY in its CT (FUNC 0) and GS (FUNC 1) form; S2 is the twiddle t. -/
def laneBfly (c : LaneCtx) (x : LaneIn) : LaneOut :=
  let fl := c.mq [x.a, x.b, x.c]
  if c.func = 0 then
    let u := c.mprod x.c x.b
    { lo := (x.a + u) % c.q, d1 := subMod c.q x.a u, flags := fl }
  else { lo := (x.a + x.b) % c.q, d1 := c.mprod x.c (subMod c.q x.a x.b), flags := fl }

def laneSel (c : LaneCtx) (x : LaneIn) : LaneOut := { lo := if c.sel then x.a else x.b }
def laneCopy (_ : LaneCtx) (x : LaneIn) : LaneOut := { lo := x.a }

/-- R98: FILL: constant, or the sequence a + (i × n + j) × b. -/
def laneFill (c : LaneCtx) (x : LaneIn) : LaneOut :=
  { lo := if c.func = 0 then x.a else (x.a + c.laneNo * x.b) % 2 ^ c.w }

/-- R97: NARROW of a 2w-bit value, PX where bits are lost. -/
def laneNarrow (c : LaneCtx) (x : LaneIn) : LaneOut :=
  let p := x.a + x.ah * 2 ^ c.w
  c.fit flagPX (if c.signed then toSigned (2 * c.w) p else (p : Int))

def laneWiden (c : LaneCtx) (x : LaneIn) : LaneOut :=
  let p := wrapInt (2 * c.w) (c.val x.a)
  { lo := p % 2 ^ c.w, hi := p / 2 ^ c.w }

/-- R102, R105: the movers hand their value on; CMPX writes the lesser and the greater. -/
def laneCmpx (c : LaneCtx) (x : LaneIn) : LaneOut := { lo := (laneMin c x).lo, d1 := (laneMax c x).lo }

/-- The xor-shift that ends ZMIX; it is its own inverse, for its shift is more than half the width. -/
def zmixFold (v : Nat) : Nat := v ^^^ (v >>> 71)

/-- R106. -/
def zmix (x k : Nat) : Nat :=
  let m := 0x5C2A91E73B0D64F9A87E1D53C6B40F29
  let M := 2 ^ 128
  let v := x ^^^ k
  let v := (v * m) % M
  let v := v ^^^ (v >>> 64)
  let v := (v + rotLeft 128 k 43) % M
  let v := (v * m) % M
  zmixFold v

def laneZmix (_ : LaneCtx) (x : LaneIn) : LaneOut := { lo := zmix x.a x.b }

/-- R68, R90: the REDUCE and SCAN operators: 0 ADD, 1 MIN, 2 MAX, 3 AND, 4 OR, 5 XOR. -/
def foldOp (c : LaneCtx) (op a b : Nat) : LaneOut :=
  match op with
  | 0 => laneAdd c { a := a, b := b }
  | 1 => laneMin c { a := a, b := b }
  | 2 => laneMax c { a := a, b := b }
  | 3 => { lo := a &&& b }
  | 4 => { lo := a ||| b }
  | _ => { lo := a ^^^ b }

/-- R68: the operator's identity in a lane. -/
def foldIdentity (c : LaneCtx) (op : Nat) : Nat :=
  match op with
  | 1 => wrapInt c.w c.maxVal
  | 2 => wrapInt c.w c.minVal
  | 3 => 2 ^ c.w - 1
  | _ => 0

/-- Lane `j` of an element of lane width `w` (R39). -/
def laneOf (w : Nat) (e : Nat) (j : Nat) : Nat := field e (j * w) w

/-- An element made of its lanes, lane 0 first (R39). -/
def ofLanes (w : Nat) : List Nat → Nat
  | [] => 0
  | v :: vs => v % 2 ^ w + 2 ^ w * ofLanes w vs

/-- Residue of an element (R124). -/
def residue (e : Nat) : Nat := e % 127

end Sys2Proof.Machine
end

