-- ==== Sys2Proof/Machine/StreamFormat.lean ====
section
/-! DEFINITION. The 128-byte stream instruction (Table 3-1), the opcode table (Table 3-5) and the issue checks (Table 3-3). -/
namespace Sys2Proof.Machine

/-- An operand slot: kind of Table 3-2 and its three fields. The mask kind is held in the same code. -/
structure Slot where
  kind : Nat := 0
  base : Nat := 0
  limit : Nat := 0
  stride : Nat := 0
  deriving DecidableEq, Repr

/-- Operand kinds of Table 3-2. -/
def kNone : Nat := 0
def kDense : Nat := 1
def kStrided : Nat := 2
def kIndexed : Nat := 3
def kBcastMem : Nat := 4
def kBcastImm : Nat := 5
def kTemp : Nat := 6
def kLocal : Nat := 7

/-- The fields of a stream instruction (Table 3-1). -/
structure SInstr where
  opcode : Nat
  func : Nat
  width : Nat
  signed : Bool
  mmode : Nat
  chain : Bool
  sat : Bool
  modidx : Nat
  mont : Bool
  wide : Bool
  pos : Bool
  km : Nat
  ixslot : Nat
  ixw : Nat
  aux : Nat
  length : Nat
  s0 : Slot
  s1 : Slot
  s2 : Slot
  d0 : Slot
  d1 : Slot
  m : Slot
  dstride : Nat
  reserved : Nat
  deriving DecidableEq, Repr

/-- Table 3-1: the fields of the instruction whose 128 bytes spell `v`. -/
def SInstr.ofNat (v : Nat) : SInstr :=
  let f (off lo len : Nat) := field v (8 * off + lo) len
  let slot (k b st : Nat) : Slot := { kind := k, base := f b 0 64, limit := f (b + 8) 0 64, stride := st }
  let km := f 4 15 2
  { opcode := f 0 0 8, func := f 1 0 8, width := f 2 0 3, signed := f 2 3 1 = 1, mmode := f 2 4 2
    chain := f 2 6 1 = 1, sat := f 2 7 1 = 1, modidx := f 3 0 4, mont := f 3 4 1 = 1, wide := f 3 5 1 = 1
    pos := f 3 6 1 = 1, km := km, ixslot := f 4 17 2, ixw := f 4 19 2, aux := f 4 24 8, length := f 8 0 40
    s0 := slot (f 4 0 3) 0x10 (f 0x70 0 32), s1 := slot (f 4 3 3) 0x20 (f 0x74 0 32)
    s2 := slot (f 4 6 3) 0x30 (f 0x78 0 32)
    d0 := slot (f 4 9 3) 0x40 (if f 4 9 3 = kStrided then f 0x7C 0 32 else 0)
    d1 := slot (f 4 12 3) 0x50 (if f 4 12 3 = kStrided then f 0x7C 0 32 else 0)
    m := slot (if km = 1 then kDense else if km = 2 then kTemp else kNone) 0x60 0
    dstride := f 0x7C 0 32
    reserved := f 3 7 1 + f 4 21 3 + f 8 40 24 }

/-- Lane width w (Table 2-2 encoding). -/
def SInstr.w (i : SInstr) : Nat := if i.width = 0 then 128 else if i.width = 1 then 64 else if i.width = 2 then 32 else if i.width = 3 then 16 else 8

/-- Lanes of one element (R39). -/
def SInstr.lanes (i : SInstr) : Nat := 128 / i.w

/-- Index width in bytes (Table 3-1). -/
def SInstr.ixBytes (i : SInstr) : Nat := if i.ixw = 1 then 8 else 4

/-- Whether a slot must be named, may be named, or must be NONE. -/
inductive Need where
  | no | opt | req
  deriving DecidableEq, Repr

/-- One row of Table 3-5 with the restrictions of R85 and R97 to R105. -/
structure OpRow where
  code : Nat
  name : String
  nsrc : Nat
  d0 : Need := .req
  d1 : Need := .no
  pairSrc : Bool := false
  pairDst : Bool := false
  widths : List Nat := [0, 1, 2, 3, 4]
  signs : List Bool := [false]
  satOk : Bool := false
  tail : Bool := false
  funcs : Nat := 1
  select : Bool := false
  modular : Bool := false
  montOk : Bool := false
  maskDst : Bool := false
  indexed : Bool := false
  deriving DecidableEq, Repr

/-- Table 3-5, first half. -/
def opRowsA : List OpRow := [
  { code := 0x01, name := "ADD", nsrc := 2, signs := [false, true], satOk := true },
  { code := 0x02, name := "SUB", nsrc := 2, signs := [false, true], satOk := true },
  { code := 0x03, name := "ADDC", nsrc := 3, d1 := .opt },
  { code := 0x04, name := "SUBB", nsrc := 3, d1 := .opt },
  { code := 0x05, name := "NEG", nsrc := 1, signs := [false, true], satOk := true },
  { code := 0x06, name := "ABS", nsrc := 1, signs := [true], satOk := true },
  { code := 0x07, name := "MIN", nsrc := 2, signs := [false, true] },
  { code := 0x08, name := "MAX", nsrc := 2, signs := [false, true] },
  { code := 0x10, name := "CMP", nsrc := 2, signs := [false, true], funcs := 6, maskDst := true },
  { code := 0x11, name := "LOGIC", nsrc := 2, funcs := 16 },
  { code := 0x12, name := "SHL", nsrc := 2, signs := [false, true], satOk := true },
  { code := 0x13, name := "SHR", nsrc := 2, signs := [false, true] },
  { code := 0x14, name := "ROTL", nsrc := 2 },
  { code := 0x15, name := "ROTR", nsrc := 2 },
  { code := 0x16, name := "POPCNT", nsrc := 1 },
  { code := 0x17, name := "CLZ", nsrc := 1 },
  { code := 0x18, name := "CTZ", nsrc := 1 },
  { code := 0x20, name := "MULLO", nsrc := 2, signs := [false, true], satOk := true },
  { code := 0x21, name := "MULHI", nsrc := 2, signs := [false, true] },
  { code := 0x22, name := "MULW", nsrc := 2, signs := [false, true], pairDst := true },
  { code := 0x23, name := "DIVSTEP", nsrc := 3, d0 := .opt, d1 := .opt }]

/-- Table 3-5, second half. -/
def opRowsB : List OpRow := [
  { code := 0x30, name := "MADD", nsrc := 3, modular := true, montOk := true },
  { code := 0x31, name := "MMUL", nsrc := 2, modular := true, montOk := true },
  { code := 0x32, name := "MADDQ", nsrc := 2, modular := true },
  { code := 0x33, name := "MSUBQ", nsrc := 2, modular := true },
  { code := 0x34, name := "MRED", nsrc := 1, pairSrc := true, modular := true, montOk := true },
  { code := 0x35, name := "MTOM", nsrc := 1, modular := true },
  { code := 0x36, name := "MFROM", nsrc := 1, modular := true },
  { code := 0x37, name := "BFLY", nsrc := 3, d1 := .req, funcs := 2, modular := true, montOk := true },
  { code := 0x40, name := "SEL", nsrc := 2, select := true },
  { code := 0x41, name := "COPY", nsrc := 1 },
  { code := 0x42, name := "FILL", nsrc := 1, funcs := 2 },
  { code := 0x43, name := "NARROW", nsrc := 1, pairSrc := true, widths := [1, 2, 3, 4], signs := [false, true], satOk := true },
  { code := 0x44, name := "WIDEN", nsrc := 1, pairDst := true, signs := [false, true] },
  { code := 0x45, name := "COMPRESS", nsrc := 1, d1 := .opt, tail := true, select := true },
  { code := 0x46, name := "EXPAND", nsrc := 1, select := true },
  { code := 0x50, name := "GATHER", nsrc := 1, indexed := true },
  { code := 0x51, name := "SCATTER", nsrc := 1, tail := true, indexed := true },
  { code := 0x52, name := "SCATTER_ADD", nsrc := 1, tail := true, indexed := true },
  { code := 0x60, name := "REDUCE", nsrc := 1, d1 := .opt, signs := [false, true], tail := true, funcs := 6 },
  { code := 0x61, name := "SCAN", nsrc := 1, signs := [false, true], tail := true, funcs := 14 },
  { code := 0x62, name := "CMPX", nsrc := 2, d1 := .req, signs := [false, true], tail := true },
  { code := 0x70, name := "ZMIX", nsrc := 2, widths := [0] }]

/-- Table 3-5. -/
def opRows : List OpRow := opRowsA ++ opRowsB

/-- The row of an opcode; a row of code 0 where the opcode is not listed. -/
def opRow (code : Nat) : OpRow := (opRows.find? (fun r => r.code = code)).getD { code := 0, name := "", nsrc := 0 }

/-- R90: whether FUNC is listed for the opcode. -/
def funcOk (r : OpRow) (func : Nat) : Bool :=
  if r.code = 0x61 then func % 8 < 6 && func < 16 else func < r.funcs

/-- Slot numbers of a detail byte (R87). -/
def noSlot : Nat := 15

/-- Source slot number named by IXSLOT (1 or 2), if any (R83). -/
def SInstr.ixNo (i : SInstr) : Option Nat := if i.ixslot = 1 then some 1 else if i.ixslot = 2 then some 2 else none

/-- Source slot `k`. -/
def SInstr.src (i : SInstr) (k : Nat) : Slot := if k = 0 then i.s0 else if k = 1 then i.s1 else i.s2

/-- Number of value sources: FILL reads S1 only as a sequence (R98). -/
def SInstr.nsrc (i : SInstr) : Nat := if i.opcode = 0x42 ∧ i.func = 1 then 2 else (opRow i.opcode).nsrc

/-- Table 3-3 step 1: failing slot, if any; a reserved field of the header or of a slot as a whole comes before the mask slot's kind (DESIGN CHOICE,
log entry 100). -/
def checkStep1 (i : SInstr) : Option Nat :=
  let r := opRow i.opcode
  if r.code = 0 ∨ i.reserved ≠ 0 ∨ i.width > 4 ∨ i.ixslot = 3 ∨ i.ixw > 1 ∨ ¬ funcOk r i.func then some noSlot
  else if i.km = 3 then some 5
  else none

/-- Table 3-2: the fields a kind leaves unused are zero, a TEMP number is below 8, strides and N are in range. -/
def slotFieldsOk (s : Slot) (pair : Bool) : Bool :=
  match s.kind with
  | 0 => s.base = 0 && s.limit = 0 && s.stride = 0
  | 1 => s.stride = 0
  | 2 => if pair then s.stride ≥ 2 else s.stride ≥ 1
  | 3 => s.stride = 0
  | 4 => s.stride = 0
  | 5 => s.stride = 0
  | 6 => s.base < 8 && s.limit = 0 && s.stride = 0
  | _ => s.stride ≥ 1

/-- R46, R78 to R85: whether source slot `k` suits the opcode. -/
def srcOk (i : SInstr) (k : Nat) : Bool :=
  let r := opRow i.opcode
  let s := i.src k
  let pair := r.pairSrc && k = 0
  slotFieldsOk s pair &&
  (if i.ixNo = some k then
     -- the index slot: DENSE or TEMP, and not a value source (R83)
     (s.kind = kDense || s.kind = kTemp) && k ≥ i.nsrc
   else if k < i.nsrc then
     if r.code = 0x50 then s.kind = kIndexed || s.kind = kLocal
     else if r.code = 0x42 then s.kind = kBcastMem || s.kind = kBcastImm
     else if r.code = 0x46 then s.kind = kDense
     else if pair then s.kind = kDense || s.kind = kStrided || s.kind = kTemp
     else s.kind ≠ kNone && s.kind ≠ kIndexed
   else s.kind = kNone)

/-- R44, R46, R97 to R105: whether a destination suits the opcode. -/
def dstOk (i : SInstr) (k : Nat) : Bool :=
  let r := opRow i.opcode
  let s := if k = 3 then i.d0 else i.d1
  let need := if k = 3 then r.d0 else r.d1
  slotFieldsOk s (r.pairDst && k = 3) &&
  (k ≠ 3 || i.d0.kind = kStrided || i.d1.kind = kStrided || i.dstride = 0) &&
  (if need = .no then s.kind = kNone
   else if r.code = 0x51 || r.code = 0x52 then s.kind = kIndexed
   else if r.maskDst then s.kind = kDense || s.kind = kTemp
   else if r.code = 0x60 then
     if k = 3 then s.kind = kDense else if i.pos then s.kind = kDense else s.kind = kNone
   else if r.code = 0x45 then
     s.kind = kDense || (k = 4 && s.kind = kNone)
   else if r.code = 0x23 then
     (s.kind = kNone || s.kind = kDense || s.kind = kStrided || s.kind = kTemp) && (k ≠ 3 || i.d0.kind ≠ kNone || i.d1.kind ≠ kNone)
   else if need = .opt then s.kind = kNone || s.kind = kDense || s.kind = kStrided || s.kind = kTemp
   else s.kind = kDense || s.kind = kStrided || s.kind = kTemp)

/-- R88, R89, R78, R83: header fields that suit the opcode; CHAIN = 1 breaks the Chain column of a tail-only one (R59, R88). -/
def headerOk (i : SInstr) : Bool :=
  let r := opRow i.opcode
  let c := r.code
  r.widths.contains i.width && r.signs.contains i.signed &&
  (!r.tail || !i.chain) && (!i.sat || r.satOk) && (!i.mont || r.montOk) && (i.modidx = 0 || r.modular) &&
  (!i.wide || (c = 0x60 && i.func = 0)) && (!i.pos || (c = 0x60 && (i.func = 1 || i.func = 2))) &&
  (if c = 0x23 then 1 ≤ i.aux && i.aux ≤ 32 && i.aux ≤ i.w else i.aux = 0) &&
  (!(c = 0x60 || c = 0x61) || !(i.func % 8 ≥ 3) || !i.signed) &&
  (if r.select then i.mmode = 3 else i.mmode ≠ 3) &&
  (i.ixslot ≠ 0 || (i.ixw = 0 && !r.indexed)) &&
  (i.ixslot = 0 || r.indexed || i.s0.kind = kLocal || i.s1.kind = kLocal || i.s2.kind = kLocal)

/-- R78: the mask slot suits MMODE. -/
def maskOk (i : SInstr) : Bool := slotFieldsOk i.m false && (if i.mmode = 0 then i.km = 0 else i.km ≠ 0)

/-- Table 3-3 step 2: header first (slot 0xF), then the slots in the order of R86 (log entry 20). -/
def checkStep2 (i : SInstr) : Option Nat :=
  if ¬ headerOk i then some noSlot
  else if ¬ srcOk i 0 then some 0
  else if ¬ srcOk i 1 then some 1
  else if ¬ srcOk i 2 then some 2
  else if ¬ dstOk i 3 then some 3
  else if ¬ dstOk i 4 then some 4
  else if ¬ maskOk i then some 5
  else none

/-- Whether a kind names memory through an address. -/
def isMemKind (k : Nat) : Bool := k = kDense || k = kStrided || k = kIndexed || k = kBcastMem || k = kLocal

/-- R47: the alignment a slot's base needs. -/
def slotAlign (i : SInstr) (no : Nat) : Nat :=
  if no = 5 then 16
  else if i.ixNo = some no then i.ixBytes
  else if no = 3 ∧ (opRow i.opcode).maskDst then 16
  else i.w / 8

/-- The slot of number `no` of R87. -/
def SInstr.slot (i : SInstr) (no : Nat) : Slot :=
  match no with
  | 0 => i.s0
  | 1 => i.s1
  | 2 => i.s2
  | 3 => i.d0
  | 4 => i.d1
  | _ => i.m

/-- Table 3-3 step 3. -/
def checkStep3 (i : SInstr) : Option Nat :=
  (List.range 6).find? (fun no => isMemKind (i.slot no).kind && (i.slot no).base % slotAlign i no ≠ 0)

/-- Class of the temporary an opcode writes (R84): 1 mask, 2 wide, 0 value. -/
def tempClass (i : SInstr) : Nat := if (opRow i.opcode).maskDst then 1 else if (opRow i.opcode).pairDst then 2 else 0

/-- Temporaries written by the members before one: number and class. -/
def tempsWritten (ms : List SInstr) : List (Nat × Nat) :=
  ms.flatMap (fun i =>
    (if i.d0.kind = kTemp then [(i.d0.base, tempClass i)] else []) ++
    (if i.d1.kind = kTemp then [(i.d1.base, 0)] else []))

/-- R59, R84: failing slot of a member's temporaries after the members `before`; one temporary named in both D0 and D1 is reported at D1
(DESIGN CHOICE, log entry 100). -/
def checkTemps (before : List SInstr) (i : SInstr) : Option Nat :=
  let wr := tempsWritten before
  let readOk (no cls : Nat) : Bool :=
    let s := i.slot no
    s.kind ≠ kTemp || wr.any (fun e => e.1 = s.base ∧ e.2 = cls)
  let writeOk (no : Nat) : Bool :=
    let s := i.slot no
    s.kind ≠ kTemp || (!wr.any (fun e => e.1 = s.base) && (no ≠ 4 || i.d0.kind ≠ kTemp || i.d0.base ≠ s.base))
  if ¬ readOk 0 (if (opRow i.opcode).pairSrc then 2 else 0) then some 0
  else if ¬ readOk 1 0 then some 1
  else if ¬ readOk 2 0 then some 2
  else if ¬ writeOk 3 then some 3
  else if ¬ writeOk 4 then some 4
  else if ¬ readOk 5 1 then some 5
  else none

/-- Table 3-3 step 4 for the member after `before`; `runsOut` is a chain that reaches the program's end (R58). What concerns no slot comes before the
temporaries (DESIGN CHOICE, log entry 100). -/
def checkStep4 (before : List SInstr) (i : SInstr) (isLast runsOut : Bool) : Option Nat :=
  if before.length ≥ 8 then some noSlot
  else if before.any (fun f => f.length ≠ i.length) then some noSlot
  else if isLast && runsOut then some noSlot
  else if ¬ isLast ∧ (opRow i.opcode).tail then some noSlot
  else checkTemps before i

/-- LOCAL operands of a member as (slot, window base, limit, N). -/
def localsOf (i : SInstr) : List (Nat × Nat × Nat × Nat) :=
  (List.range 3).filterMap (fun no =>
    let s := i.slot no
    if s.kind = kLocal then some (no, s.base, s.limit, s.stride) else none)

/-- R49, R135: N of each LOCAL operand, and the sum over the chain with equal windows counted once. -/
def localSum (seen : List (Nat × Nat × Nat)) (sum : Nat) : List (Nat × Nat × Nat × Nat) → Option Nat
  | [] => none
  | (no, b, l, n) :: rest =>
    if n > 12288 then some no
    else if seen.contains (b, l, n) then localSum seen sum rest
    else if sum + n > 12288 then some no
    else localSum ((b, l, n) :: seen) (sum + n) rest

/-- Distinct LOCAL windows of members. -/
def localSeen (ms : List SInstr) : List (Nat × Nat × Nat) :=
  (ms.flatMap localsOf).foldl (fun s x => if s.contains x.2 then s else x.2 :: s) []

/-- Table 3-3 step 6 for the member after `before` (R49, R135). -/
def checkStep6 (before : List SInstr) (i : SInstr) : Option Nat :=
  let seen := localSeen before
  localSum seen (seen.foldl (fun s x => s + x.2.2) 0) (localsOf i)

/-- Bytes of the mask bits of `l` elements of `n` lanes (R44). -/
def maskBytes (l n : Nat) : Nat := ceilDiv (l * n) 8

/-- R50, R81, R85, R99 to R104: the offset past base of the last byte a slot touches, for a slot with a computed last byte. -/
def lastOffset (i : SInstr) (no : Nat) : Option Nat :=
  let r := opRow i.opcode
  let s := i.slot no
  let l := i.length
  if no = 5 then (if s.kind = kDense then some (maskBytes l i.lanes - 1) else none)
  else if i.ixNo = some no then (if s.kind = kDense then some (l * i.ixBytes - 1) else none)
  else if s.kind = kBcastMem then some 15
  else if ¬ (s.kind = kDense ∨ s.kind = kStrided) then none
  else if no = 3 ∧ r.maskDst then some (maskBytes l i.lanes - 1)
  else if no = 3 ∧ r.code = 0x60 then some (if i.wide then 31 else 15)
  else if no = 4 ∧ r.code = 0x60 then some (16 * i.lanes - 1)
  else if no = 4 ∧ r.code = 0x45 then some 15
  else
    let pair := (no = 0 ∧ r.pairSrc) ∨ (no = 3 ∧ r.pairDst)
    let size := if pair then 32 else 16
    let step := if s.kind = kStrided then s.stride * 16 else size
    some ((l - 1) * step + size - 1)

/-- Table 3-3 step 7 (R50 step 1); `top` is the highest byte address of the channel's space. -/
def checkStep7 (top : Nat) (i : SInstr) : Option Nat :=
  (List.range 6).find? (fun no =>
    let s := i.slot no
    isMemKind s.kind && (s.limit > top || (match lastOffset i no with
      | some o => s.base + o > top
      | none => false)))

/-- Table 3-3 step 8 (R50 step 2). -/
def checkStep8 (i : SInstr) : Option Nat :=
  (List.range 6).find? (fun no =>
    let s := i.slot no
    match lastOffset i no with
    | some o => isMemKind s.kind && (s.limit < s.base || s.base + o > s.limit)
    | none => false)

/-- A refusal at issue: step of Table 3-3 and slot (R87), at a member of the chain. -/
structure IssueFail where
  step : Nat
  slot : Nat
  member : Nat
  deriving DecidableEq, Repr

/-- Detail byte of a refusal (R87). -/
def IssueFail.detail (f : IssueFail) : Nat := f.step * 16 + f.slot

/-- The first failing step of one member. `modOk` says whether its modulus entry is usable (step 5, R56). -/
def checkMember (top : Nat) (modOk : SInstr → Bool) (before : List SInstr) (i : SInstr) (isLast runsOut : Bool) :
    Option (Nat × Nat) :=
  match checkStep1 i with
  | some s => some (1, s)
  | none =>
  match checkStep2 i with
  | some s => some (2, s)
  | none =>
  match checkStep3 i with
  | some s => some (3, s)
  | none =>
  match checkStep4 before i isLast runsOut with
  | some s => some (4, s)
  | none =>
  if (opRow i.opcode).modular ∧ ¬ modOk i then some (5, noSlot)
  else if i.length = 0 then none
  else
  match checkStep6 before i with
  | some s => some (6, s)
  | none =>
  match checkStep7 top i with
  | some s => some (7, s)
  | none =>
  match checkStep8 i with
  | some s => some (8, s)
  | none => none

/-- R86: the checks over a chain's members in ascending order; the first failure of the lowest member decides. -/
def checkChain (top : Nat) (modOk : SInstr → Bool) (runsOut : Bool) : List SInstr → List SInstr → Option IssueFail
  | _, [] => none
  | before, i :: rest =>
    match checkMember top modOk before i (rest.isEmpty) runsOut with
    | some (st, sl) => some { step := st, slot := sl, member := before.length }
    | none => checkChain top modOk runsOut (before ++ [i]) rest

end Sys2Proof.Machine
end

