-- ==== Sys2Proof/Machine/State.lean ====
section
/-! DEFINITION. The state of the ZN256 as plain data: memory, the register file, every engine's state, and the queue of
commands that wait. INVENTORY.md lists each piece with its rule and reset value. -/
namespace Sys2Proof.Machine

/-- Memory: bytes by reeve physical address (Table 13-1) in one canonical form (see Memory.wf). -/
abbrev Memory := List Host.Cell

/-- The canonical form: addresses strictly rising, and no listed byte equal to 0, which an unlisted byte reads as. -/
def Memory.wf : Memory → Bool
  | [] => true
  | [c] => c.2 ≠ 0
  | c :: d :: m => decide (c.2 ≠ 0) && decide (c.1 < d.1) && Memory.wf (d :: m)

/-- What a failing element, write or step gives its job (Tables 5-7 and 8-8). -/
structure Fail where
  status : Nat
  detail : Nat := 0
  instr : Nat := 0xFFFF
  element : Nat := 0
  deriving DecidableEq, Repr

/-- One leaf translation as the caches hold it (R299); `fw` is the firmware tag in place of the ASID. -/
structure TlbEntry where
  fw : Bool
  asid : Nat
  level : Nat
  vpn : Nat
  pa : Nat
  r : Bool
  w : Bool
  x : Bool
  u : Bool
  se : Bool
  deriving DecidableEq, Repr

/-- One pointer entry of the walk cache (Table 10-7): the table that `prefixVa` reaches at `level`. -/
structure PtrEntry where
  fw : Bool
  asid : Nat
  level : Nat
  prefixVa : Nat
  table : Nat
  deriving DecidableEq, Repr

/-- A set of `n` ways with the bits of its tree pseudo-LRU (R140); bit k is node k of the tree, node 1 the root. -/
structure Ways (α : Type) where
  ways : List (Option α) := []
  tree : Nat := 0
  deriving DecidableEq, Repr

/-- Kinds of access (Table 10-4). -/
inductive Access where
  | read | write | atomic | fetch | program
  deriving DecidableEq, Repr

/-- The address space and privilege an access is made in: ASID, root, depth, and User or not (R283, R291). -/
structure Space where
  asid : Nat
  root : Nat
  depth : Nat
  deriving DecidableEq, Repr

/-- A micro-TLB miss waiting at the shared TLB (R140), or a walk in flight (Table 10-7), with the strip and the stream context (member,
slot and page part, as `Strip.ctx` numbers them) it serves. -/
structure Lookup where
  croft : Nat
  gen : Nat
  job : Nat
  instr : Nat
  first : Nat
  ctx : Nat := 0
  space : Space
  va : Nat
  access : Access
  noSide : Bool := false
  fresh : Bool := false
  deriving DecidableEq, Repr

/-- What an invalidation waits for (R302): a strip of a croft, by reset generation, job, instruction and strip; stores owed for a strip that is dealt
again; a far request, by kind, destination and tag; the staged stores of a CONTROL job. -/
inductive InvUse where
  | strip (croft gen job instr strip : Nat) | owed (job instr strip : Nat) | far (kind dest tag : Nat) | staged (job : Nat)
  deriving DecidableEq, Repr

/-- Shared TLB, walk cache, lookups and walks in flight, and what the invalidation in progress waits for (Table 10-7, R302). Firmware's invalidations
have a path of their own (R304): its XLT_INV_VA_LO, XLT_INV_VA_HI and XLT_INV_CMD in `fwInv`, and what its command waits for. -/
structure Xlt where
  tlb : Map (Ways TlbEntry) := []
  wc : Map (Ways PtrEntry) := []
  lookups : List Lookup := []
  walks : List Lookup := []
  invWait : List InvUse := []
  fwInv : Nat × Nat × Nat := (0, 0, 0)
  fwWait : List InvUse := []
  deriving DecidableEq, Repr

/-- One lane's accumulator of a fold: a value and the element that gave it (R68, R104). -/
abbrev LaneAcc := List (Option (Nat × Nat))

/-- A node of the reduction tree: node(level, k) of R68. -/
structure Node where
  level : Nat
  k : Nat
  acc : LaneAcc
  deriving DecidableEq, Repr

/-- What a checkpoint holds beside its element (Table 5-6); `packs` is the pack state by member. -/
structure Check where
  flags : Nat := 0
  acc : LaneAcc := []
  nodes : List Node := []
  packs : Map Nat := []
  deriving DecidableEq, Repr

/-- One byte on its way to memory: virtual and physical address, value, and the bits of it that are written. -/
structure SCell where
  va : Nat
  pa : Nat
  b : Nat
  m : Nat := 255
  deriving DecidableEq, Repr

/-- An outgoing write: the member and slot it comes from, its element, its bytes; `add` is the lane width of an atomic add, whose
bytes are the contribution (R67), and 0 for a plain write; `se` is set where its translation showed a side-effect page (R286, R307). -/
structure Store where
  member : Nat
  slot : Nat
  element : Nat
  cells : List SCell
  add : Nat := 0
  se : Bool := false
  deriving DecidableEq, Repr

/-- Strip ticket (Table 6-1). `strip` is the first element of the strip as cut, `slot` its overflow slot (R139), `attempt`
the failed attempts before it (R127), `third` a third witness copy (R183), `ck` the checkpoint it starts from (Table 5-6); `shun` the croft whose
failure it was dealt again after (R145), and `owed` stores of the elements below it that have passed the Fence and are not made yet (Table 5-8,
step 4). -/
structure Ticket where
  job : Nat
  channel : Nat
  instr : Nat
  members : Nat
  ordered : Bool := false
  held : Bool := false
  paired : Bool := false
  copyB : Bool := false
  home : Nat := 0
  glean : Nat := 0
  redealt : Bool := false
  first : Nat
  count : Nat
  dealt : Nat := 0
  strip : Nat := 0
  third : Bool := false
  attempt : Nat := 0
  slot : Option Nat := none
  ck : Check := {}
  shun : Option Nat := none
  owed : List Store := []
  deriving DecidableEq, Repr

/-- One loaded operand in the operand buffers: its member and slot, the element it is for, its value (up to 256 bits for a pair), and the
residue code formed beside it (R124; bits 6:0 of the low element, 13:7 of the high one); `bad` is the status that its read failed with, taken when
its element starts (R149, R206). -/
structure Load where
  member : Nat
  slot : Nat
  element : Nat
  val : Nat
  code : Nat
  bad : Nat := 0
  deriving DecidableEq, Repr

/-- A chain temporary's entry (R143): its number, low and high 128 bits, and its residue code. -/
structure Temp where
  k : Nat
  lo : Nat
  hi : Nat
  code : Nat
  deriving DecidableEq, Repr

/-- A member's result on its way to its check (R142), with the residue codes predicted for D0 (as for a load) and D1 (R125), and the fold
state it leaves. -/
structure Result where
  d0 : Nat := 0
  hi : Nat := 0
  d1 : Nat := 0
  code : Nat := 0
  code1 : Nat := 0
  flags : Nat := 0
  active : Nat := 0
  next : Option Check := none
  deriving DecidableEq, Repr

/-- One active strip of a croft (`runs`: per member and slot, the contiguous range its stores have come to in one 128-byte request,
R131): its ticket, its checkpoint (`ckE`, `ck`; Table 5-6), the element `e` in the pipes with the state `base` it began with and the state
`work` it forms, its loaded operands, temporaries and stores; the page translations its stream contexts hold (R140; context
16 × member + 2 × slot + page part); `staged` and `digest` of a held strip (R138, R182), and `marks`, the checkpoint state after each
staged element, by element; `noPages` the pages that a LOCAL copy found no translation for (R141), and `used` the translations that the strip has
used since it last stopped (R302). -/
structure Strip where
  tk : Ticket
  e : Nat
  ckE : Nat
  ck : Check := {}
  base : Check := {}
  work : Check := {}
  member : Nat := 0
  entered : Bool := false
  loads : List Load := []
  result : Option Result := none
  temps : List Temp := []
  stores : List Store := []
  runs : Map (Nat × Nat) := []
  ctx : Map TlbEntry := []
  storing : Bool := false
  staged : List Store := []
  digest : List (Nat × Nat × Nat) := []
  marks : List (Nat × Check) := []
  waiting : Bool := false
  released : Bool := false
  parked : Bool := false
  fail : Option Fail := none
  noPages : List Nat := []
  used : List TlbEntry := []
  deriving DecidableEq, Repr

/-- An entry of a LOCAL copy: its value with its residue code (R124); not read, since its page had no translation, so that an element that
needs it reads it then (R141); or the failure that its read met, which an element that needs it takes (R206). -/
inductive LocalEntry where
  | val (v code : Nat) | unread | bad (status : Nat)
  deriving DecidableEq, Repr

/-- A LOCAL table a croft has copied, tagged with job, instruction and slot (R136). -/
structure LocalCopy where
  job : Nat
  instr : Nat
  slot : Nat
  vals : List LocalEntry
  deriving DecidableEq, Repr

/-- One croft: state of CRF_STATUS (R154), reset generation (Table 5-8), deque and active strips of its shelf,
micro-TLB (R140), LOCAL copies (R136), the requests a reset in progress has absorbed (R154, R34), `was`, the state that a passed
self-test returns to, `ran`, whether a strip has been active since the page's counters were last reset (Table 5-9), and an upset that has
struck the croft and has not been met: where, and the bits (log entry 98). -/
structure Croft where
  st : Nat := 0
  gen : Nat := 0
  deque : List Ticket := []
  strips : List Strip := []
  utlb : Ways TlbEntry := {}
  locals : List LocalCopy := []
  quarReq : Bool := false
  retiring : Bool := false
  selfTest : Bool := false
  swapFor : Option (Nat × Nat) := none
  was : Nat := 1
  ran : Bool := false
  upset : Option (Nat × Nat) := none
  deriving DecidableEq, Repr

/-- A strip reported done and not yet committed (R172), with the failure that stopped it, if any, the croft that ran it and its ticket as a trace
record shows it (Table 21-6). -/
structure DoneStrip where
  strip : Nat
  first : Nat
  count : Nat
  flags : Nat
  fail : Option Fail := none
  croft : Nat := 0x1FF
  body : Nat := 0
  deriving DecidableEq, Repr

/-- A held copy whose digest has been delivered (R182): the first element and the state it began with, the croft that ran it, and what it
found. -/
structure HeldCopy where
  strip : Nat
  first : Nat := 0
  start : Check := {}
  count : Nat
  croft : Nat
  copyB : Bool
  third : Bool
  digest : List (Nat × Nat × Nat)
  ck : Check
  fail : Option Fail := none
  deriving DecidableEq, Repr

/-- Where a ticket that is dealt again may go: to any croft, away from a croft that failed (R145), or to the next croft after the one it
was withdrawn from (R170). -/
inductive Redeal where
  | any | avoid (n : Nat) | next (n : Nat)
  deriving DecidableEq, Repr

/-- Journal phase of a chain: JSTATE of Table 9-3. -/
inductive JPhase where
  | none | staging | staged | committed
  deriving DecidableEq, Repr

/-- An issued chain of a job (R58 to R61, R160, R161, R172). Positions are element indices: strips below `nextDeal` have been
dealt, those in `open_` are not done, those in `ready` are done and not committed, elements below `committed` are. `carry`
holds the state that passes from strip to strip; `image` the staged image of a journaled chain (R265), and `imageBase` that image when its
open strip was dealt; `base` is S as steps 1 and 2 of R160 fixed it at issue; `homeCroft` and `homeB` the crofts, with their reset
generations, that ran the first segment of an ordered chain and its copy B (R161, R184); `finalAt` counts the stores of its final writes that
have been made (R65, R555), and `treeFlags` holds the flags of its combines (R112). -/
structure Chain where
  first : Nat
  members : List SInstr
  size : Nat
  base : Nat := 0
  ordered : Bool := false
  journaled : Bool := false
  joff : Nat := 0
  nextDeal : Nat := 0
  open_ : List (Nat × Nat) := []
  redeal : List (Ticket × Redeal) := []
  ready : List DoneStrip := []
  committed : Nat := 0
  carry : Check := {}
  nodes : List Node := []
  held : List HeldCopy := []
  seLoads : List (Nat × Nat × Nat × Nat) := []
  bcast : Map Nat := []
  image : List Store := []
  imageBase : List Store := []
  commitLeft : Option (List Store) := none
  runs : Map (Nat × Nat) := []
  finalMade : Bool := false
  finalAt : Nat := 0
  treeFlags : Nat := 0
  homeCroft : Option (Nat × Nat) := none
  homeB : Option (Nat × Nat) := none
  deriving DecidableEq, Repr

/-- Where a fault arose: a strip, a final write (R555), a commit write (R557), a COPY/FILL piece or a program read. -/
inductive FaultAt where
  | strip (chain strip : Nat) | finalWrite (chain : Nat) | commit (chain : Nat) | copy | program | reeve
  deriving DecidableEq, Repr

/-- A translation fault of a job: the fields of its entry (Table 8-10) and its slot once posted (R242). -/
structure JobFault where
  cause : Nat
  access : Nat
  instr : Nat
  element : Nat
  addr : Nat
  place : FaultAt
  slot : Option Nat := none
  deriving DecidableEq, Repr

/-- Job states of Table 8-6 after FETCHED; RETIRED jobs are not kept. -/
inductive JobState where
  | waiting | running | parked | finished | complete
  deriving DecidableEq, Repr

/-- An accepted job (R230 to R234), under its tag; `gov` is the entry in force when it started, whose shadowed fields govern it (R240), and
`clamped` whether its modes have been clamped and counted (R176); `copyBuf` the block of its source that a COPY has read and not yet written whole, by
offset, length and value (R226, R294);
`exitWith` how a CONTROL job's program has ended, with the failure it leaves, while its staged stores are committed (R267), `exitAt` how many entries of
their image have been read back and `exitRead` whether all have; `stagePages` the translations that those stores were staged through (R302). -/
structure Job where
  ch : Nat
  seq : Nat
  jidx : Nat
  cidx : Nat
  desc : Nat
  st : JobState := .waiting
  status : Nat := 0
  flags : Nat := 0
  detail : Nat := 0
  instr : Nat := 0xFFFF
  element : Nat := 0
  acceptBell : Nat := 0
  finishBell : Nat := 0
  finishFree : Bool := false
  decided : Bool := false
  started : Bool := false
  startedDurable : Bool := false
  replayed : Bool := false
  adopted : Bool := false
  side : Bool := false
  jphase : JPhase := .none
  jchain : Nat := 0
  joff : Nat := 0
  finishDurable : Bool := false
  next : Nat := 0
  chains : List Chain := []
  mods : Map Nat := []
  faults : List JobFault := []
  refuse : Option Fail := none
  stop : Option Fail := none
  copied : Nat := 0
  copyBuf : Option (Nat × Nat × Nat) := none
  runs : Map (Nat × Nat) := []
  workDone : Bool := false
  reeve : Option Nat := none
  sown : List Nat := []
  sownOpen : Bool := false
  sownFail : Option Fail := none
  sownFlags : Nat := 0
  stageCells : List (Nat × Byte) := []
  stagePages : List TlbEntry := []
  rewrite : Bool := false
  hulls : List (Nat × Nat) := []
  resume : Nat := 0
  skipAt : Bool := false
  redo : Bool := false
  sownCount : Nat := 0
  clamped : Bool := false
  gov : Option Nat := none
  exitWith : Option (Option Fail) := none
  exitAt : Nat := 0
  exitRead : Bool := false
  deriving DecidableEq, Repr

/-- A descriptor read and validated, not yet accepted (state FETCHED): ring index, bytes, the status of R229 if decided,
and the tag and sequence number its ledger record was written with. -/
structure Fetched where
  jidx : Nat
  desc : Nat
  decided : Option Fail := none
  tag : Option Nat := none
  durable : Bool := false
  deriving DecidableEq, Repr

/-- Channel states of R239 in the encoding of CHN_DB_STATUS. -/
inductive ChState where
  | off | enabling | run | paused | draining | broken
  deriving DecidableEq, Repr

/-- Mirror state of LDG_MSTATE. -/
inductive Mirror where
  | none | mirrored | unmirrored | refused
  deriving DecidableEq, Repr

/-- A ledger write that waits to become durable (Table 9-2): tag, step, the journaled chain it names with its extent, and whether
it has been sent to the mirror store. -/
structure LedgerWrite where
  tag : Nat
  step : Nat
  chain : Nat := 0
  joff : Nat := 0
  sent : Bool := false
  deriving DecidableEq, Repr

/-- One channel: its doorbell page (R245), its state (R239), the entry in force with its windows (R219, R455), its
pending set (R240), its fetched descriptors and its ledger duties (R250, R272 to R274); `quota` the QUOTA in force
for the stroke (R174, R240); `kept` the tags that its ledger records hold
while its jobs are not in the module (R231, R398); `waits` the index writes (offset, value) that wait for its entry or for the ACTIONs they
pass (R219, R243); `headTag` the tag of the record written for a head descriptor that CHN_INV has dropped (R221); `mirrorOut` the offsets of the mirrored
writes that are not acknowledged, in order, `setupDue` a mirror setup not answered, and `resync` a mirror that is being brought up again (R272, R273);
`leaseFor` the entry whose far region holds the lease (R274); `handing` a hand-off whose header is still to be written (R280); `adopting` the adoption that
its entry's load waits for: the origin's channel, the reason and the mirrored records (R277); `retiring` the tags whose RETIRED records a mirror has still to acknowledge (R250); `pauseOwed` the entry into PAUSED, or the exit, that waits for its header write (R260), and whether a message follows. -/
structure Channel where
  st : ChState := .off
  cmdBusy : Bool := false
  cmdIgnored : Bool := false
  shRefused : Bool := false
  wbFailed : Bool := false
  tail : Nat := 0
  accept : Nat := 0
  done : Nat := 0
  crHead : Nat := 0
  fqTail : Nat := 0
  fqHead : Nat := 0
  shShare : Nat := 0
  shMode : Nat := 0
  seq : Nat := 0
  refused : Nat := 0
  deadlines : Nat := 0
  fqWaits : Nat := 0
  snap : Nat × Nat × Nat := (0, 0, 0)
  entry : Option Nat := none
  windows : List (Nat × Nat) := []
  stamp : Nat := 0
  pend : Option (Nat × Nat) := none
  budget : Nat := 0
  quota : Nat := 0
  fetched : List Fetched := []
  invalidating : Bool := false
  acceptStopped : Bool := false
  recovering : Bool := false
  recoverAll : Bool := false
  hold : Option (Nat × Nat) := none
  wasBroken : Bool := false
  abortAfter : Bool := false
  ledgerQ : List LedgerWrite := []
  mirror : Mirror := .none
  missed : Nat := 0
  leaseHeld : Bool := false
  lease : Nat := 0
  leaseUnread : Option Nat := none
  yielded : Bool := false
  headTag : Option Nat := none
  mirrorOut : List Nat := []
  setupDue : Bool := false
  resync : Bool := false
  leaseFor : Option Nat := none
  handing : Bool := false
  adopting : Option (Nat × Nat × List Nat) := none
  origin : Option Nat := none
  hdr : Nat := 0
  hdrSent : Bool := false
  wbPending : Bool := false
  kept : List Nat := []
  waits : List (Nat × Nat) := []
  pauseOwed : Option (Bool × Bool) := none
  retiring : List Nat := []
  deriving DecidableEq, Repr

/-- Dealing state of the Sower: deficit round robin (R175), the pending mode request (R177), pace moves owed (Table 6-3),
overflow slots in use (R139), the dies' clocks, and an upset of the combine unit that has not been met (log entry 98). -/
structure Sower where
  drrCh : Nat := 0
  drrCredit : Nat := 0
  modeReq : Option (Nat × Nat) := none
  paceOwed : List Nat := []
  overflow : List (Nat × Nat × Nat) := []
  overflowWait : List (Nat × Nat × Nat) := []
  clock : Nat × Nat := (1800, 1800)
  upset : Option Nat := none
  deriving DecidableEq, Repr

/-- Sparing controller (chapter 18): wear events (kind, unit, detail, bell time), swaps named (kind, unit, stroke, reason),
its log (LO, HI words), bank map changes, bank copies in progress (old, new, reason), those that have ended and wait for
strip boundaries (croft, job, instruction, strip), phases shed by rail, hamlets with a fault. -/
structure Sparing where
  wear : List (Nat × Nat × Nat × Nat) := []
  named : List (Nat × Nat × Nat × Nat) := []
  log : List (Nat × Nat) := []
  bankMap : Map Nat := []
  bankSt : Map Nat := []
  copying : List (Nat × Nat × Nat) := []
  copied : List ((Nat × Nat × Nat) × List (Nat × Nat × Nat × Nat)) := []
  phases : Map Nat := []
  rows : Map Nat := []
  hamletFaults : Map Nat := []
  hamletBefore : Map (List (Nat × Nat)) := []
  flashUsed : Nat := 0
  lanesUsed : List Nat := []
  deriving DecidableEq, Repr

/-- A mirror setup an understudy holds (R272, R423): origin, channel, entry, header and records by sequence number. -/
structure MirrorSetup where
  origin : Nat
  channel : Nat
  entry : Nat
  header : Nat := 0
  records : Map Nat := []
  missed : Nat := 0
  command : Bool := false
  deriving DecidableEq, Repr

/-- A far request at its origin (R422): the frame sent, its byte length, retries made, the job whose store or atomic it carries, and the
response with its status. -/
structure FarReq where
  frame : Frame
  n : Nat
  retries : Nat := 0
  owner : Option Nat := none
  resp : Option (Nat × Nat) := none
  deriving DecidableEq, Repr

/-- Ring state shared by the Alnar ports: the links each module has announced, as (peer, latency in ns) (R419); the route of each
destination as (port, hops, latency in ns); far requests in flight; next ATOMIC tag by target; next tag; the reset count sent as EPOCH. -/
structure Ring where
  links : Map (List (Nat × Nat)) := []
  routes : Map (Nat × Nat × Nat) := []
  far : List FarReq := []
  atomTag : Map Nat := []
  tag : Nat := 0
  epoch : Nat := 0
  deriving DecidableEq, Repr

/-- Ledger engine: adoption log (LDG page), mirror store (R272), journal extents in use by job tag (R266),
staged images by channel and extent (R265). -/
structure Ledger where
  adoptLog : List (Nat × Nat) := []
  setups : List MirrorSetup := []
  extents : List (Nat × Nat × Nat × Nat) := []
  nextUnit : Map Nat := []
  images : List (Nat × Nat × Chain) := []
  degraded : Bool := false
  deriving DecidableEq, Repr

/-- One source of stroke marks (R402, R408): its last valid mark, `run` marks in a row that are not free with rising numbers. -/
structure BellSource where
  stroke : Nat
  period : Nat
  free : Bool
  hops : Nat
  origin : Nat
  run : Nat := 1
  deriving DecidableEq, Repr

/-- Bell unit: the 64-bit bell time (R10), state and source of R401 to R408 in the codes of BEL_STATUS, period code, the measured
intervals in cycles of domain 2, newest first, the measured period, the holdover period (R406), whether the followed source's last mark was
refused (R404), and the sources heard, by code. -/
structure Bell where
  stroke : Nat := 0
  phase : Nat := 0
  state : Nat := 0
  source : Nat := 2
  period : Nat := 2
  hops : Nat := 0
  origin : Nat := 0
  intervals : List Nat := []
  measured : Nat := 200000
  holdover : Option Nat := none
  behind : Bool := false
  sources : Map BellSource := []
  deriving DecidableEq, Repr

/-- An Alnar port beside its registers (R414 to R418): the last SEQ taken and sent, frames not yet acknowledged with their SEQ, NAKs
in a row, credits by class and set, frames that wait for credits, exchanges averaged (R411). -/
structure AlnPort where
  rxSeq : Nat := 0
  txSeq : Nat := 0
  unacked : List (Nat × Frame) := []
  naks : Nat := 0
  credits : Map Nat := [(0, 256), (1, 256), (2, 512), (3, 512), (4, 128), (5, 128), (6, 32), (7, 32)]
  queue : List Frame := []
  delaySum : Nat := 0
  delayN : Nat := 0
  deriving DecidableEq, Repr

/-- Power and start-up (chapter 16): supplies of the always-on islands, pins, the last step of Table 16-3 done, whether the start
under way is that of Table 16-4, whether a Warm reset is in progress, the last step of Table 16-7 done, Memory_Active, the class of the stand-down in force (Table 17-4: 1 orderly, 2 datapath,
3 power path), its causes beyond their release, the next watchdog key, a wake source that waits, power steps owed at the slot, whether the
compute dies are off, a Green mismatch has ended all writes (R454), die-to-die traffic goes through the Green (R16), hamlets whose clocks are
gated (R436), the watchdog period in force (Table 17-7), and SLOT_ID on its pins (R533). -/
structure Power where
  vnw : Bool := false
  vsaf : Bool := false
  present : Bool := false
  switchFault : Bool := false
  pwrgd : Bool := false
  memActive : Bool := false
  standby : Bool := false
  step : Nat := 0
  warm : Bool := false
  warming : Bool := false
  detach : Nat := 0
  standClass : Nat := 0
  causes : List Nat := []
  wdogKey : Nat := 0x5A
  wake : Option Nat := none
  stepUp : List Nat := []
  capOwed : Bool := false
  diesOff : Bool := false
  mute : Bool := false
  reroute : Bool := false
  gated : List Nat := []
  wdogMs : Nat := 100
  slotPins : Nat := 0
  deriving DecidableEq, Repr

/-- A key slot (R498): state of MGT_KEYS, key, rights, current backoff in seconds and the bell time at which it ends (R497). -/
structure KeySlot where
  state : Nat := 0
  key : Nat := 0
  rights : Nat := 0
  backoff : Nat := 0
  until_ : Nat := 0
  deriving DecidableEq, Repr

/-- An opening after CHALLENGE (R495): slot, binding, the nonces Nh and Nm. -/
structure Opening where
  slot : Nat
  binding : Nat
  nh : Nat
  nm : Nat
  deriving DecidableEq, Repr

/-- The open Gate session (R496): slot, binding, SID, Ks, the last SEQ taken and sent, failures. -/
structure Session where
  slot : Nat
  binding : Nat
  sid : Nat
  ks : Nat
  seqIn : Nat := 0
  seqOut : Nat := 0
  fails : Nat := 0
  deriving DecidableEq, Repr

/-- An image bank (R507): validity, version, security version, the SHA-384 of the image, and its signed bytes' verdict. -/
structure FwBank where
  valid : Bool := true
  version : Nat := 0
  svn : Nat := 0
  image : List Byte := []
  deriving DecidableEq, Repr

/-- The session engine (chapter 20): endpoint ID, life-cycle state (Table 20-5), serial number, key slots, opening and session, SIDs
used since the last Cold start, tamper inputs open, MGT_STATUS.TAMPER, the latch of a tamper that waits (R504), a wipe in progress, whether the keys are unsealed, minimum SVN, image banks A
and B with the active one, the pending mark and a transfer in progress, user deltas by item, staged deltas, generation, SPDM sessions, and SLOT_ID as the last Cold start sampled it
(R533). -/
structure Gate where
  eid : Nat := 0
  lifecycle : Nat := 0
  serial : Nat := 0
  slots : Map KeySlot := []
  opening : Option Opening := none
  session : Option Session := none
  sids : List Nat := []
  loopsOpen : Bool := false
  tamper : Bool := false
  latched : Bool := false
  wiping : Bool := false
  unsealed : Bool := true
  minSvn : Nat := 0
  bankA : FwBank := {}
  bankB : FwBank := { valid := false }
  active : Nat := 0
  pendingBank : Bool := false
  transfer : Bool := false
  deltas : Map Nat := []
  staged : Map Nat := []
  calGen : Nat := 0
  spdm : List Nat := []
  slotId : Nat := 0
  deriving DecidableEq, Repr

/-- The debug island beside its registers (chapter 21): authorisation level, lifetime in seconds (0xFFFF none), whether the Tally port
is in step, the memory-master access in flight (write, address, data, peek), and whether a Debug reset discards its result. -/
structure Dbg where
  level : Nat := 3
  lifetime : Nat := 0xFFFF
  inStep : Bool := false
  access : Option (Bool × Nat × Nat × Bool) := none
  discard : Bool := false
  deriving DecidableEq, Repr

/-- A host port: link, configuration-space enables, HDM decoder, coherent cache, MSI-X (R382 to R398); the functions that answer configuration
requests (R383), and each function's features enabled, payload and read request sizes in bytes, and BARs, by 8 × function + BAR (Tables 14-2 and
14-3). -/
structure HostPort where
  perst : Bool := true
  up : Bool := false
  speed : Nat := 0
  width : Nat := 0
  flit256 : Bool := false
  busMaster : List Nat := []
  numVfs : Nat := 0
  vfEnable : Bool := false
  cacheEn : Bool := false
  memEn : Bool := false
  uioEn : Bool := false
  d3 : List Nat := []
  hdm : Option (Nat × Nat) := none
  hdmError : Bool := false
  ideIo : Bool := false
  ideCm : Bool := false
  lines : List Nat := []
  msixEn : List Nat := []
  fnMask : List Nat := []
  msix : Map Nat := []
  pba : List Nat := []
  msgs : List (Nat × Nat) := []
  waitOver : Bool := false
  resetting : Bool := false
  readyFns : List Nat := []
  features : List (Nat × Feature) := []
  payload : Map Nat := []
  readSize : Map Nat := []
  bars : Map Nat := []
  deriving DecidableEq, Repr

/-- What leaves the module, oldest first: MSI-X messages (R393), completions of host requests, one to configuration space being Request Retry Status or a success (R383), snoop answers, ring frames on a port,
negative acknowledgements (R416), marks relayed (R412), Gate, PLDM, SPDM and MCTP control messages on a binding, Tally answers, reads and writes of a device window by its module physical address (R287). -/
inductive Out where
  | msix (port fn vec : Nat)
  | barData (port : Nat) (data : List Byte)
  | config (port fn : Nat) (retry : Bool)
  | memData (port : Nat) (data : List Byte) (poison : Bool)
  | memDone (port : Nat)
  | snoop (port : Nat) (hit : Bool)
  | frame (port : Nat) (f : Frame)
  | topology (port src : Nat) (links : List (Nat × Nat)) (age : Nat)
  | nak (port : Nat) (ack : Nat)
  | mark (port : Nat) (stroke period : Nat) (free : Bool) (origin hops age : Nat)
  | leave (port : Nat)
  | gate (binding kind slot sid seq : Nat) (body : List Byte) (mac : Option Nat)
  | pldm (binding code : Nat) (data : List Byte)
  | spdm (binding code : Nat) (data : List Byte)
  | mctp (binding : Nat) (data : List Byte)
  | tally (ack : Nat) (data : Nat) (dcrc : Nat)
  | deviceRead (port pa n : Nat)
  | deviceWrite (port pa : Nat) (data : List Byte)
  deriving DecidableEq, Repr

/-- A result beside the pipe on its way to its register (R329, R330): `bank` 0 a physical scalar register, 1 a long register,
2 a mask register; `div` marks the divider. -/
structure PendWrite where
  bank : Nat
  ix : Nat
  val : Nat
  div : Bool := false
  deriving DecidableEq, Repr

/-- One physical reeve: its place (0 in service, 1 seed, 2 in a reset, 3 retired) and the logical reeve it serves; the registers of
R315 and Table 11-3 (`regs` keys 0 to 7 are s0 to s7, 8 to 135 the windowed ones); long and mask registers; results in flight; the
reservation and locked sequence of R328; the SOW that waits (R335); debug state (R518 to R521); the watchdog's, the stroke's and another reeve's interrupts (Table 12-4); the PC and first element not done
of a long access under way, and whether that element waits for memory (R359); and whether the reeve is in a handler entered from User, for an
interrupt (1) or for a fault or trap (2) (R349). -/
structure Reeve where
  st : Nat := 0
  logical : Option Nat := none
  pc : Nat := 0
  status : Nat := 0x3B
  cause : Nat := 0
  evbase : Nat := 0
  tsbp : Nat := 0
  tsbp2 : Nat := 0
  faddr : Nat := 0
  vstart : Nat := 0
  vl : Nat := 0
  lcount : Nat := 0
  lend : Nat := 0
  winptr : Nat := 0x30
  regs : Map Nat := []
  lregs : Map Nat := []
  mregs : Map Nat := []
  longReady : Bool := false
  flight : List PendWrite := []
  resv : Option Nat := none
  locked : Bool := false
  wfi : Bool := false
  sow : Option Nat := none
  warn : Bool := false
  strokeInt : Bool := false
  halted : Bool := false
  haltReq : Bool := false
  why : Nat := 0
  stepping : Bool := false
  lockBroken : Bool := false
  ipi : Bool := false
  longAt : Option (Nat × Nat) := none
  longFlight : Bool := false
  handler : Nat := 0
  deriving DecidableEq, Repr

/-- One mailbox (R375 to R381): words with number and sender toward the reeve and toward the hosts, the next numbers, the holding
registers by sender code, what each side last popped (high half, stamp), and whether CROSSED may be raised again. -/
structure Mailbox where
  toReeve : List (Nat × Nat × Nat) := []
  toHost : List (Nat × Nat × Nat) := []
  seqReeve : Nat := 0
  seqHost : Nat := 0
  hold : Map Nat := []
  lastReeve : Nat × Nat := (0, 0)
  lastHost : Nat × Nat := (0, 0)
  crossed : Bool := false
  deriving DecidableEq, Repr


/-- Everything the spec gives the module, but for the queue of commands. `regs` holds the registers written since their
reset, by the keys of RegTable; `free` counts the free values taken (log entry 2). `latent` holds the ECC units whose stored bits are in
error, found at their next read: 1 correctable, 2 uncorrectable (R204, R205); those of the Green's own stores stand above 2^56, where 3 is a flash
line of 3 or more corrected bits, and `corrected` counts what is corrected there (R332; DESIGN CHOICE, log entry 107). -/
structure Device where
  mem : Memory := []
  poison : List Nat := []
  latent : Map Nat := []
  corrected : Nat := 0
  regs : Map (BitVec 32) := []
  snaps : Map (BitVec 32) := []
  latches : Map (BitVec 32) := []
  free : Nat := 0
  out : List Out := []
  elog : Map Nat := []
  bell : Bell := {}
  hosts : Map HostPort := []
  xlt : Xlt := {}
  crofts : Map Croft := []
  chans : Map Channel := []
  jobs : Map Job := []
  sower : Sower := {}
  ledger : Ledger := {}
  ring : Ring := {}
  spare : Sparing := {}
  trace : Map Nat := []
  reeves : Map Reeve := []
  boxes : Map Mailbox := []
  hkdTurn : Nat := 0
  ports : Map AlnPort := []
  snapT : Option Nat := none
  snapAt : Option Nat := none
  grants : Map Nat := []
  arbCfg : Map Nat := []
  power : Power := {}
  gate : Gate := {}
  dbg : Dbg := {}
  deriving DecidableEq, Repr

/-- The machine: the device, and the commands that wait, first in, first out. -/
structure State where
  dev : Device := {}
  pending : List Instr := []
  deriving DecidableEq, Repr

/-- Why a command stops the machine: no command does (every event of the spec has an effect), so there is no reason. -/
inductive Fault where
  deriving DecidableEq, Repr

/-- Why a command is refused. -/
inductive Refusal where
  /-- Raised by the arm of a command that has no meaning yet; safe: nothing can be proved of it. -/
  | notModelled (mnemonic : String)
  deriving DecidableEq, Repr

/-- The machine after reset: nothing listed, every register at its reset value, every queue empty. -/
def State.reset : State := {}

end Sys2Proof.Machine
end

