-- ==== Sys2Proof/Machine/Ops.lean ====
section
/-! DEFINITION. The named operations over memory, registers, counters, events, messages and the error log. -/
namespace Sys2Proof.Machine

/-! ## Memory -/

/-- One byte; an unlisted byte reads 0 (Table 1-8; log entry 3). -/
def Memory.byte (m : Memory) (a : Nat) : Byte := (Map.find? m a).getD 0

/-- One byte written, in canonical form: a zero removes the entry. -/
def Memory.setByte : Memory → Nat → Byte → Memory
  | [], a, b => if b = 0 then [] else [(a, b)]
  | (k, v) :: m, a, b =>
    if a < k then (if b = 0 then (k, v) :: m else (a, b) :: (k, v) :: m)
    else if a = k then (if b = 0 then m else (a, b) :: m)
    else (k, v) :: setByte m a b

/-- The number at `n` bytes from `a`, least significant first (R6). -/
def Memory.readLE (m : Memory) (a : Nat) : Nat → Nat
  | 0 => 0
  | n + 1 => (m.byte a).toNat + 256 * Memory.readLE m (a + 1) n

/-- Bytes written one after another from `a`. -/
def Memory.writeBytes (m : Memory) : Nat → List Byte → Memory
  | _, [] => m
  | a, b :: bs => (m.setByte a b).writeBytes (a + 1) bs

/-- Bytes written where each cell says. -/
def Memory.writeCells (m : Memory) (cells : List (Nat × Byte)) : Memory :=
  cells.foldl (fun m c => m.setByte c.1 c.2) m

/-- Every byte of a range set to zero. -/
def Memory.zero (m : Memory) (lo n : Nat) : Memory := m.filter (fun c => c.1 < lo || c.1 ≥ lo + n)

/-- Reeve physical bases of Table 13-1. -/
def flashBase : Nat := 0x10000000
def sramBase : Nat := 0x11000000
def strongBase : Nat := 0x12000000
def windowBase : Nat := 2 ^ 56

/-- Size of HBM, and the Granary's range (Table 7-2). -/
def hbmSize : Nat := 0x4800000000
def granaryBase : Nat := 0x8000000000
def granarySize : Nat := 0x8000000

/-- Regions of Table 10-2. -/
inductive Region where
  | hbm | granary | host (p : Nat) | pool (p : Nat) | device (p : Nat) | far | hole
  deriving DecidableEq, Repr

/-- Region of a module physical address (Table 10-2). -/
def regionOf (pa : Nat) : Region :=
  let top := pa / 2 ^ 52
  if pa < hbmSize then .hbm
  else if granaryBase ≤ pa ∧ pa < granaryBase + granarySize then .granary
  else if top = 1 then .host 0
  else if top = 2 then .host 1
  else if top = 3 then .pool 0
  else if top = 4 then .pool 1
  else if top = 5 then .device 0
  else if top = 6 then .device 1
  else if top = 8 then .far
  else .hole

/-- R190: stack, pseudo-channel and byte offset of an HBM address. -/
def hbmPlace (pa : Nat) : Nat × Nat × Nat :=
  let b (i : Nat) : Nat := field pa i 1
  let d := (b 16 + b 24 + b 32) % 2
  let h := field pa 16 7 ^^^ field pa 23 7 ^^^ field pa 30 7 ^^^ field pa 37 2
  let c := field pa 8 7 ^^^ h
  (4 * d + c % 4, c / 4, 256 * (2 * field pa 17 22 + b 15) + pa % 256)

/-- R194: logical bank and byte offset of a Granary address. -/
def grnPlace (pa : Nat) : Nat × Nat :=
  let g := pa - granaryBase
  (128 * field g 26 1 + (field g 6 7 ^^^ field g 13 7), 64 * field g 13 13 + g % 64)

/-- Base of the poison unit of an on-module address: a 32-byte HBM burst or a 16-byte Granary word (Table 7-7). -/
def unitBase (pa : Nat) : Nat := if pa < hbmSize then pa / 32 * 32 else pa / 16 * 16
def unitSize (pa : Nat) : Nat := if pa < hbmSize then 32 else 16

/-! ## Registers -/

namespace Device

/-- A register of a page, as a number. -/
def rg (d : Device) (kind inst off : Nat) : Nat :=
  let k := regKey kind inst off
  (d.regs.get (regReset k) k).toNat

/-- A register replaced. -/
def setRg (d : Device) (kind inst off v : Nat) : Device :=
  { d with regs := d.regs.set (regKey kind inst off) (BitVec.ofNat 32 v) }

/-- A field of a register. -/
def fld (d : Device) (kind inst off lo len : Nat) : Nat := field (d.rg kind inst off) lo len

/-- A field of a register replaced. -/
def setFld (d : Device) (kind inst off lo len v : Nat) : Device :=
  d.setRg kind inst off (putField (d.rg kind inst off) lo len v)

/-- A counter of a page that is not frozen (R482): 48 bits over a _LO/_HI pair, wrapping (R157). -/
def countBy (d : Device) (kind inst off n : Nat) : Device :=
  if d.fld kind inst 0x008 0 1 = 1 then d
  else
    let v := (d.rg kind inst off + 2 ^ 32 * d.rg kind inst (off + 4) + n) % 2 ^ 48
    (d.setRg kind inst off (v % 2 ^ 32)).setRg kind inst (off + 4) (v / 2 ^ 32)

def count (d : Device) (kind inst off : Nat) : Device := d.countBy kind inst off 1

/-- A 32-bit counter of a page that is not frozen, wrapping. -/
def count32 (d : Device) (kind inst off : Nat) : Device :=
  if d.fld kind inst 0x008 0 1 = 1 then d else d.setRg kind inst off ((d.rg kind inst off + 1) % 2 ^ 32)

/-- A 48-bit counter's value. -/
def counter (d : Device) (kind inst off : Nat) : Nat := d.rg kind inst off + 2 ^ 32 * d.rg kind inst (off + 4)

/-! ## Bell time, free values, output -/

/-- The 64-bit bell time (R10). -/
def bellNow (d : Device) : Nat := d.bell.stroke * 2 ^ 24 + d.bell.phase

/-- Whether bell time is free-running: in every state but LOCKED (R405). -/
def bellFree (d : Device) : Bool := d.bell.state ≠ 2

/-- Whether a Cold or a Warm reset is in progress, which absorbs every narrower one (R31). -/
def resetUnderWay (d : Device) : Bool :=
  d.power.warming || (1 ≤ d.power.step && d.power.step < 7 && d.power.standClass = 0 && d.fld 9 0 0x00C 0 3 = 0)

/-- A free value of `n` bits and the state with the next one due (log entry 2). -/
def takeFree (d : Device) (n : Nat) : Nat × Device := (Config.freeValue d.free % 2 ^ n, { d with free := d.free + 1 })

def emit (d : Device) (o : Out) : Device := { d with out := d.out ++ [o] }

/-! ## Host ports, messages and events -/

def host (d : Device) (p : Nat) : HostPort := d.hosts.get {} p
def setHost (d : Device) (p : Nat) (h : HostPort) : Device := { d with hosts := d.hosts.set p h }

/-- A message owed by a function of a port, sent by MSIX_MESSAGE (R393, R394). -/
def oweMsg (d : Device) (p fn vec : Nat) : Device :=
  d.setHost p { d.host p with msgs := (d.host p).msgs ++ [(fn, vec)] }

/-- Whether a page signals: EVENT AND EVENT_EN nonzero (R478). -/
def signals (d : Device) (kind inst : Nat) : Bool := (d.rg kind inst 0x010 &&& d.rg kind inst 0x014) ≠ 0

/-- Bit of GLB_PEND for a page (R490). -/
def pendBit (kind inst : Nat) : Option Nat :=
  match kind with
  | 2 => some 0
  | 3 => some 1
  | 4 => some 2
  | 5 => some 3
  | 6 => some (4 + inst)
  | 7 => some 6
  | 8 => some (7 + inst)
  | 9 => some 11
  | 10 => some 12
  | 11 => some 13
  | 12 => some 14
  | 14 => some 15
  | 15 => some 16
  | 16 => some 17
  | 17 => some 18
  | 18 => some 18
  | 19 => some 19
  | _ => none

/-- GLB_PEND: the bits of the pages that signal, found among the registers written. -/
def pend (d : Device) : Nat :=
  d.regs.foldl (fun (acc : Nat) (e : Nat × BitVec 32) =>
    if e.1 % 0x4000 = 0x010 ∧ e.2 ≠ 0 then
      match pageOf (e.1 / 0x4000) with
      | some (k, i) =>
        match pendBit k i with
        | some b => if d.signals k i then acc ||| 2 ^ b else acc
        | none => acc
      | none => acc
    else acc) 0

/-- The GLB message on each port (R489) when the GLB page begins to signal. -/
def glbMessage (before after : Device) : Device :=
  if after.signals 1 0 ∧ ¬ before.signals 1 0 then
    (after.oweMsg 0 0 (after.fld 6 0 0x044 0 11)).oweMsg 1 0 (after.fld 6 1 0x044 0 11)
  else after

/-- What follows a change of EVENT or EVENT_EN of a page: GLB_EVENT.PAGE, the GLB message, the mailbox message (R478, R379). -/
def afterSignal (before after : Device) (kind inst : Nat) : Device :=
  if kind = 1 then glbMessage before after
  else if kind = 13 then
    if after.signals 13 inst ∧ ¬ before.signals 13 inst then
      (after.oweMsg 0 0 (after.fld 6 0 0x044 16 11 + inst)).oweMsg 1 0 (after.fld 6 1 0x044 16 11 + inst)
    else after
  else if before.pend = 0 ∧ after.pend ≠ 0 then
    glbMessage before (after.setRg 1 0 0x010 (after.rg 1 0 0x010 ||| 2 ^ 6))
  else after

/-- EVENT bits set, by hardware or by EVENT_FORCE (R478). -/
def eventMask (d : Device) (kind inst mask : Nat) : Device :=
  afterSignal d (d.setRg kind inst 0x010 (d.rg kind inst 0x010 ||| mask)) kind inst

def event (d : Device) (kind inst bit : Nat) : Device := d.eventMask kind inst (2 ^ bit)

/-- ERR_CODE of a page: the first error is kept and a later one sets OVERRUN (R481). -/
def err (d : Device) (kind inst code off view : Nat) : Device :=
  let e := d.rg kind inst 0x024
  if e / 2 ^ 31 = 1 then d.setRg kind inst 0x024 (e ||| 2 ^ 30)
  else d.setRg kind inst 0x024 (2 ^ 31 + code + off % 4096 * 2 ^ 8 + view % 4 * 2 ^ 20)

/-- R491: an error-log entry at the next number; the one 1,024 before it is overwritten and counted if unread. -/
def logErr (d : Device) (block inst chan kind arg0 arg1 : Nat) (injected : Bool := false) : Device :=
  let e := d.rg 1 0 0x094
  let w3 := block + inst % 512 * 2 ^ 8 + ofBool d.bellFree * 2 ^ 17 + ofBool injected * 2 ^ 18
  let w4 := kind + chan % 4096 * 2 ^ 8
  let entry := d.bellNow + e * 2 ^ 64 + w3 * 2 ^ 96 + w4 * 2 ^ 128 + arg0 % 2 ^ 32 * 2 ^ 160 + arg1 % 2 ^ 64 * 2 ^ 192
  let lost := d.elog.any (fun x => x.1 = e % 1024) && (e + 2 ^ 32 - d.rg 1 0 0x098) % 2 ^ 32 ≥ 1024
  let d := { d with elog := d.elog.set (e % 1024) entry }
  let d := d.setRg 1 0 0x094 ((e + 1) % 2 ^ 32)
  let d := if lost then (d.count 1 0 0x070).event 1 0 9 else d
  d.event 1 0 8

end Device

/-! ## Commands -/

/-- What a command answers. -/
abbrev Answer : Type := Host.Outcome State Fault Refusal

/-- A command's effect on the device; the queue is left alone. -/
def State.act (s : State) (f : Device → Device) : Answer := .next { s with dev := f s.dev }

end Sys2Proof.Machine
end

