-- ==== Sys2Proof/Machine/Errors.lean ====
section
/-! DEFINITION. Stacks, poison and memory errors (R204 to R208), and the wear of banks and HBM rows that they lead to (R468 to R473). -/
namespace Sys2Proof.Machine

/-- Stroke period of a code in microseconds (R403). -/
def periodUs (code : Nat) : Nat := 250 * 2 ^ code

/-- Die of a physical bank (R14): West 0 to 131, East 132 to 263. -/
def bankDie (b : Nat) : Nat := b / 132

/-- Pseudo-channel number of the module, and granule within it, of an HBM address (R190). -/
def hbmChannel (pa : Nat) : Nat := 32 * (hbmPlace pa).1 + (hbmPlace pa).2.1
def hbmGranule (pa : Nat) : Nat := (hbmPlace pa).2.2 / 256

/-- The check unit of the Green's own stores that holds an address of the memory map: a 32-byte line of the embedded flash, else an 8-byte word of
control SRAM or the Strongroom (Table 7-7). It stands above 2^56, apart from the units of module addresses. -/
def greenUnit (a : Nat) : Nat := 2 ^ 56 + (if a < sramBase then a / 32 * 32 else a / 8 * 8)

/-- Check units that a range of the Green's stores touches. -/
def greenUnits (a n : Nat) : List Nat := ((List.range n).map (fun k => greenUnit (a + k))).eraseDups

namespace Device

/-- The current stroke. -/
def stroke (d : Device) : Nat := d.bell.stroke

/-- Whether the compute dies are off: before step 3 of a start, in QUIET, in stand-down from its step 6, and in SAFE (R23). -/
def computeOff (d : Device) : Bool :=
  d.power.step < 3 || d.power.diesOff || d.fld 9 0 0x00C 0 3 = 2 || d.fld 9 0 0x00C 0 3 = 5

/-- Module ID of this module (ALN_ID). -/
def moduleId (d : Device) : Nat := d.fld 8 0 0x048 0 12

/-- A far address that names this module is served as the on-module address PA[39:0] (R285). -/
def ownPa (d : Device) (pa : Nat) : Nat :=
  if regionOf pa = .far ∧ field pa 40 12 = d.moduleId then pa % 2 ^ 40 else pa

/-! ## Stacks and poison -/

/-- State of a stack (HBM_STATUS.STATE, R213): 4 is LOST. -/
def stackState (d : Device) (k : Nat) : Nat := d.fld 16 k 0x00C 0 3

def stackLost (d : Device) (pa : Nat) : Bool := pa < hbmSize && d.stackState (hbmPlace pa).1 = 4

/-- Addresses one granule, burst or byte apart that a range of `n` bytes touches: one per 16-byte unit. -/
def unitsOf (pa n : Nat) : List Nat := (List.range (ceilDiv (pa % 16 + n) 16)).map (fun k => (pa / 16 + k) * 16)

/-- Whether any byte of an on-module range lies in a LOST stack. -/
def rangeLost (d : Device) (pa n : Nat) : Bool := (unitsOf pa n).any d.stackLost

/-- Whether any unit of an on-module range is poisoned (R205). -/
def rangePoison (d : Device) (pa n : Nat) : Bool := (unitsOf pa n).any (fun a => d.poison.contains (unitBase a))

/-- A unit marked poisoned. -/
def setPoison (d : Device) (pa : Nat) : Device :=
  let u := unitBase pa
  if d.poison.contains u then d else { d with poison := d.poison ++ [u] }

/-- Whether the range covers the whole unit of an address. -/
def coversUnit (pa n u : Nat) : Bool := pa ≤ unitBase u && unitBase u + unitSize u ≤ pa + n

/-- Poison cleared of the units that a write of good data covers whole (R205). -/
def clearPoison (d : Device) (pa n : Nat) : Device :=
  { d with poison := d.poison.filter (fun u => ¬ (coversUnit pa n u)) }

/-! ## Wear -/

/-- Bell time of a duration in seconds at the period in force. -/
def bellSpan (d : Device) (sec : Nat) : Nat := sec * 1000000 / periodUs d.bell.period * 2 ^ 24

/-- A sparing log entry with its error-log entry (R469, R473). -/
def logSpare (d : Device) (unit new kind reason : Nat) : Device :=
  let lo := unit % 512 + new % 512 * 2 ^ 9 + kind % 8 * 2 ^ 18 + reason % 8 * 2 ^ 21 + 2 ^ 31
  let d := d.logErr 11 0 0xFFF 0x07 lo d.stroke
  if d.spare.log.length < 64 then { d with spare := { d.spare with log := d.spare.log ++ [(lo, d.stroke % 2 ^ 32)] } }
  else d.count 11 0 0x068

/-- Events of a kind and unit within a window, one now included; with `distinct`, one per detail. -/
def noteWear (d : Device) (kind unit detail sec : Nat) (distinct : Bool := false) : Nat × Device :=
  let now := d.bellNow
  let old := d.spare.wear.filter (fun e => e.1 = kind && e.2.1 = unit && e.2.2.2 + d.bellSpan sec ≥ now)
  let fresh : Bool := !(distinct && old.any (fun e => e.2.2.1 = detail))
  let d := if fresh then { d with spare := { d.spare with wear := d.spare.wear ++ [(kind, unit, detail, now)] } } else d
  (old.length + ofBool fresh, d)

/-- Whether a swap is already named for a part. -/
def isNamed (d : Device) (kind unit : Nat) : Bool := d.spare.named.any (fun e => e.1 = kind && e.2.1 = unit)

/-- Signed user delta in force of a calibration item (R505). -/
def calDelta (d : Device) (item : Nat) : Int := toSigned 16 (d.gate.deltas.get 0 item)

/-! ## Banks and rows that wear -/

/-- Physical bank that serves a logical bank (R194). -/
def bankOf (d : Device) (l : Nat) : Nat := d.spare.bankMap.get (if l < 128 then l else l + 4) l

/-- State of a physical bank (GRN_BANK_STATUS.STATE). -/
def bankState (d : Device) (b : Nat) : Nat := d.spare.bankSt.get 0 b
def setBankState (d : Device) (b st : Nat) : Device :=
  { d with spare := { d.spare with bankSt := d.spare.bankSt.set b st } }

/-- Seed banks of a die. -/
def seedBanks (d : Device) (die : Nat) : List Nat := (span (132 * die) 132).filter (fun b => d.bankState b = 2)

/-- EXHAUSTED raised and logged (R473). -/
def exhausted (d : Device) (unit kind : Nat) : Device := (d.event 11 0 2).logSpare unit 0x1FF kind 6

/-- R468, R469, R473: a worn bank: a swap named for a later stroke, or it stays in service without a spare. -/
def wornBank (d : Device) (b reason : Nat) : Device :=
  if d.isNamed 1 b ∨ d.bankState b ≠ 1 then d
  else if ¬ (d.seedBanks (bankDie b)).isEmpty then
    { d with spare := { d.spare with named := d.spare.named ++ [(1, b, d.stroke + d.fld 11 0 0x040 0 8, reason)] } }
  else d.exhausted b 1

/-- R468, R471: a worn HBM row of a pseudo-channel remapped while one of its 16 entries is left. -/
def wornRow (d : Device) (chan : Nat) : Device :=
  let used := d.spare.rows.get 0 chan
  if used < 16 then
    let d := { d with spare := { d.spare with rows := d.spare.rows.set chan (used + 1) } }
    ((d.count 11 0 0x060).event 11 0 0).logSpare chan 0x1FF 5 3
  else d.exhausted chan 5

/-! ## LOST stacks -/

/-- A stack enters LOST (R208, R256). -/
def loseStack (d : Device) (k : Nat) : Device :=
  if d.stackState k = 4 then d
  else
    let d := ((d.setFld 16 k 0x00C 0 3 4).logErr 10 0 0xFFF 0x06 5 0).event 10 0 5
    { d with ledger := { d.ledger with degraded := true } }.event 3 0 1

/-! ## Memory errors -/

/-- A corrected error at an on-module address (R204, R207); a scrub read logs it. -/
def correctedErr (d : Device) (pa : Nat) (scrub : Bool) : Device :=
  if pa < hbmSize then
    let k := (hbmPlace pa).1
    let pass := d.counter 16 k 0x078
    let chan := hbmChannel pa
    let again := d.spare.wear.any (fun e => e.1 = 6 && e.2.1 = chan && e.2.2.1 = hbmGranule pa && e.2.2.2 ≠ pass)
    let d := (d.count 16 k 0x060)
    let d := if scrub then d.logErr 16 k 0xFFF 0x03 0 pa else d
    let d := if scrub then { d with spare := { d.spare with wear := d.spare.wear ++ [(6, chan, hbmGranule pa, pass)] } } else d
    if scrub ∧ again then d.wornRow chan else d
  else
    let b := d.bankOf (grnPlace pa).1
    let d := (d.count32 18 b 0x040).setRg 18 b 0x048 ((grnPlace pa).2 / 64 % 2 ^ 13 + 2 ^ 31)
    let d := if scrub then d.logErr 18 b 0xFFF 0x03 0 pa else d
    let (n, d) := d.noteWear 1 b 0 86400
    if (n : Int) ≥ 1000 + 10 * d.calDelta 0x11 then d.wornBank b 3 else d

/-- An uncorrectable error found by a read: the unit is poisoned, counted and logged (R205). -/
def uncorrectable (d : Device) (pa : Nat) : Device :=
  let d := d.setPoison pa
  if pa < hbmSize then
    let k := (hbmPlace pa).1
    let d := ((d.count 16 k 0x068).setRg 16 k 0x050 (pa % 2 ^ 32)).setRg 16 k 0x054 (pa / 2 ^ 32 % 2 ^ 7 + 2 ^ 31)
    let d := (d.logErr 16 k 0xFFF 0x04 0 pa).wornRow (hbmChannel pa)
    let (n, d) := d.noteWear 7 k 0 1
    if n > 64 then d.loseStack k else d
  else
    let b := d.bankOf (grnPlace pa).1
    let row := (grnPlace pa).2 / 64
    let d := (d.count32 18 b 0x044).setRg 18 b 0x048 (row % 2 ^ 13 + 2 ^ 13 + 2 ^ 31)
    let d := d.logErr 18 b 0xFFF 0x04 0 pa
    let (n, d) := d.noteWear 8 b ((grnPlace pa).2 / 16) 86400 (distinct := true)
    if n ≥ 2 then d.wornBank b 3 else d

/-- An error of the stored bits of the Green's stores: 1 correctable, 2 uncorrectable, 3 a flash line of 3 or more corrected bits. -/
def strikeGreen (d : Device) (a ecc : Nat) : Device :=
  let u := greenUnit a
  let old := d.latent.get 0 u
  let stored : Bool := flashBase ≤ a && a < strongBase + 0x400000 && !(sramBase + 0x800000 ≤ a && a < strongBase)
  if stored ∧ (ecc = 1 ∨ ecc = 2 ∨ ecc = 3 ∧ a < sramBase) then
    { d with latent := d.latent.set u (if ecc = 2 ∨ old = 2 then 2 else max ecc old) }
  else d

/-- R468, R473: a worn flash sector: while a seed sector is left it takes one, for firmware to bring in at the next write of its data; else it
stays in use. The log has no place for more than 9 bits of a sector's number (log entry 107). -/
def wornSector (d : Device) (a : Nat) : Device :=
  let sector := (a - flashBase) / 4096
  if d.spare.flashUsed < 64 then ({ d with spare := { d.spare with flashUsed := d.spare.flashUsed + 1 } } : Device).logSpare sector 0x1FF 6 3
  else d.exhausted sector 6

/-- The ECC check of a read of the Green's stores: what can be corrected is, and is counted (R204, R332); whether an uncorrectable error was
found, which stays until its unit is written afresh. -/
def checkGreen (d : Device) (a n : Nat) : Bool × Device :=
  (greenUnits a n).foldl (fun r u =>
    match r.2.latent.find? u with
    | none => r
    | some k =>
      if k = 2 then (true, r.2)
      else
        let d : Device := { r.2 with latent := r.2.latent.erase u, corrected := r.2.corrected + 1 }
        (r.1, if k = 3 then d.wornSector (u - 2 ^ 56) else d)) (false, d)

/-- A write of the Green's stores: the units it covers whole are written afresh; one that it covers in part is read first, where a correctable
error is corrected and an uncorrectable one stays. -/
def writeGreen (d : Device) (a n : Nat) : Device :=
  let whole (u : Nat) : Bool := 2 ^ 56 + a ≤ u && u + 8 ≤ 2 ^ 56 + a + n
  (({ d with latent := d.latent.filter (fun e => !(whole e.1)) } : Device).checkGreen a n).2

/-- An error of an on-module address's stored bits, there to be found by the next read of its burst or word: 1 correctable, 2 uncorrectable. From
2^56 on, the address is one of the Green's own stores in its memory map. -/
def strike (d : Device) (pa ecc : Nat) : Device :=
  if pa ≥ 2 ^ 56 then d.strikeGreen (pa - 2 ^ 56) ecc
  else
  let pa := d.ownPa pa
  let u := unitBase pa
  if (regionOf pa = .hbm ∨ regionOf pa = .granary) ∧ (ecc = 1 ∨ ecc = 2) then { d with latent := d.latent.set u (max ecc (d.latent.get 0 u)) } else d

/-- The ECC check of a read of an on-module range, unit by unit: what it finds is corrected and counted, or poisoned, counted and logged;
whether it found an uncorrectable error (R204 to R207). -/
def findErrors (d : Device) (us : List Nat) (scrub : Bool) : Bool × Device :=
  us.foldl (fun r u =>
    match r.2.latent.find? (unitBase u) with
    | none => r
    | some k =>
      let d : Device := { r.2 with latent := r.2.latent.erase (unitBase u) }
      if k = 2 then (true, d.uncorrectable (unitBase u)) else (r.1, d.correctedErr (unitBase u) scrub)) (false, d)

end Device

end Sys2Proof.Machine
end

