-- ==== Sys2Proof/Machine/Memory.lean ====
section
/-! DEFINITION. Physical access: reads, writes and atomics at a module physical address, the errors they find, and the frames that carry far
ones (chapters 7, 10, 14 and 15). -/
namespace Sys2Proof.Machine

namespace Device

/-- Whether IDE_REQUIRE holds a port's traffic back (R395). -/
def ideBlocked (d : Device) (p : Nat) : Bool :=
  d.fld 6 p 0x040 4 1 = 1 && !((d.host p).ideIo && (d.host p).ideCm)

/-- Whether a request to host memory of a port can be served now (R391, R395). -/
def hostServes (d : Device) (p : Nat) : Bool := (d.host p).up && (d.host p).cacheEn && !d.ideBlocked p

/-- HLK_STATUS.UIO: unordered I/O in use (R392). -/
def uioInUse (d : Device) (p : Nat) : Bool := (d.host p).up && (d.host p).flit256 && (d.host p).uioEn && !d.ideBlocked p

/-- What a physical access finds; `ue` is an uncorrectable error that this read is the first to find (R205). -/
inductive Res where
  | ok (v : Nat) | poison | ue | lost | wait | err | hole
  deriving DecidableEq, Repr

/-! ## Frames (R416, R418, R419) -/

/-- Class of a frame kind (Table 15-8). -/
def frameClass (kind : Nat) : Nat :=
  if kind ≤ 3 then 0 else if kind ≤ 6 ∨ kind = 8 then 1 else if kind = 7 ∨ kind = 9 then 2 else 3

/-- Whether a frame carries a payload of its UNITS. -/
def carries (f : Frame) : Bool := f.kind = 2 || f.kind = 3 || f.kind = 7 || f.kind = 9 || ((f.kind = 4 || f.kind = 6) && f.status = 0)

/-- Flits of a frame: the head flit, and 64-byte data flits of a payload longer than 32 bytes (R418). -/
def flitsOf (f : Frame) : Nat := 1 + (if carries f ∧ 16 * (f.units + 1) > 32 then ceilDiv (16 * (f.units + 1)) 64 else 0)

def alnState (d : Device) (p : Nat) : Nat := d.fld 8 p 0x00C 0 3
/-- Whether an Alnar port is UP (ALN_STATUS.STATE). -/
def alnUp (d : Device) (p : Nat) : Bool := d.alnState p = 2 || d.alnState p = 3 || d.alnState p = 4
def port (d : Device) (p : Nat) : AlnPort := d.ports.get {} p
def setPort (d : Device) (p : Nat) (a : AlnPort) : Device := { d with ports := d.ports.set p a }

/-- A frame sent on a port against credits, or queued for them; a port that is not UP sends nothing. -/
def pushFrame (d : Device) (p : Nat) (f : Frame) : Device :=
  let a := d.port p
  let ix := 2 * frameClass f.kind + f.set % 2
  let n := flitsOf f
  if ¬ d.alnUp p then d
  else if a.unacked.length ≥ 512 ∨ a.queue.any (fun g => 2 * frameClass g.kind + g.set % 2 = ix) ∨ a.credits.get 0 ix < n then
    d.setPort p { a with queue := a.queue ++ [f] }
  else
    let seq := (a.txSeq + 1) % 4096
    ((d.setPort p { a with txSeq := seq, unacked := a.unacked ++ [(seq, f)], credits := a.credits.set ix (a.credits.get 0 ix - n) }).countBy
      8 p 0x080 n).emit (.frame p f)

/-- The route to a destination, unless its latency exceeds a stroke period (R419, R420). -/
def routeOf (d : Device) (dest : Nat) : Option (Nat × Nat × Nat) :=
  (d.ring.routes.find? dest).filter (fun r => decide (r.2.2 ≤ 250000 * 2 ^ d.bell.period))

/-- A frame of this module on the port its route gives, if it has one. -/
def sendFrame (d : Device) (f : Frame) : Device :=
  match d.routeOf f.dest with
  | some (p, _) => d.pushFrame p { f with src := d.moduleId, epoch := d.ring.epoch % 65536 }
  | none => d

/-- A far access (R422): the answer of its request, or the request sent and a wait. -/
def farAccess (d : Device) (kind pa n data op width : Nat) : Res × Device :=
  let dest := field pa 40 12
  let f : Frame := { kind := kind, dest := dest, src := d.moduleId, addr := pa % 2 ^ 40, units := ceilDiv n 16 - 1, op := op
                     width := width, data := data }
  let same (r : FarReq) : Bool := ({ r.frame with tag := 0 } : Frame) = f && r.n = n
  match d.ring.far.find? same with
  | some r =>
    match r.resp with
    | some (st, v) =>
      let d := { d with ring := { d.ring with far := d.ring.far.erase r } }
      (if st = 0 then .ok v else if st = 1 then .poison else .lost, d)
    | none => (.wait, d)
  | none =>
    if (d.routeOf dest).isNone then (.lost, d)
    else if kind = 3 ∧ (d.ring.far.filter (fun r => r.frame.kind = 3 ∧ r.frame.dest = dest)).length ≥ 256 then (.wait, d)
    else
      let tag := if kind = 3 then d.ring.atomTag.get 0 dest else d.ring.tag
      let ring := { d.ring with far := d.ring.far ++ [({ frame := { f with tag := tag }, n := n } : FarReq)] }
      let ring := if kind = 3 then { ring with atomTag := ring.atomTag.set dest ((tag + 1) % 65536) } else { ring with tag := (tag + 1) % 65536 }
      (.wait, ({ d with ring := ring } : Device).sendFrame { f with tag := tag })

/-- A request to a port that cannot serve it now: an error response once HLK_LINK_WAIT has ended, else a wait (R397). -/
def portWait (d : Device) (p : Nat) : Res × Device :=
  if (d.host p).waitOver then (.err, d.setHost p { d.host p with waitOver := false }) else (.wait, d)

/-- A read of `n` bytes of HBM or the Granary: an error response while the compute dies are off (R26), then a LOST stack, then what the ECC
check finds, then poison. -/
def readModule (d : Device) (pa n : Nat) : Res × Device :=
  if d.computeOff then (.err, d)
  else if d.rangeLost pa n then (.lost, d)
  else
    let old := d.rangePoison pa n
    match d.findErrors (unitsOf pa n) false with
    | (true, d) => (.ue, d)
    | (false, d) =>
      if old then (.poison, if pa < hbmSize then d.count 16 (hbmPlace pa).1 0x070 else d)
      else (.ok (d.mem.readLE (windowBase + pa) n), d)

/-- A read of `n` bytes at a module physical address, by region (Table 10-2). Reads of a device window give a free value. -/
def readPa (d : Device) (pa n : Nat) : Res × Device :=
  let pa := d.ownPa pa
  match regionOf pa with
  | .hbm => d.readModule pa n
  | .granary => d.readModule pa n
  | .host p => if d.hostServes p then (.ok (d.mem.readLE (windowBase + pa) n), d) else d.portWait p
  | .pool p =>
    if d.uioInUse p then (.ok (d.mem.readLE (windowBase + pa) n), d.count 6 p 0x098)
    else if (d.host p).up then (.err, d)
    else d.portWait p
  | .device p =>
    if (d.host p).up then
      let (v, d) := d.takeFree (8 * n)
      (.ok v, d.emit (.deviceRead p pa n))
    else d.portWait p
  | .far => d.farAccess 1 pa n 0 0 0
  | .hole => (.hole, d)

/-- Lines of a port's coherent cache that a write makes and writes back, clean (R390). -/
def keepLine (h : HostPort) (pa : Nat) : HostPort :=
  let l := pa / 64 * 64
  if h.lines.contains l then h else { h with lines := h.lines ++ [l] }

/-- A reservation whose block a write of `n` bytes meets is lost (R328). -/
def dropResv (d : Device) (lo n : Nat) : Device :=
  { d with reeves := d.reeves.map (fun (e : Nat × Reeve) =>
      match e.2.resv with
      | some b => if b < lo + n ∧ lo < b + 64 then (e.1, { e.2 with resv := none }) else e
      | none => e) }

/-- The ECC side of a write of `n` bytes on the module: units it covers whole are written afresh, and a unit it covers in part is read first,
where its error is found. -/
def writeErrors (d : Device) (pa n : Nat) : Device :=
  let whole (u : Nat) : Bool := coversUnit pa n u
  (({ d with latent := d.latent.filter (fun e => !(whole e.1)) } : Device).findErrors (unitsOf pa n) false).2

/-- A write of bytes of HBM or the Granary. -/
def writeModule (d : Device) (pa : Nat) (bs : List Byte) : Res × Device :=
  if d.computeOff then (.err, d)
  else if d.rangeLost pa bs.length then (.lost, d)
  else
    let d := d.writeErrors pa bs.length
    (.ok 0, (({ d with mem := d.mem.writeBytes (windowBase + pa) bs } : Device).dropResv (windowBase + pa) bs.length).clearPoison pa bs.length)

/-- A write of bytes at a module physical address. A device window takes it and keeps nothing the module can see. -/
def writePa (d : Device) (pa : Nat) (bs : List Byte) : Res × Device :=
  let pa := d.ownPa pa
  let n := bs.length
  let put (d : Device) : Device := ({ d with mem := d.mem.writeBytes (windowBase + pa) bs } : Device).dropResv (windowBase + pa) n
  match regionOf pa with
  | .hbm => d.writeModule pa bs
  | .granary => d.writeModule pa bs
  | .host p =>
    if d.hostServes p then (.ok 0, (put d).setHost p (keepLine ((put d).host p) pa)) else d.portWait p
  | .pool p =>
    if d.uioInUse p then (.ok 0, (put d).count 6 p 0x098)
    else if (d.host p).up then (.err, d)
    else d.portWait p
  | .device p => if (d.host p).up then (.ok 0, d.emit (.deviceWrite p pa bs)) else d.portWait p
  | .far => d.farAccess 2 pa n (ofBytes bs) 0 0
  | .hole => (.hole, d)

/-! ## High-class requests (R210, R211) -/

/-- The arbitration points that a request from the Green meets on its way to an on-module address: both ends of the Green's link to the die
(West 513 and 514, East 515 and 516), then the pseudo-channel (0 to 255) or the logical bank (256 to 511). -/
def greenPoints (pa : Nat) : List Nat :=
  match regionOf pa with
  | .hbm => (if hbmChannel pa / 128 = 0 then [513, 514] else [515, 516]) ++ [hbmChannel pa]
  | .granary => (if (grnPlace pa).1 / 128 = 0 then [513, 514] else [515, 516]) ++ [256 + (grnPlace pa).1]
  | _ => []

/-- R211: a high-class request granted at its points; a masked one is granted in a cycle in which no other request waits, which is every cycle
here, where one request is served at a time (log entry 91). -/
def grant (d : Device) (pa : Nat) : Device :=
  { d with grants := (greenPoints (d.ownPa pa)).foldl (fun g p => g.set p (g.get 0 p + 1)) d.grants }

/-- Reads and writes of the high class: ledger engine, channel engine, table walker and Sower program reads (R210). -/
def readHigh (d : Device) (pa n : Nat) : Res × Device := (d.grant pa).readPa pa n
def writeHigh (d : Device) (pa : Nat) (bs : List Byte) : Res × Device := (d.grant pa).writePa pa bs

/-- R26: an access of a block of the Green to a compute die that is down is recorded in the block's page. -/
def noteDown (d : Device) (page pa : Nat) : Device :=
  let r := regionOf (d.ownPa pa)
  if d.computeOff ∧ (r = .hbm ∨ r = .granary) then d.err page 0 4 0 0 else d

/-- Such reads and writes of a block, by its page's kind. -/
def readFor (d : Device) (page pa n : Nat) : Res × Device := (d.noteDown page pa).readHigh pa n
def writeFor (d : Device) (page pa : Nat) (bs : List Byte) : Res × Device := (d.noteDown page pa).writeHigh pa bs

/-- Bytes whose bits `m` are written over what memory holds. -/
def writeBits (mem : Memory) : Nat → List (Nat × Nat) → Memory
  | _, [] => mem
  | a, (b, m) :: bs =>
    writeBits (if m % 256 = 0 then mem else mem.setByte a (BitVec.ofNat 8 (((mem.byte a).toNat &&& (255 - m % 256)) ||| (b &&& m % 256)))) (a + 1) bs

/-- One access that writes some bits of `n` bytes and leaves the others, on the module, in host memory or in a pool: the whole of one store,
never a part of it (R74, R187). Poison goes from the units it covers whole (R205). -/
def writeMaskedPa (d : Device) (pa : Nat) (bs : List (Nat × Nat)) : Res × Device :=
  let pa := d.ownPa pa
  let n := bs.length
  if bs.all (fun b => b.2 % 256 = 255) then d.writePa pa (bs.map (fun b => BitVec.ofNat 8 b.1))
  else
    let put (d : Device) : Device := ({ d with mem := writeBits d.mem (windowBase + pa) bs } : Device).dropResv (windowBase + pa) n
    let onModule : Res × Device :=
      if d.computeOff then (.err, d)
      else if d.rangeLost pa n then (.lost, d)
      else
        let whole (u : Nat) : Bool := coversUnit pa n u && (span u (unitSize u)).all (fun a => ((bs[a - pa]?).map (fun b => b.2 % 256)).getD 0 = 255)
        let d := (({ d with latent := d.latent.filter (fun e => !(whole e.1)) } : Device).findErrors (unitsOf pa n) false).2
        let d := put d
        (.ok 0, { d with poison := d.poison.filter (fun u => !(whole u)) })
    match regionOf pa with
    | .hbm => onModule
    | .granary => onModule
    | .host p => if d.hostServes p then (.ok 0, (put d).setHost p (keepLine ((put d).host p) pa)) else d.portWait p
    | .pool p =>
      if d.uioInUse p then (.ok 0, (put d).count 6 p 0x098)
      else if (d.host p).up then (.err, d)
      else d.portWait p
    | _ => (.err, d)

/-- Lanes of `w` bits of two 16-byte values added, with no carry across a lane boundary (R198). -/
def addLanes (w a b : Nat) : Nat := (List.range (128 / w)).foldl (fun n k => n + ((field a (k * w) w + field b (k * w) w) % 2 ^ w) * 2 ^ (k * w)) 0

/-- R198 to R200: an ADD over lanes of `w` bits (`swap` false) or a SWAP of a 16-byte element, performed where its target lies; the
answer is the old value. One whose read finds poison, an uncorrectable error or a LOST stack writes nothing. -/
def atomicAt (d : Device) (swap : Bool) (pa w v : Nat) : Res × Device :=
  let pa := d.ownPa pa
  let made (d : Device) : Res × Device :=
    match d.readPa pa 16 with
    | (.ok old, d) =>
      match d.writePa pa (bytesOf 16 (if swap then v else addLanes w old v)) with
      | (.ok _, d) => (.ok old, d)
      | r => r
    | r => r
  match regionOf pa with
  | .hbm =>
    match made d with
    | (.ok old, d) => (.ok old, d.count 16 (hbmPlace pa).1 0x080)
    | r => r
  | .granary =>
    match made d with
    | (.ok old, d) => (.ok old, d.count 17 0 0x070)
    | r => r
  | .host _ => made d
  | .far =>
    let code := if w = 128 then 0 else if w = 64 then 1 else if w = 32 then 2 else if w = 16 then 3 else 4
    d.farAccess 3 pa 16 (v % 2 ^ 128) (if swap then 2 else 1) (if swap then 0 else code)
  | .hole => (.hole, d)
  | _ => (.err, d)

/-! ## Stores -/

/-- The bytes of a store from its first to its last, with the bits of each that are written. -/
def storeBytes (cells : List SCell) : List (Nat × Nat) :=
  let lo := (cells.map (·.pa)).headD 0
  (List.range ((cells.getLast?.map (·.pa)).getD lo + 1 - lo)).map (fun k =>
    match cells.find? (fun c => c.pa = lo + k) with
    | some c => (c.b, c.m)
    | none => (0, 0))

/-- The far requests of a store that names their job (R19). -/
def ownFar (d : Device) (tag pa : Nat) : Device :=
  { d with ring := { d.ring with far := d.ring.far.map (fun (r : FarReq) =>
      if r.frame.kind ≠ 1 ∧ r.frame.dest = field pa 40 12 ∧ r.frame.addr = pa % 2 ^ 40 then { r with owner := some tag } else r) } }

/-- Cells cut into runs of whole bytes side by side, or one byte written in part. -/
def cutRuns : List SCell → List (List SCell)
  | [] => []
  | c :: cs =>
    match cutRuns cs with
    | (n :: ns) :: rest =>
      if c.m = 255 ∧ n.m = 255 ∧ c.pa + 1 = n.pa ∧ c.pa / 4096 = n.pa / 4096 then (c :: n :: ns) :: rest else [c] :: (n :: ns) :: rest
    | rs => [c] :: rs

/-- A 16-byte value with some of its bytes written over: `lo` is the place of the first. -/
def mergeAt (lo : Nat) (bs : List (Nat × Nat)) (old : Nat) : Nat :=
  bs.zipIdx.foldl (fun v k =>
    let at_ := 8 * (lo + k.2)
    v - field v at_ 8 * 2 ^ at_ + ((field v at_ 8 &&& (255 - k.1.2 % 256)) ||| (k.1.1 &&& k.1.2 % 256)) * 2 ^ at_) old

/-- Whether a 16-byte value holds the bits that a store writes. -/
def holdsBits (lo : Nat) (bs : List (Nat × Nat)) (v : Nat) : Bool := mergeAt lo bs v = v

/-- A store of one 16-byte element of far memory, whose frames name no bytes: one WRITE of the element, with what it held where the store
leaves bits as they were, so that it is never torn (R74, R76). Where the element cannot be read its other bits are unknown. -/
def farElement (d : Device) (tag pa : Nat) (bs : List (Nat × Nat)) : Res × Device :=
  let a := pa / 16 * 16
  if pa = a ∧ bs.length = 16 ∧ bs.all (fun b => b.2 % 256 = 255) then d.writePa pa (bs.map (fun b => BitVec.ofNat 8 b.1))
  else
    let sent (r : FarReq) : Bool := r.frame.kind = 2 && r.frame.dest = field a 40 12 && r.frame.addr = a % 2 ^ 40 && r.owner = some tag &&
      holdsBits (pa - a) bs r.frame.data
    match d.ring.far.find? sent with
    | some r =>
      match r.resp with
      | some (st, _) => (if st = 0 then .ok 0 else if st = 1 then .poison else .lost, { d with ring := { d.ring with far := d.ring.far.erase r } })
      | none => (.wait, d)
    | none =>
      match d.readPa a 16 with
      | (.ok old, d) => d.writePa a (bytesOf 16 (mergeAt (pa - a) bs old))
      | (.poison, d) =>
        let (old, d) := d.takeFree 128
        d.writePa a (bytesOf 16 (mergeAt (pa - a) bs old))
      | r => r

/-- A store to a device window, run of bytes by run of bytes. -/
def deviceRuns (d : Device) : List (List SCell) → Res × Device
  | [] => (.ok 0, d)
  | g :: rest =>
    let pa := (g.map (·.pa)).headD 0
    let made : Res × Device :=
      match g with
      | [c] =>
        if c.m = 255 then d.writePa pa [BitVec.ofNat 8 c.b]
        else
          match d.readPa pa 1 with
          | (.ok old, d) => d.writePa pa [BitVec.ofNat 8 ((old &&& (255 - c.m)) ||| (c.b &&& c.m))]
          | r => r
      | _ => d.writePa pa (g.map (fun k => BitVec.ofNat 8 k.b))
    match made with
    | (.ok _, d) => deviceRuns d rest
    | r => r

/-- One store of a job made in memory: a contribution by an atomic add, else its bytes in one access. Each element's store is an access of its own, and
so is each 16-byte unit of a COPY, also where several lie in one 128-byte block of a side-effect page, which Table 10-5 takes a block at a time
(DESIGN CHOICE, log entry 123). -/
def makeStore (d : Device) (tag : Nat) (st : Store) : Res × Device :=
  match st.cells with
  | [] => (.ok 0, d)
  | c :: _ =>
    let made : Res × Device :=
      if st.add ≠ 0 then d.atomicAt false c.pa st.add (ofBytes (st.cells.map (fun k => BitVec.ofNat 8 k.b)))
      else
        match regionOf (d.ownPa c.pa) with
        | .far => d.farElement tag c.pa (storeBytes st.cells)
        | .device _ => d.deviceRuns (cutRuns st.cells)
        | _ => d.writeMaskedPa c.pa (storeBytes st.cells)
    (made.1, made.2.ownFar tag (if st.add = 0 then c.pa / 16 * 16 else c.pa))

/-- Reserved range of HBM (Table 9-4): from the mirror store's base to the top. -/
def reservedBase (d : Device) : Nat := 0x47F8000000 - (d.fld 3 0 0x040 0 8 + d.fld 3 0 0x040 8 8) * 0x10000000
def inReserved (d : Device) (pa n : Nat) : Bool := pa < hbmSize && pa + n > d.reservedBase

end Device

end Sys2Proof.Machine
end

