-- ==== Sys2Proof/Machine/Xlt.lean ====
section
/-! DEFINITION. Address translation: caches with tree pseudo-LRU, the table walk, permissions and invalidation (chapter 10). -/
namespace Sys2Proof.Machine

/-! ## Tree pseudo-LRU (R140) -/

/-- Every node on a way's path set to point away from it; `depth` is log2 of the number of ways. -/
def treeTouch (w : Nat) : Nat → Nat → Nat → Nat
  | 0, _, tree => tree
  | i + 1, node, tree =>
    let right := w.testBit i
    let cleared := if tree.testBit node then tree - 2 ^ node else tree
    treeTouch w i (2 * node + ofBool right) (if right then cleared else cleared + 2 ^ node)

/-- The way the tree points to. -/
def treeVictim (tree : Nat) : Nat → Nat → Nat → Nat
  | 0, _, w => w
  | i + 1, node, w =>
    let right := tree.testBit node
    treeVictim tree i (2 * node + ofBool right) (2 * w + ofBool right)

/-- Lowest-numbered way that holds an entry the test accepts. -/
def findWay {α : Type} (p : α → Bool) : List (Option α) → Nat → Option (Nat × α)
  | [], _ => none
  | none :: r, k => findWay p r (k + 1)
  | some a :: r, k => if p a then some (k, a) else findWay p r (k + 1)

/-- A hit, with the tree touched (R140). -/
def Ways.hit {α : Type} (depth : Nat) (p : α → Bool) (s : Ways α) : Option (α × Ways α) :=
  match findWay p s.ways 0 with
  | some (k, a) => some (a, { s with tree := treeTouch k depth 1 s.tree })
  | none => none

/-- Way `k` of a list holds `a`, the ways below it filled up as invalid. -/
def putWay {α : Type} (a : α) : Nat → List (Option α) → List (Option α)
  | 0, [] => [some a]
  | 0, _ :: r => some a :: r
  | k + 1, [] => none :: putWay a k []
  | k + 1, x :: r => x :: putWay a k r

/-- A fill: the lowest invalid way, else the way the tree points to (R140). An entry the test accepts is replaced. -/
def Ways.fill {α : Type} (depth : Nat) (p : α → Bool) (a : α) (s : Ways α) : Ways α :=
  let free := (List.range (2 ^ depth)).find? (fun k => ((s.ways[k]?).getD none).isNone)
  let k := match findWay p s.ways 0 with
    | some (k, _) => k
    | none => free.getD (treeVictim s.tree depth 1 0)
  { ways := putWay a k s.ways, tree := treeTouch k depth 1 s.tree }

/-- Entries the test accepts removed. -/
def Ways.drop {α : Type} (p : α → Bool) (s : Ways α) : Ways α :=
  { s with ways := s.ways.map (fun o => match o with
      | some a => if p a then none else some a
      | none => none) }

/-! ## Addresses and permissions -/

/-- Bits below the page number of a leaf at a level (R287). -/
def pageBits (level : Nat) : Nat := 12 + 9 * level

/-- Highest address of a space (Table 10-1). -/
def spaceTop (depth : Nat) : Nat := if depth = 0 then 2 ^ 39 - 1 else if depth = 1 then 2 ^ 48 - 1 else 2 ^ 57 - 1

/-- R293: bits [63:48] all ones name the firmware half. -/
def inFwHalf (va : Nat) : Bool := field va 48 16 = 0xFFFF

/-- Whether a leaf translates an address of a space. -/
def TlbEntry.covers (fw : Bool) (asid va : Nat) (e : TlbEntry) : Bool :=
  e.fw = fw && (fw || e.asid = asid) && e.vpn = va >>> pageBits e.level

/-- Physical address that a leaf gives. -/
def TlbEntry.at (e : TlbEntry) (va : Nat) : Nat := e.pa + va % 2 ^ pageBits e.level

/-- Who makes an access: User, or Supervisor or Monitor (Table 10-4); a borrowing access counts as User (R292). -/
structure Who where
  user : Bool := true
  seRefused : Bool := false
  deriving DecidableEq, Repr

/-- Whether a physical address lies in a host pool window. -/
def isPool (pa : Nat) : Bool :=
  match regionOf pa with
  | .pool _ => true
  | _ => false

/-- R297 steps 3 to 5 on a leaf: the cause that fails first, if any. A large leaf that covers a hole in part gives PA_HOLE at the addresses in the hole
alone (DESIGN CHOICE, log entry 117). -/
def leafCause (e : TlbEntry) (va : Nat) (acc : Access) (who : Who) : Option Nat :=
  let rd : Bool := acc = .read || acc = .program || acc = .atomic
  let wr : Bool := acc = .write || acc = .atomic
  -- a firmware leaf names a reeve physical address, whose holes are decode errors (Table 11-5, R361)
  if ¬ e.fw ∧ regionOf (e.at va) = .hole then some 0x09
  else if who.user ∧ ¬ e.u then some 0x05
  else if ¬ who.user ∧ e.u then some 0x06
  else if rd ∧ ¬ e.r then some 0x02
  else if wr ∧ ¬ e.w then some 0x03
  else if acc = .fetch ∧ ¬ e.x then some 0x04
  else if e.se ∧ (who.seRefused ∨ acc = .atomic ∨ acc = .program) then some 0x20
  else if acc = .atomic ∧ ¬ e.fw ∧ isPool (e.at va) then some 0x0A
  else none

/-- Causes that a fresh walk confirms when a cached leaf gives them (R299). -/
def needsWalk (c : Nat) : Bool := (2 ≤ c && c ≤ 6)

namespace Device

/-- An enabled side-effect window as (base, size) (R286, R307). -/
def sewWindow (d : Device) (n : Nat) : Option (Nat × Nat) :=
  let lo := d.rg 5 0 (0x080 + 8 * n)
  if field lo 0 1 = 1 then
    let size := 2 ^ field lo 1 6
    let base := field lo 12 20 * 2 ^ 12 + field (d.rg 5 0 (0x084 + 8 * n)) 0 24 * 2 ^ 32
    some (base / size * size, size)
  else none

/-- Whether a physical range meets an enabled side-effect window or a device window; one that names the module's own ID is judged where it is
served (R285), and other far memory is never side-effect (Table 10-2). -/
def inSideEffect (d : Device) (pa n : Nat) : Bool :=
  let pa := d.ownPa pa
  if regionOf pa = .far then false
  else
    (List.range 8).any (fun k =>
      match d.sewWindow k with
      | some (b, s) => pa < b + s && b < pa + n
      | none => false) ||
    (pa < 0x70000000000000 && 0x50000000000000 < pa + n)

/-- R286: whether a walk may read at an address. -/
def walkable (d : Device) (pa : Nat) : Bool :=
  let pa := d.ownPa pa
  (match regionOf pa with
   | .hbm => !d.inReserved pa 8
   | .granary => true
   | .host p => d.fld 5 0 0x040 p 1 = 1
   | .pool p => d.fld 5 0 0x040 (2 + p) 1 = 1
   | _ => false) &&
  !(List.range 8).any (fun k =>
    match d.sewWindow k with
    | some (b, s) => pa < b + s && b < pa + 8
    | none => false)

/-- How a walk ends: a leaf, a cause of Table 10-6, a wait for a port, or an origin's memory (R278, R298). -/
inductive WalkRes where
  | leaf (e : TlbEntry) | cause (c : Nat) | wait | lost
  deriving DecidableEq, Repr

/-- R289: whether a valid entry is malformed at a level. -/
def pteBad (e level : Nat) : Bool :=
  let leaf := field e 1 1 = 1
  field e 7 5 ≠ 0 || field e 56 2 ≠ 0 ||
  (!leaf && field e 2 5 ≠ 0) || (!leaf && level = 0) || (leaf && level ≥ 3) ||
  (leaf && level = 1 && field e 12 9 ≠ 0) || (leaf && level = 2 && field e 12 18 ≠ 0)

/-- The walk from a table at a level down (R287 to R290, R297 step 2), with the pointers it read.
`away` marks an adopted channel, whose on-module addresses are its origin's (R278). -/
def walkFrom (fw : Bool) (asid va : Nat) (away : Bool) : Nat → Nat → List PtrEntry → Device → WalkRes × List PtrEntry × Device
  | level, table, ptrs, d =>
    let a := table + field va (12 + 9 * level) 9 * 8
    if away ∧ (regionOf (d.ownPa a) = .hbm ∨ regionOf (d.ownPa a) = .granary) then (.lost, ptrs, d)
    else if ¬ d.walkable a then (.cause 0x10, ptrs, d)
    else
      match d.readFor 5 a 8 with
      | (.wait, d) => (.wait, ptrs, d)
      | (.ok e, d) =>
        let d := d.count 5 0 0x0D8
        if field e 0 1 = 0 then (.cause 0x01, ptrs, d)
        else if pteBad e level then (.cause 0x08, ptrs, d)
        else if field e 1 1 = 1 then
          let size := 2 ^ pageBits level
          let pa := field e 12 44 * 2 ^ 12
          (.leaf { fw := fw, asid := asid, level := level, vpn := va >>> pageBits level, pa := pa,
                   r := field e 2 1 = 1, w := field e 3 1 = 1, x := field e 4 1 = 1, u := field e 5 1 = 1,
                   se := field e 6 1 = 1 || (!fw && d.inSideEffect pa size) }, ptrs, d)
        else
          match level with
          | 0 => (.cause 0x08, ptrs, d)
          | l + 1 =>
            let t := field e 12 44 * 2 ^ 12
            walkFrom fw asid va away l t (ptrs ++ [{ fw := fw, asid := asid, level := l, prefixVa := va >>> (12 + 9 * (l + 1)), table := t }]) d
      | (_, d) => (.cause 0x11, ptrs, d.count 5 0 0x0D8)

/-- Set of the walk cache for a pointer. -/
def wcSet (level prefixVa : Nat) : Nat := Config.walkSet (prefixVa * 8 + level) % 512

/-- Deepest table of a walk that the walk cache holds, as (level, table), with its set touched. -/
def wcFind (d : Device) (fw : Bool) (asid va : Nat) : List Nat → Option (Nat × Nat × Device)
  | [] => none
  | l :: ls =>
    let pre := va >>> (12 + 9 * (l + 1))
    let set := wcSet l pre
    match ((d.xlt.wc.get {} set).hit 3 (fun p => p.fw = fw && (fw || p.asid = asid) && p.level = l && p.prefixVa = pre)) with
    | some (p, w) => some (l, p.table, { d with xlt := { d.xlt with wc := d.xlt.wc.set set w } })
    | none => wcFind d fw asid va ls

/-- Pointers of a completed walk cached. -/
def wcFill (d : Device) (ptrs : List PtrEntry) : Device :=
  ptrs.foldl (fun d p =>
    let set := wcSet p.level p.prefixVa
    let w := (d.xlt.wc.get {} set).fill 3 (fun q => q.fw = p.fw && (q.fw || q.asid = p.asid) && q.level = p.level && q.prefixVa = p.prefixVa) p
    { d with xlt := { d.xlt with wc := d.xlt.wc.set set w } }) d

def tlbSet (level vpn : Nat) : Nat := Config.tlbSet (vpn * 4 + level) % 2048

/-- Shared TLB lookup: one probe per page size (Table 10-7). -/
def tlbFind (d : Device) (fw : Bool) (asid va : Nat) : List Nat → Option (TlbEntry × Device)
  | [] => none
  | l :: ls =>
    let set := tlbSet l (va >>> pageBits l)
    match ((d.xlt.tlb.get {} set).hit 4 (fun e => e.level = l && e.covers fw asid va)) with
    | some (e, w) => some (e, { d with xlt := { d.xlt with tlb := d.xlt.tlb.set set w } })
    | none => tlbFind d fw asid va ls

def tlbFill (d : Device) (e : TlbEntry) : Device :=
  let set := tlbSet e.level e.vpn
  let w := (d.xlt.tlb.get {} set).fill 4 (fun x => x.level = e.level && x.vpn = e.vpn && x.fw = e.fw && (x.fw || x.asid = e.asid)) e
  { d with xlt := { d.xlt with tlb := d.xlt.tlb.set set w } }

/-- Root of the firmware half (R293, R306). -/
def fwRoot (d : Device) : Nat := field (d.rg 5 0 0x050) 12 20 * 2 ^ 12 + field (d.rg 5 0 0x054) 0 24 * 2 ^ 32

/-- The entries of the shared TLB that cover an address removed, but for one (R299). -/
def tlbDrop (d : Device) (fw : Bool) (asid va : Nat) (keep : Option TlbEntry) : Device :=
  [0, 1, 2].foldl (fun d l =>
    let set := tlbSet l (va >>> pageBits l)
    match d.xlt.tlb.find? set with
    | some w => { d with xlt := { d.xlt with tlb := d.xlt.tlb.set set (w.drop (fun e => e.level = l && e.covers fw asid va && keep ≠ some e)) } }
    | none => d) d

/-- Address within its half that a walk goes by. -/
def walkVa (va : Nat) : Nat := if inFwHalf va then va % 2 ^ 48 else va

/-- One walk of an address: its leaf, or the cause above it (R287 to R290, R297 steps 1 and 2). A walk abandoned at a read that is not allowed or fails
caches nothing; one that ends at an entry which is invalid or malformed keeps the pointers above it (R298; DESIGN CHOICE, log entry 118). -/
def walkPath (d : Device) (sp : Space) (va : Nat) (away : Bool) : WalkRes × Device :=
  let fw := inFwHalf va
  let rootLevel := if fw then 3 else sp.depth + 2
  let a := walkVa va
  let (lvl, table, d) := match wcFind d fw sp.asid a (List.range rootLevel) with
    | some (l, t, d) => (l, t, d)
    | none => (rootLevel, if fw then d.fwRoot else sp.root, d)
  let (r, ptrs, d) := walkFrom fw sp.asid a away lvl table [] d
  match r with
  | .wait => (.wait, d)
  | .lost => (.lost, d.count 5 0 0x0D0)
  | .cause c =>
    let d := d.count 5 0 0x0D0
    (.cause c, if c = 0x10 ∨ c = 0x11 then d else d.wcFill ptrs)
  | .leaf e => (.leaf e, (d.count 5 0 0x0D0).wcFill ptrs)

/-- What a walk gives one access: the leaf, cached when it passes every check, or the cause; a cached translation of the address goes, unless the walk
has found it again (R297, R299). -/
def walkAnswer (d : Device) (sp : Space) (va : Nat) (acc : Access) (who : Who) : WalkRes → WalkRes × Device
  | .leaf e =>
    let a := walkVa va
    let d := d.tlbDrop (inFwHalf va) sp.asid a (some e)
    match leafCause e a acc who with
    | some c => (.cause c, d)
    | none => (.leaf e, d.tlbFill e)
  | .cause c => (.cause c, d.tlbDrop (inFwHalf va) sp.asid (walkVa va) none)
  | r => (r, d)

/-- One walk for one access (R297 to R299). -/
def walk (d : Device) (sp : Space) (va : Nat) (acc : Access) (who : Who) (away : Bool) : WalkRes × Device :=
  let (r, d) := d.walkPath sp va away
  d.walkAnswer sp va acc who r

/-- A translation's answer. -/
inductive XRes where
  | pa (a : Nat) (se : Bool) | cause (c : Nat) | wait | lost
  deriving DecidableEq, Repr

/-- R293: an address outside the space; a User access to the firmware half as well. -/
def vaRange (sp : Space) (va : Nat) (who : Who) : Bool :=
  if inFwHalf va then who.user else va > spaceTop sp.depth

/-- An access that ends with a cause of Table 10-6 counted (R554). -/
def countFault (d : Device) : Device := d.count 5 0 0x0E0

/-- A request of the Sower or a reeve to the shared TLB, walked on a miss (R299, R554). `held` marks a page that the requester's piece has translated
already: it is looked up again only where it is no longer cached. -/
def xlate (d : Device) (sp : Space) (va : Nat) (acc : Access) (who : Who) (away : Bool) (held : Bool := false) : XRes × Device :=
  let fail (c : Nat) (d : Device) : XRes × Device := (.cause c, d.countFault)
  if vaRange sp va who then fail 0x07 (d.count 5 0 0x0C0)
  else
    let fw := inFwHalf va
    let a := walkVa va
    let d := if held ∧ (d.tlbFind fw sp.asid a [0, 1, 2]).isSome then d else d.count 5 0 0x0C0
    let run (d : Device) : XRes × Device :=
      match d.walk sp va acc who away with
      | (.wait, d) => (.wait, d)
      | (.lost, d) => (.lost, d)
      | (.cause c, d) => fail c d
      | (.leaf e, d) => (.pa (e.at a) e.se, d)
    match d.tlbFind fw sp.asid a [0, 1, 2] with
    | some (e, d) =>
      match leafCause e a acc who with
      | none => (.pa (e.at a) e.se, d)
      | some c => if needsWalk c then run d else fail c d
    | none => run (d.count 5 0 0x0C8)

/-! ## Invalidation (R302 to R306) -/

/-- Translations an invalidation removes: by firmware tag and ASID, and by the range [lo, lo + n) where n ≠ 0. -/
structure InvSel where
  fw : Bool := false
  anyAsid : Bool := false
  asid : Nat := 0
  lo : Nat := 0
  n : Nat := 0
  deriving DecidableEq, Repr

def InvSel.hitsTlb (s : InvSel) (e : TlbEntry) : Bool :=
  if s.fw then e.fw
  else !e.fw && (s.anyAsid || (e.asid = s.asid &&
    (s.n = 0 || (e.vpn * 2 ^ pageBits e.level < s.lo + s.n && s.lo < (e.vpn + 1) * 2 ^ pageBits e.level))))

/-- Whether an invalidation names an address space. -/
def InvSel.hitsAsid (s : InvSel) (asid : Nat) : Bool := !s.fw && (s.anyAsid || s.asid = asid)

def InvSel.hitsPtr (s : InvSel) (p : PtrEntry) : Bool :=
  let bits := 12 + 9 * (p.level + 1)
  if s.fw then p.fw
  else !p.fw && (s.anyAsid || (p.asid = s.asid &&
    (s.n = 0 || (p.prefixVa * 2 ^ bits < s.lo + s.n && s.lo < (p.prefixVa + 1) * 2 ^ bits))))

/-- A strip back at its checkpoint, with no translation used and nothing staged: it translates again when it goes on (R302). -/
def fromCheckpoint (s : Strip) : Strip :=
  { s with e := s.ckE, base := s.ck, work := s.ck, member := 0, entered := false, loads := [], result := none, temps := [], stores := [], storing := false
           staged := [], marks := [], digest := [], ctx := [], used := [] }

/-- A strip after the translations of an invalidation are removed: a parked one that used one begins again at its checkpoint. -/
def uncached (s : InvSel) (p : Strip) : Strip :=
  if p.parked ∧ p.used.any s.hitsTlb then fromCheckpoint p else { p with ctx := p.ctx.filter (fun c => !(s.hitsTlb c.2)) }

/-- Step 1 of Table 10-9: leaves and pointers removed everywhere. -/
def invalidate (d : Device) (s : InvSel) : Device :=
  { d with
    xlt := { d.xlt with tlb := d.xlt.tlb.map (fun (e : Nat × Ways TlbEntry) => (e.1, e.2.drop s.hitsTlb)), wc := d.xlt.wc.map (fun (e : Nat × Ways PtrEntry) => (e.1, e.2.drop s.hitsPtr)) }
    crofts := d.crofts.map (fun (e : Nat × Croft) => (e.1, { e.2 with utlb := e.2.utlb.drop s.hitsTlb, strips := e.2.strips.map (uncached s) })) }

/-- Every translation cache emptied, and any command ended (R304). -/
def emptyXlt (d : Device) : Device :=
  let cmd := d.xlt.fwInv.2.2 % 2 ^ 31
  let d := { d with xlt := { d.xlt with tlb := [], wc := [], invWait := [], fwWait := [], fwInv := (d.xlt.fwInv.1, d.xlt.fwInv.2.1, cmd) }
                    crofts := d.crofts.map (fun (e : Nat × Croft) => (e.1, { e.2 with
                      utlb := {}, strips := e.2.strips.map (fun (p : Strip) => { p with ctx := [] }) })) }
  d.setFld 5 0 0x04C 31 1 0

end Device

end Sys2Proof.Machine
end

