-- ==== Sys2Proof/Machine/Ledger.lean ====
section
/-! DEFINITION. Channel table entries, ring indices, ledger records, headers and the writes of Table 9-2
(chapters 8 and 9). -/
namespace Sys2Proof.Machine

/-! ## Channel table entry (Table 8-1) -/

/-- A field of an entry: byte offset, lowest bit, width. -/
def ent (e off lo len : Nat) : Nat := field e (8 * off + lo) len

def entLedger (e : Nat) : Nat := ent e 0 1 2
def entJournaled (e : Nat) : Bool := ent e 0 3 1 = 1
def entFailOnFault (e : Nat) : Bool := ent e 0 4 1 = 1
def entHaltOnError (e : Nat) : Bool := ent e 0 5 1 = 1
def entControlOk (e : Nat) : Bool := ent e 0 6 1 = 1
def entGlean (e : Nat) : Nat := ent e 1 0 2
def entWitness (e : Nat) : Nat := ent e 1 2 1
def entStripLog2 (e : Nat) : Nat := ent e 1 3 5
def entFunction (e : Nat) : Nat := ent e 2 0 7
def entPort (e : Nat) : Nat := ent e 2 7 1
def entRingSpace (e : Nat) : Nat := ent e 3 0 2
def entJrLog2 (e : Nat) : Nat := ent e 4 0 5
def entCrLog2 (e : Nat) : Nat := ent e 4 5 5
def entFqLog2 (e : Nat) : Nat := ent e 4 10 5
def entMsixEn (e : Nat) : Bool := ent e 4 15 1 = 1
def entMsixVec (e : Nat) : Nat := ent e 4 16 11
def entJrBase (e : Nat) : Nat := ent e 8 0 64
def entCrBase (e : Nat) : Nat := ent e 0x10 0 64
def entFqBase (e : Nat) : Nat := ent e 0x18 0 64
def entQuota (e : Nat) : Nat := ent e 0x20 0 16
def entWeight (e : Nat) : Nat := ent e 0x20 16 8
def entUnderstudy (e : Nat) : Nat := ent e 0x24 0 12
def entUnderstudyEn (e : Nat) : Bool := ent e 0x24 12 1 = 1
def entFar (e : Nat) : Nat := ent e 0x28 0 64
def entDepth (e : Nat) : Nat := ent e 0x48 16 2
def entModtab (e : Nat) : Nat := ent e 0x50 0 64
def entSpace (e : Nat) : Space := { asid := ent e 0x48 0 16, root := ent e 0x40 0 64, depth := entDepth e }

/-- FAR_LEDGER (Table 9-5). -/
def farRegionLog2 (e : Nat) : Nat := field (entFar e) 0 5
def farRecLog2 (e : Nat) : Nat := field (entFar e) 5 5
def farSpace (e : Nat) : Nat := field (entFar e) 10 2

/-- Base of host memory or of a pool of a port as a module physical address (Table 10-2). -/
def hostBase (port : Nat) : Nat := (1 + port) * 2 ^ 52
def poolBase (port : Nat) : Nat := (3 + port) * 2 ^ 52

/-- Far region base as a module physical address. -/
def farBase (e : Nat) : Nat :=
  (if farSpace e = 1 then poolBase (entPort e) else hostBase (entPort e)) + field (entFar e) 16 48 * 2 ^ 16 % 2 ^ 52

/-- A ring base as a module physical address (RING_SPACE). -/
def ringPa (e base : Nat) : Nat := if entRingSpace e = 0 then hostBase (entPort e) + base % 2 ^ 52 else base

/-- Whether a ledger mode keeps near copies, and whether it keeps a far region. -/
def hasNear (e : Nat) : Bool := entLedger e = 0 || entLedger e = 2
def hasFar (e : Nat) : Bool := entLedger e = 1 || entLedger e = 2

/-- R218, R217, R258: the entry's own fields; the function's enable, the ledger ceiling and the reads are checked at load. -/
def entryOk (e : Nat) : Bool :=
  let far := entFar e
  let ringOk (base log2 size : Nat) : Bool :=
    (if entRingSpace e = 1 then base + size * 2 ^ log2 ≤ hbmSize else true) && base % (max 4096 (size * 2 ^ log2)) = 0
  ent e 0 0 1 = 1 && entLedger e ≠ 3 && ent e 0 7 1 = 0 &&
  entGlean e ≠ 3 && (entStripLog2 e = 0 || (8 ≤ entStripLog2 e && entStripLog2 e ≤ 16)) &&
  entFunction e < 64 && entRingSpace e < 2 && ent e 3 2 6 = 0 &&
  4 ≤ entJrLog2 e && entJrLog2 e ≤ 20 && 4 ≤ entCrLog2 e && entCrLog2 e ≤ 20 && 4 ≤ entFqLog2 e && entFqLog2 e ≤ 16 &&
  ent e 4 27 5 = 0 && ringOk (entJrBase e) (entJrLog2 e) 64 && ringOk (entCrBase e) (entCrLog2 e) 32 &&
  ringOk (entFqBase e) (entFqLog2 e) 32 && entWeight e ≥ 1 && ent e 0x20 24 8 = 0 && ent e 0x24 13 19 = 0 &&
  ent e 0x30 0 128 = 0 && ent e 0x40 0 12 = 0 && entDepth e ≠ 3 && ent e 0x48 18 46 = 0 &&
  entModtab e % 64 = 0 && ent e 0x58 0 4 = 0 && 1 ≤ ent e 0x60 0 7 && ent e 0x60 0 7 ≤ 64 && ent e 0x60 7 25 = 0 &&
  ent e 0x64 0 224 = 0 &&
  (if hasFar e then
     20 ≤ farRegionLog2 e && farRegionLog2 e ≤ 40 && 4 ≤ farRecLog2 e && farRecLog2 e ≤ 20 && farSpace e < 2 &&
     field far 12 4 = 0 && 4096 + 2 ^ farRecLog2 e * 128 ≤ 2 ^ farRegionLog2 e
   else far = 0)

/-- R178: whether a ledger ceiling permits a channel's ledger mode. -/
def ledgerPermits (ceiling mode : Nat) : Bool := ceiling = 2 || ceiling = mode

/-! ## Ring indices (Table 8-2) -/

/-- Position of an index on a ring of size `n`, counting both phases. -/
def ixPos (n i : Nat) : Nat := field i 31 1 * n + field i 0 20

/-- The index at a position. -/
def ixOf (n p : Nat) : Nat := p % n + p / n % 2 * 2 ^ 31

/-- dist(a, b) of R222. -/
def ixDist (n a b : Nat) : Nat := (ixPos n b + 2 * n - ixPos n a) % (2 * n)

/-- R260: an index advanced by `k`. -/
def ixAdvance (n i k : Nat) : Nat := ixOf n ((ixPos n i + k) % (2 * n))

/-- Whether an index lies on a ring of size `n`: slot below it, reserved bits zero. -/
def ixOk (n i : Nat) : Bool := field i 0 20 < n && field i 20 11 = 0

/-! ## CRC-32C (R253) -/

/-- One bit of the reflected CRC register. -/
def crcBit : Nat → Nat → Nat
  | 0, c => c
  | n + 1, c => crcBit n (if c % 2 = 1 then (c / 2) ^^^ 0x82F63B78 else c / 2)

/-- CRC-32C of bytes: polynomial 0x1EDC6F41 in reflected form, initial value all ones, final complement. -/
def crc32c (bs : List Byte) : Nat := bs.foldl (fun c b => crcBit 8 (c ^^^ b.toNat)) 0xFFFFFFFF ^^^ 0xFFFFFFFF

/-! ## Ledger record (Table 9-3) -/

/-- A ledger record's fields. -/
structure Rec where
  state : Nat := 0
  jstate : Nat := 0
  started : Bool := false
  side : Bool := false
  replayed : Bool := false
  adopted : Bool := false
  chan : Nat := 0
  tag : Nat := 0
  seq : Nat := 0
  jidx : Nat := 0
  cidx : Nat := 0
  acceptBell : Nat := 0
  status : Nat := 0
  flags : Nat := 0
  detail : Nat := 0
  bellFree : Bool := false
  instr : Nat := 0
  jchain : Nat := 0
  element : Nat := 0
  finishBell : Nat := 0
  joff : Nat := 0
  desc : Nat := 0
  deriving DecidableEq, Repr

/-- The record as a 1,024-bit number, CHECK zero. -/
def Rec.toNat (r : Rec) : Nat :=
  let w0 := r.state % 4 + r.jstate % 4 * 2 ^ 2 + ofBool r.started * 2 ^ 4 + ofBool r.side * 2 ^ 5 +
    ofBool r.replayed * 2 ^ 6 + ofBool r.adopted * 2 ^ 7 + r.chan % 2 ^ 12 * 2 ^ 16 + r.tag % 2 ^ 18 * 2 ^ 32
  let w4 := r.status % 256 + r.flags % 256 * 2 ^ 8 + r.detail % 256 * 2 ^ 16 + ofBool r.bellFree * 2 ^ 24 +
    r.instr % 2 ^ 16 * 2 ^ 32 + r.jchain % 2 ^ 16 * 2 ^ 48
  w0 + r.seq % 2 ^ 64 * 2 ^ 64 + r.jidx % 2 ^ 32 * 2 ^ 128 + r.cidx % 2 ^ 32 * 2 ^ 160 + r.acceptBell % 2 ^ 64 * 2 ^ 192 +
  w4 * 2 ^ 256 + r.element % 2 ^ 40 * 2 ^ 320 + r.finishBell % 2 ^ 64 * 2 ^ 384 + r.joff % 2 ^ 32 * 2 ^ 448 +
  r.desc % 2 ^ 512 * 2 ^ 512

/-- CHECK of a record: bytes 0x00 to 0x3B, then 0x40 to 0x7F. -/
def recCheck (v : Nat) : Nat := crc32c (bytesOf 60 v ++ bytesOf 64 (v / 2 ^ 512))

/-- The 128 bytes of a record. -/
def Rec.bytes (r : Rec) : List Byte := bytesOf 128 (r.toNat + recCheck r.toNat * 2 ^ 480)

/-- Whether the 128 bytes read as `v` are a valid copy (R252). -/
def recValid (v : Nat) : Bool := field v 480 32 = recCheck v

/-- The fields of a record read as a number. -/
def Rec.ofNat (v : Nat) : Rec :=
  let f (off lo len : Nat) := field v (8 * off + lo) len
  { state := f 0 0 2, jstate := f 0 2 2, started := f 0 4 1 = 1, side := f 0 5 1 = 1, replayed := f 0 6 1 = 1
    adopted := f 0 7 1 = 1, chan := f 2 0 12, tag := f 4 0 18, seq := f 8 0 64, jidx := f 0x10 0 32, cidx := f 0x14 0 32
    acceptBell := f 0x18 0 64, status := f 0x20 0 8, flags := f 0x21 0 8, detail := f 0x22 0 8, bellFree := f 0x23 0 1 = 1
    instr := f 0x24 0 16, jchain := f 0x26 0 16, element := f 0x28 0 40, finishBell := f 0x30 0 64, joff := f 0x38 0 32
    desc := f 0x40 0 512 }

/-- How far along Table 9-2 a record is (R252): retired, finished, then the journal steps by chain, side, started, open. -/
def Rec.rank (r : Rec) : Nat :=
  match r.state with
  | 3 => 2 ^ 24
  | 2 => 2 ^ 23
  | 1 => if r.jstate ≠ 0 then 16 + r.jchain * 4 + r.jstate else if r.side then 2 else if r.started then 1 else 0
  | _ => 2 ^ 25

/-! ## Header (Table 9-6), kept as a 512-bit number -/

def hdrOwner (h : Nat) : Nat := field h 0 12
def hdrOwned (h : Nat) : Bool := field h 12 1 = 1
def hdrLeaseFree (h : Nat) : Bool := field h 13 1 = 1
def hdrHandoff (h : Nat) : Bool := field h 14 1 = 1
def hdrPaused (h : Nat) : Bool := field h 15 1 = 1
def hdrEpoch (h : Nat) : Nat := field h 64 32
def hdrLease (h : Nat) : Nat := field h 128 40
def hdrSeq0 (h : Nat) : Nat := field h 192 64
def hdrJidx0 (h : Nat) : Nat := field h 256 32
def hdrCidx0 (h : Nat) : Nat := field h 288 32
def hdrRseq (h : Nat) : Nat := field h 320 64
def hdrFqTail (h : Nat) : Nat := field h 384 32

/-- The bits of a header that Table 9-6 gives a meaning, CHECK apart; the others are written zero (R9). -/
def hdrMask : Nat :=
  (2 ^ 16 - 1) + (2 ^ 12 - 1) * 2 ^ 32 + (2 ^ 32 - 1) * 2 ^ 64 + (2 ^ 40 - 1) * 2 ^ 128 + (2 ^ 224 - 1) * 2 ^ 192

/-- A header with a fresh CHECK over bytes 0x00 to 0x3B. -/
def hdrSeal (h : Nat) : Nat :=
  let h := h &&& hdrMask
  putField h 480 32 (crc32c (bytesOf 60 h))

/-- Whether a header copy is valid; a header of zeros starts a channel from nothing (R556). -/
def hdrValid (h : Nat) : Bool := h = 0 || field h 480 32 = crc32c (bytesOf 60 h)

/-! ## Places (R255, R259) -/

def nearRecPa (tag copy : Nat) : Nat := 0x47F8000000 + tag / 512 * 0x20000 + copy * 0x10000 + tag % 512 * 128
def dirPa (ch copy : Nat) : Nat := 0x47FC000000 + ch / 1024 * 0x20000 + copy * 0x10000 + ch % 1024 * 64
def farSlotPa (e seq : Nat) : Nat := farBase e + 0x1000 + seq % 2 ^ farRecLog2 e * 128

/-- Ledger duty of a job's record fields. -/
def jphaseCode : JPhase → Nat
  | .none => 0
  | .staging => 1
  | .staged => 2
  | .committed => 3

namespace Device

/-! ## Channels and jobs -/

def chan (d : Device) (n : Nat) : Channel := d.chans.get {} n
def setChan (d : Device) (n : Nat) (c : Channel) : Device := { d with chans := d.chans.set n c }
def upChan (d : Device) (n : Nat) (f : Channel → Channel) : Device := d.setChan n (f (d.chan n))
def job? (d : Device) (t : Nat) : Option Job := d.jobs.find? t
def setJob (d : Device) (t : Nat) (j : Job) : Device := { d with jobs := d.jobs.set t j }
def upJob (d : Device) (t : Nat) (f : Job → Job) : Device :=
  match d.job? t with
  | some j => d.setJob t (f j)
  | none => d

/-- Jobs of a channel, as (tag, job). -/
def jobsOf (d : Device) (ch : Nat) : List (Nat × Job) := d.jobs.filter (fun e => e.2.ch = ch)

/-- Jobs of a channel accepted before a sequence number. -/
def earlier (d : Device) (ch seq : Nat) : List (Nat × Job) := d.jobs.filter (fun e => e.2.ch = ch ∧ e.2.seq < seq)

/-- The entry in force of a channel; zero where none is cached. -/
def entry (d : Device) (ch : Nat) : Nat := (d.chan ch).entry.getD 0

/-- Doorbell page kind of a channel is not a page of BAR0; its counters live in Channel. -/
def entryPa (d : Device) (ch : Nat) : Nat :=
  let base := field (d.rg 4 0 0x040) 12 20 * 2 ^ 12 + d.rg 4 0 0x044 * 2 ^ 32
  let sp := d.fld 4 0 0x048 0 2
  (if sp = 1 then base else if sp = 2 then hostBase 1 + base % 2 ^ 52 else hostBase 0 + base % 2 ^ 52) + ch * 128

/-- R278: whether an address denotes memory of the origin that an adopted channel has left: any on this module, and far memory of the origin. -/
def awayLost (d : Device) (ch pa : Nat) : Bool :=
  match (d.chan ch).origin with
  | some o =>
    let r := regionOf pa
    r = .hbm || r = .granary || (r = .far && field pa 40 12 = o)
  | none => false

/-- A channel message on its vector (R238). -/
def chanMessage (d : Device) (ch : Nat) : Device :=
  let e := d.entry ch
  if entMsixEn e then d.oweMsg (entPort e) (entFunction e) (entMsixVec e) else d

/-! ## Writes to the ledger -/

/-- Bytes written to both near copies; a copy in a LOST stack is passed over (R256). -/
def writeNear (d : Device) (pa : Nat → Nat) (bs : List Byte) : Device :=
  let (_, d) := d.writeFor 3 (pa 0) bs
  (d.writeHigh (pa 1) bs).2

/-- Whether a far region can take a write now. -/
def farServes (d : Device) (e : Nat) : Bool :=
  if farSpace e = 1 then d.uioInUse (entPort e) else d.hostServes (entPort e)

/-- Whether every place a channel's ledger uses can take a write now. -/
def placesServe (d : Device) (e : Nat) : Bool := !hasFar e || d.farServes e

/-- A mirror frame (R423): offset in the mirrored region, and the bytes; it counts as outstanding until it is acknowledged. -/
def sendMirror (d : Device) (ch off : Nat) (bs : List Byte) : Device :=
  (d.upChan ch (fun c => { c with mirrorOut := c.mirrorOut ++ [off] })).sendFrame { kind := 7, dest := entUnderstudy (d.entry ch), src := 0, channel := ch, addr := off, units := ceilDiv bs.length 16 - 1, data := ofBytes bs }

/-- A record written at a channel's places, and to the mirror store while mirrored (R250, R273). -/
def writeRec (d : Device) (ch : Nat) (r : Rec) : Device :=
  let e := d.entry ch
  let d := if hasNear e then d.writeNear (nearRecPa r.tag) r.bytes else d
  let far := if r.state = 0 then { r with state := 3 } else r
  let d := if hasFar e then (d.writeHigh (farSlotPa e r.seq) far.bytes).2 else d
  if (d.chan ch).mirror = .mirrored ∨ (d.chan ch).resync then d.sendMirror ch (0x1000 + r.seq % 2 ^ farRecLog2 e * 128) far.bytes else d

/-- The channel's header replaced and written at its places (R257, R260). The directory copy bears no lease and no hand-off. -/
def writeHdr (d : Device) (ch h : Nat) : Device :=
  let e := d.entry ch
  let d := d.upChan ch (fun c => { c with hdr := hdrSeal h })
  let dir := hdrSeal (putField (putField (putField h 128 40 0) 13 2 0) 0 12 d.moduleId)
  let d := if hasNear e then d.writeNear (dirPa ch) (bytesOf 64 dir) else d
  let d := if hasFar e then (d.writeHigh (farBase e) (bytesOf 64 (hdrSeal h))).2 else d
  if (d.chan ch).mirror = .mirrored then
    (d.sendMirror ch 0 (bytesOf 64 (hdrSeal h))).upChan ch (fun c => { c with hdrSent := true })
  else if (d.chan ch).resync then d.sendMirror ch 0 (bytesOf 64 (hdrSeal h))
  else d

/-- How a job has ended as its record shows it: its finish, or, of a CONTROL job whose stores are staged, what its EXIT leaves (log entry
93). -/
def endOf (j : Job) : Option Fail :=
  if j.finishDurable then some { status := j.status, detail := j.detail, instr := j.instr, element := j.element }
  else if j.jphase = .staged then j.exitWith.map (fun f => f.getD { status := 0 })
  else none

/-- The record of a job as its durable state gives it. At STAGING its FLAGS are 0, as Table 9-3 has them, so that a job that runs again from that
chain (R269) reports no flag of the chains before it, which R75 would keep (DESIGN CHOICE, log entry 122). -/
def recOf (tag : Nat) (j : Job) : Rec :=
  let fin := j.finishDurable
  let f : Fail := (endOf j).getD { status := 0, instr := 0 }
  { state := if fin then 2 else 1, jstate := jphaseCode j.jphase, started := j.startedDurable, side := j.side
    replayed := j.replayed, adopted := j.adopted, chan := j.ch, tag := tag, seq := j.seq, jidx := j.jidx, cidx := j.cidx
    acceptBell := j.acceptBell, status := f.status
    flags := if fin ∨ j.jphase = .staged ∨ j.jphase = .committed then j.flags else 0
    detail := f.detail, bellFree := fin && j.finishFree, instr := f.instr
    jchain := j.jchain, element := f.element, finishBell := if fin then j.finishBell else 0
    joff := j.joff, desc := j.desc }

/-- A ledger write queued for a job's channel, in the order of Table 9-2. -/
def oweLedger (d : Device) (tag step : Nat) (chain : Nat := 0) (joff : Nat := 0) : Device :=
  match d.job? tag with
  | some j => d.upChan j.ch (fun c => { c with ledgerQ := c.ledgerQ ++ [{ tag := tag, step := step, chain := chain, joff := joff }] })
  | none => d

/-- The job as a durable write of a step of Table 9-2 leaves it. -/
def stepJob (w : LedgerWrite) (j : Job) : Job :=
  match w.step with
  | 2 => { j with startedDurable := true }
  | 3 => { j with side := true }
  | 4 => { j with jphase := .staging, jchain := w.chain, joff := w.joff }
  | 5 => { j with jphase := .staged, jchain := w.chain }
  | 6 => { j with jphase := .committed, jchain := w.chain }
  | 7 => { j with finishDurable := true }
  | _ => j

/-- Error-log entry and event of a channel that enters BROKEN (R560); KIND 0x0C names the channel and the reason. -/
def breakChan (d : Device) (ch reason : Nat) : Device :=
  let d := d.upChan ch (fun c => { c with st := .broken, cmdBusy := false, recovering := false })
  (d.logErr 4 0 ch 0x0C reason 0).event 1 0 10

end Device

end Sys2Proof.Machine
end

