-- ==== Sys2Proof/Machine/Mailbox.lean ====
section
/-! DEFINITION. Mailboxes (R375 to R381) and the reeves that serve them. -/
namespace Sys2Proof.Machine

/-- INITIATOR code of CMX_DEC_INFO. -/
def initiatorCode : Initiator → Nat
  | .reeve n => n
  | .hkd => 0x08
  | .host p _ => 0x10 + p
  | .tally => 0x20

/-- A physical reeve at delivery (R308): reeves 0 to 3 serve logical reeves 0 to 3, reeve 4 is the seed. -/
def reeveAtDelivery (n : Nat) : Reeve := if n < 4 then { logical := some n } else { st := 1 }

namespace Device

def reeve (d : Device) (n : Nat) : Reeve := d.reeves.get (reeveAtDelivery n) n
def setReeve (d : Device) (n : Nat) (r : Reeve) : Device := { d with reeves := d.reeves.set n r }
def upReeve (d : Device) (n : Nat) (f : Reeve → Reeve) : Device := d.setReeve n (f (d.reeve n))

/-- The physical reeve in service as a logical reeve; none while that logical reeve is down (R380). -/
def servedBy (d : Device) (l : Nat) : Option Nat :=
  (List.range 5).find? (fun n => (d.reeve n).st = 0 && (d.reeve n).logical = some l)

def box (d : Device) (n : Nat) : Mailbox := d.boxes.get {} n
def setBox (d : Device) (n : Nat) (b : Mailbox) : Device := { d with boxes := d.boxes.set n b }

/-- Page kind of a side of a mailbox. -/
def boxKind (hostSide : Bool) : Nat := if hostSide then 13 else kMbxReeve

/-- R376: the sender's holding register written. -/
def mbxHold (d : Device) (n code v : Nat) : Device :=
  let b := d.box n
  d.setBox n { b with hold := b.hold.set code (v % 2 ^ 32) }

/-- R376, R378, R380: a push by a sender. -/
def mbxPush (d : Device) (n : Nat) (hostSide : Bool) (code hi : Nat) : Device :=
  let b := d.box n
  let word := b.hold.get 0 code + hi % 2 ^ 32 * 2 ^ 32
  let b := { b with hold := b.hold.set code 0 }
  if hostSide ∧ (d.servedBy n).isNone then (d.setBox n b).event 13 n 2
  else
    let (q, seq) := if hostSide then (b.toReeve, b.seqReeve) else (b.toHost, b.seqHost)
    let full : Bool := q.length ≥ 8
    let q' := if full then q else q ++ [(word, seq, code)]
    let next := (seq + 1) % 2 ^ 16
    let d := d.setBox n (if hostSide then { b with toReeve := q', seqReeve := next } else { b with toHost := q', seqHost := next })
    if full then d.event (boxKind hostSide) n 1
    else if q = [] then d.event (boxKind (!hostSide)) n 0
    else d

/-- R377: a consuming read by a side: the low half of the head word, its high half and stamp latched. -/
def mbxPop (d : Device) (n : Nat) (hostSide : Bool) : Nat × Device :=
  let b := d.box n
  match (if hostSide then b.toHost else b.toReeve) with
  | (word, seq, code) :: rest =>
    let l := (word / 2 ^ 32, seq + code * 2 ^ 16 + 2 ^ 31)
    (word % 2 ^ 32, d.setBox n (if hostSide then { b with toHost := rest, lastHost := l, crossed := false }
      else { b with toReeve := rest, lastReeve := l, crossed := false }))
  | [] =>
    -- the latches load zero and VALID = 0; the queues stay as they are
    (0, d.setBox n (if hostSide then { b with lastHost := (0, 0) } else { b with lastReeve := (0, 0) }))

/-- The head word of a side's queue as a debug peek shows it: low half, high half, stamp (R377). -/
def mbxPeek (d : Device) (n : Nat) (hostSide : Bool) : Nat × Nat × Nat :=
  match (if hostSide then (d.box n).toHost else (d.box n).toReeve) with
  | (word, seq, code) :: _ => (word % 2 ^ 32, word / 2 ^ 32, seq + code * 2 ^ 16 + 2 ^ 31)
  | [] => (0, 0, 0)

/-- MBX_STATUS of a side. -/
def mbxStatus (d : Device) (n : Nat) (hostSide : Bool) : Nat :=
  let b := d.box n
  let (tx, rx) := if hostSide then (b.toReeve.length, b.toHost.length) else (b.toHost.length, b.toReeve.length)
  tx + ofBool (tx ≥ 8) * 2 ^ 4 + rx * 2 ^ 8 + ofBool (rx ≥ 8) * 2 ^ 12 + ofBool (hostSide && (d.servedBy n).isNone) * 2 ^ 16

/-- MBX_CROSSED: both queues full for 64 µs without a pop (R381). -/
def mbxCross (d : Device) (n : Nat) : Device :=
  let b := d.box n
  if b.toReeve.length ≥ 8 ∧ b.toHost.length ≥ 8 ∧ ¬ b.crossed then
    ((d.setBox n { b with crossed := true }).event 13 n 3).event kMbxReeve n 3
  else d

end Device

end Sys2Proof.Machine
end

