-- ==== Sys2Proof/Machine/Trace.lean ====
section
/-! DEFINITION. Trace capture: the ticket as a number and the records of the trace memory (R525, Table 21-6). -/
namespace Sys2Proof.Machine

/-- The ticket of Table 6-1 as a 256-bit number. -/
def Ticket.toNat (t : Ticket) : Nat :=
  t.job % 2 ^ 18 + t.channel % 2 ^ 12 * 2 ^ 18 + t.instr % 2 ^ 16 * 2 ^ 32 + (t.members - 1) % 8 * 2 ^ 48 +
  ofBool t.ordered * 2 ^ 51 + ofBool t.held * 2 ^ 52 + ofBool t.paired * 2 ^ 53 + ofBool t.copyB * 2 ^ 54 + t.home % 2 * 2 ^ 55 +
  t.glean % 4 * 2 ^ 56 + ofBool t.redealt * 2 ^ 58 + t.first % 2 ^ 40 * 2 ^ 64 + t.count % 2 ^ 17 * 2 ^ 128 +
  t.dealt % 2 ^ 64 * 2 ^ 192

/-- Bytes 0x00 to 0x13 of a ticket, as a trace record holds them (Table 21-6). -/
def Ticket.body (t : Ticket) : Nat := t.toNat % 2 ^ 160

namespace Device

/-- R525: a trace record of a kind, its channel if it has one, its unit and the first 20 bytes. -/
def capture (d : Device) (kind : Nat) (ch : Option Nat) (unit body : Nat) : Device :=
  let cfg := d.rg 14 0 0x080
  let wanted : Bool := cfg.testBit (kind - 1) && (!cfg.testBit 6 || (match ch with
    | some c => c = field cfg 8 12
    | none => true))
  if wanted then
    let r := d.rg 14 0 0x084
    let v := body % 2 ^ 160 + kind * 2 ^ 160 + unit % 512 * 2 ^ 168 + d.bellNow * 2 ^ 192
    { d with trace := d.trace.set (r % 2048) (v + r * 2 ^ 256) }.setRg 14 0 0x084 ((r + 1) % 2 ^ 32)
  else d

/-- A ticket dealt (kind 1). -/
def captureTicket (d : Device) (kind unit : Nat) (t : Ticket) : Device :=
  d.capture kind (some t.channel) unit t.body

/-- A ticket gleaned from a victim croft (kind 3). -/
def captureGlean (d : Device) (n victim : Nat) (t : Ticket) : Device :=
  d.capture 3 (some t.channel) n (putField t.body 144 9 victim)

/-- A job accepted (`status` 0xFF) or completed (kind 4). -/
def captureJob (d : Device) (ch seq status : Nat) : Device :=
  d.capture 4 (some ch) 0x1FF (seq % 2 ^ 64 + ch % 2 ^ 12 * 2 ^ 64 + status % 2 ^ 8 * 2 ^ 80)

end Device

end Sys2Proof.Machine
end

