-- ==== Sys2Proof/Machine/Channels.lean ====
section
/-! DEFINITION. Channels and jobs: doorbells, fetch, validation, acceptance, completion, commands, shadow updates and the
fault queue (chapter 8), with the ledger steps they need (Table 9-2). -/
namespace Sys2Proof.Machine

/-! ## Status codes (Table 8-8) -/

def stDone : Nat := 0x00
def stRejectFormat : Nat := 0x10
def stRejectBound : Nat := 0x11
def stRejectRange : Nat := 0x12
def stRejectPriv : Nat := 0x13
def stRejectReplay : Nat := 0x14
def stFaultXlt : Nat := 0x20
def stFaultWalk : Nat := 0x21
def stFaultSideEffect : Nat := 0x22
def stMemoryLost : Nat := 0x30
def stPoison : Nat := 0x31
def stAborted : Nat := 0x40
def stDeadline : Nat := 0x41
def stCheckFail : Nat := 0x50
def stFenceViolation : Nat := 0x60

/-- A failure that a translation fault fixed (R71). -/
def Fail.ofXlt (f : Fail) : Bool := f.status = stFaultXlt || f.status = stFaultWalk || f.status = stFaultSideEffect

/-! ## Descriptor (Tables 8-3 and 8-4) -/

def dsKind (v : Nat) : Nat := field v 0 4
def dsPipeline (v : Nat) : Bool := field v 4 1 = 1
def dsNotify (v : Nat) : Bool := field v 5 1 = 1
def dsUnsafe (v : Nat) : Bool := field v 6 1 = 1
def dsTag (v : Nat) : Nat := field v 16 16
def dsNotBefore (v : Nat) : Nat := field v 64 40
def dsDeadline (v : Nat) : Nat := field v 128 40
def dsProgram (v : Nat) : Nat := field v 256 64
def dsCount (v : Nat) : Nat := field v 320 16
def dsArg (v : Nat) : Nat := field v 320 64
def dsDst (v : Nat) : Nat := field v 384 64
def dsBytes (v : Nat) : Nat := field v 448 40
def dsFill (v : Nat) : Bool := field v 488 1 = 1
def dsPattern (v : Nat) : Nat := field v 256 128

/-- R229 checks 1 and 2: the reserved fields of every kind, alignments, strokes and overlap. -/
def descCheck1 (v : Nat) : Bool :=
  dsKind v ≤ 4 && field v 7 9 = 0 && field v 32 32 = 0 && field v 104 24 = 0 && field v 168 24 = 0 && field v 192 64 = 0 &&
  (match dsKind v with
   | 0 => field v 336 176 = 0
   | 1 => field v 384 128 = 0
   | 2 => field v 489 23 = 0
   | _ => field v 256 256 = 0)

def descCheck2 (v : Nat) : Bool :=
  (dsNotBefore v = 0 || dsDeadline v = 0 || dsNotBefore v < dsDeadline v) &&
  (match dsKind v with
   | 0 => dsProgram v % 128 = 0
   | 1 => dsProgram v % 2 = 0
   | 2 => dsDst v % 16 = 0 && dsBytes v % 16 = 0 &&
     (dsFill v || (dsProgram v % 16 = 0 && dsArg v = 0 &&
       (dsProgram v = dsDst v || dsProgram v + dsBytes v ≤ dsDst v || dsDst v + dsBytes v ≤ dsProgram v)))
   | _ => true)

/-- R229 check 4: a range of `n` bytes ends within the space (log entry 25 for a range of no bytes). -/
def rangeIn (top base n : Nat) : Bool := base + n ≤ top + 1

def descCheck4 (top v : Nat) : Bool :=
  match dsKind v with
  | 0 => rangeIn top (dsProgram v) (dsCount v * 128)
  | 2 => (dsFill v || rangeIn top (dsProgram v) (dsBytes v)) && rangeIn top (dsDst v) (dsBytes v)
  | _ => true

/-- R229 checks 1 to 6 in order: the status and check number of the first failure. -/
def descVerdict (e stroke v : Nat) : Option Fail :=
  let no (st n : Nat) : Option Fail := some { status := st, detail := n }
  if ¬ descCheck1 v then no stRejectFormat 1
  else if ¬ descCheck2 v then no stRejectFormat 2
  else if dsKind v = 1 ∧ ¬ entControlOk e then no stRejectPriv 3
  else if ¬ descCheck4 (spaceTop (entDepth e)) v then no stRejectRange 4
  else if dsUnsafe v ∧ ¬ entJournaled e then no stRejectReplay 5
  else if dsDeadline v ≠ 0 ∧ dsDeadline v ≤ stroke then no stDeadline 6
  else none

/-! ## Job predicates -/

/-- The job counts as FINISHED under R233: its step 7 is durable. -/
def Job.counts (j : Job) : Bool := j.st = .complete || (j.st = .finished && j.finishDurable)

/-- Results of the job are globally visible or it is over (R233). -/
def Job.over (j : Job) : Bool := j.st = .finished || j.st = .complete

/-- Channel states in which running jobs go on. -/
def ChState.live (s : ChState) : Bool := s = .run || s = .paused || s = .draining

namespace Device

/-! ## Access to the doorbell page -/

def ready (d : Device) : Bool := d.fld 1 0 0x00C 0 1 = 1
def pwrState (d : Device) : Nat := d.fld 9 0 0x00C 0 3

/-- In stand-down or SAFE no job is accepted or started (R461). -/
def stoodDown (d : Device) : Bool := d.pwrState = 4 || d.pwrState = 5

/-- A decode error of BAR0 or BAR2 (R476). -/
def decodeErr (d : Device) (p fn bar off : Nat) (write : Bool) : Device :=
  let d := d.setRg 1 0 0x088 (0x10 + p + ofBool write * 2 ^ 8 + bar * 2 ^ 9 + fn % 64 * 2 ^ 10 + 2 ^ 31)
  let d := d.setRg 1 0 0x08C (off % 2 ^ 26)
  (d.count32 1 0 0x090).event 1 0 5

/-- Owner (port, function) of a channel (R215). An entry that is not cached and cannot be read at once gives none: the access is then a decode error, and does
not wait (DESIGN CHOICE, log entry 112). -/
def chanOwner (d : Device) (ch : Nat) : Option (Nat × Nat) :=
  match (d.chan ch).entry with
  | some e => some (entPort e, entFunction e)
  | none =>
    match d.readPa (d.entryPa ch) 128 with
    | (.ok e, _) => if ent e 0 0 1 = 1 then some (entPort e, entFunction e) else none
    | _ => none

/-- The channel table read for what a channel's entry holds now: the cached one, else memory's. -/
def entryNow (d : Device) (ch : Nat) : Option Nat :=
  match (d.chan ch).entry with
  | some e => some e
  | none =>
    match (d.readPa (d.entryPa ch) 128).1 with
    | .ok e => some e
    | _ => (d.chan ch).leaseFor

/-- A cached entry used: it is the last that is replaced (R219). -/
def useEntry (d : Device) (ch : Nat) : Device :=
  if (d.chan ch).entry.isNone then d
  else d.upChan ch (fun c => { c with stamp := d.chans.foldl (fun m x => max m x.2.stamp) 0 + 1 })

/-- The owner of a channel looked up: its entry is used where it is cached (R219), and read from memory where it is not (R26). -/
def lookOwner (d : Device) (ch : Nat) : Device :=
  if (d.chan ch).entry.isNone then d.noteDown 4 (d.entryPa ch) else d.useEntry ch

/-- A write to a channel's doorbell page by a function of a port (R215, R435). -/
def doorbellBy (d : Device) (p fn ch off : Nat) (write : Bool) (k : Device → Device) : Device :=
  if ¬ d.ready then d
  else if d.chanOwner ch = some (p, fn) then k (d.lookOwner ch)
  else (d.lookOwner ch).decodeErr p fn 1 (ch * 0x1000 + off) write

/-- A refused doorbell or index write counted (R223, R238, R243). -/
def refuseIndex (d : Device) (ch : Nat) (all : Bool) : Device :=
  let d := d.upChan ch (fun c => { c with refused := (c.refused + 1) % 2 ^ 32 })
  if all then d.count 4 0 0x078 else d

/-- Whether a channel's state refuses every index write (R223). -/
def shutState (s : ChState) : Bool := s = .off || s = .enabling || s = .broken

/-- An index write that waits: for the channel's entry (R219), or behind one that does. -/
def mustHold (c : Channel) (off : Nat) : Bool := c.entry.isNone || c.waits.any (fun w => w.1 = off)

/-- An index write put behind those that wait. -/
def holdWrite (d : Device) (ch off v : Nat) : Device := d.upChan ch (fun c => { c with waits := c.waits ++ [(off, v)] })

/-- R223: a new tail taken or refused against the entry in force. -/
def takeTail (d : Device) (ch v : Nat) : Device :=
  let c := d.chan ch
  let n := 2 ^ entJrLog2 (d.entry ch)
  if ixOk n v ∧ ixDist n c.accept v ≤ n ∧ ixDist n c.accept v ≥ ixDist n c.accept c.tail then d.setChan ch { c with tail := v }
  else d.refuseIndex ch true

/-- R238: consumption of completion records taken or refused against the entry in force. -/
def takeCrHead (d : Device) (ch v : Nat) : Device :=
  let c := d.chan ch
  let n := 2 ^ entCrLog2 (d.entry ch)
  if ixOk n v ∧ ixDist n c.crHead v ≤ ixDist n c.crHead c.done then d.setChan ch { c with crHead := v }
  else d.refuseIndex ch false

/-- R223: a doorbell; it waits for the entry of a channel that is not cached (R219). -/
def doorbell (d : Device) (ch v : Nat) : Device :=
  if shutState (d.chan ch).st then d.refuseIndex ch true
  else if mustHold (d.chan ch) 0x000 then d.holdWrite ch 0x000 v
  else d.takeTail ch v

/-- R238, R223: a write of CHN_DB_CR_HEAD. -/
def crHeadWrite (d : Device) (ch v : Nat) : Device :=
  if shutState (d.chan ch).st then d.refuseIndex ch true
  else if mustHold (d.chan ch) 0x00C then d.holdWrite ch 0x00C v
  else d.takeCrHead ch v

/-! ## Strips removed from the crofts -/

/-- Every ticket and strip of the jobs that a test names taken off the shelves, with their LOCAL copies and overflow slots (R136, R139, R234).
Far reads in flight are forgotten: a strip that still needs one sends it again (R422). -/
def dropStrips (d : Device) (p : Nat → Bool) : Device :=
  { d with
    crofts := d.crofts.map (fun (e : Nat × Croft) =>
      (e.1, { e.2 with deque := e.2.deque.filter (fun t => !p t.job), strips := e.2.strips.filter (fun s => !p s.tk.job)
                       locals := e.2.locals.filter (fun l => !p l.job) }))
    sower := { d.sower with overflow := d.sower.overflow.filter (fun o => !p (o.1 % 2 ^ 32))
                            overflowWait := d.sower.overflowWait.filter (fun w => !p w.1) }
    ring := { d.ring with far := d.ring.far.filter (fun r => r.frame.kind ≠ 1) } }

/-- Stores of a strip's element that have passed the Fence and are not made yet: of an element on its way, or of the element that a released
strip has come to. -/
def passedStores (s : Strip) : List Store :=
  if ¬ s.storing then [] else if s.released then (if s.entered then s.stores.filter (fun st => st.element = s.e) else []) else s.stores

/-- Stores past the Fence made, though their strip has stopped (R74, Table 5-8 step 4): whether all of them were. -/
def completeStores (d : Device) (tag : Nat) : List Store → Bool × Device
  | [] => (true, d)
  | st :: rest =>
    match d.makeStore tag st with
    | (.ok _, d) => completeStores d tag rest
    | (_, d) => (false, (completeStores d tag rest).2)

/-- The element's stores of a job's strips completed where its strips stop (Table 5-7); a journaled chain's go with its image. -/
def completeJob (d : Device) (tag : Nat) (j : Job) : Device :=
  let ss := d.crofts.flatMap (fun (e : Nat × Croft) => e.2.strips.filter (fun s => s.tk.job = tag))
  ss.foldl (fun d s =>
    if j.chains.any (fun c => c.first = s.tk.instr && c.journaled) then d else (d.completeStores tag (passedStores s)).2) d

/-- Flags of the elements below the checkpoints of a job's strips that are stopped at a fault (R114): parked on a shelf, waiting to be dealt again,
or reported with a fault that is not taken yet. -/
def parkedFlags (d : Device) (tag : Nat) (j : Job) : Nat :=
  let onShelf := d.crofts.flatMap (fun (e : Nat × Croft) => (e.2.strips.filter (fun s => s.tk.job = tag && s.parked)).map (fun s => s.ck.flags))
  let queued := j.chains.flatMap (fun c => (c.redeal.filter (fun r => j.faults.any (fun f => f.place = .strip c.first r.1.strip))).map (fun r => r.1.ck.flags))
  let ended := j.chains.flatMap (fun c => (c.ready.filter (fun r => (r.fail.map Fail.ofXlt).getD false)).map (·.flags))
  (onShelf ++ queued ++ ended).foldl (fun a b => a ||| b) 0

/-- Whether a tag is a job of a channel. -/
def isJobOf (d : Device) (ch t : Nat) : Bool :=
  match d.job? t with
  | some j => j.ch = ch
  | none => false

/-- Every job of a channel stopped, none finished and nothing written (R268, R274, R559). -/
def stopChannel (d : Device) (ch : Nat) : Device :=
  let d := d.dropStrips (d.isJobOf ch)
  d.upChan ch (fun c => { c with ledgerQ := [], fetched := [], kept := (c.kept ++ c.fetched.filterMap (·.tag)).eraseDups })

/-- A channel's jobs leave the module while its ledger records stay, with their tags, until recovery (R231, R268, R398). -/
def dropJobs (d : Device) (ch : Nat) : Device :=
  let tags := (d.jobsOf ch).map (·.1)
  let d := d.stopChannel ch
  ({ d with jobs := d.jobs.filter (fun e => e.2.ch ≠ ch) } : Device).upChan ch (fun c => { c with kept := (c.kept ++ tags).eraseDups })

/-- The stores of a channel's jobs that have passed the Fence made, before the jobs stop at the stop points of Table 5-7 (R274, R280, R559). -/
def completeAll (d : Device) (ch : Nat) : Device := (d.jobsOf ch).foldl (fun d e => d.completeJob e.1 e.2) d

/-- The extent of a job freed with its image (step 6, or the end of its job; log entry 95). -/
def freeExtent (d : Device) (tag : Nat) : Device :=
  let mine := d.ledger.extents.filter (fun x => x.2.1 = tag)
  let ch := ((d.job? tag).map (·.ch)).getD 0
  let held (x : Nat × Nat × Chain) : Bool := decide (x.1 = ch) && mine.any (fun e => e.2.2.1 = x.2.1)
  let l := { d.ledger with extents := d.ledger.extents.filter (fun x => x.2.1 ≠ tag) }
  { d with ledger := { l with images := l.images.filter (fun x => ! held x) } }

/-- The failure that a job ends with where an event would end it: what fixed its status first stands (R234, R312, R336). -/
def stopping (j : Job) (f : Fail) : Fail :=
  (j.stop.orElse (fun _ => j.sownFail.map (fun s => ({ status := s.status, detail := s.detail } : Fail)))).getD f

/-- R234: a job's status fixed; its strips are discarded, its record's step 7 is owed. A CONTROL job's record names no instruction and no
element (R312). -/
def finishJob (d : Device) (tag : Nat) (f : Fail) : Device :=
  match d.job? tag with
  | none => d
  | some j =>
    if j.over then d
    else
      let flags := d.parkedFlags tag j
      let f : Fail := if dsKind j.desc = 1 then { status := f.status, detail := f.detail } else f
      let d := ((d.completeJob tag j).dropStrips (fun t => t = tag)).freeExtent tag
      let d := d.setJob tag { j with
        st := .finished, status := f.status, flags := j.flags ||| flags, detail := f.detail, instr := f.instr, element := f.element
        finishBell := d.bellNow, finishFree := d.bellFree, chains := [], faults := [], reeve := none }
      d.oweLedger tag 7

/-- Whether a CONTROL job's reeve is in the handler of an interrupt that it took at User: the job stops at the next User boundary (R349). -/
def inHandler (d : Device) (j : Job) : Bool := j.reeve.any (fun n => (d.reeve n).handler = 1)

/-- An ABORT or the start of the deadline stroke fixes a job's status: the job is over at once, or once its reeve is out of an interrupt's handler. -/
def stopJob (d : Device) (tag : Nat) (f : Fail) : Device :=
  match d.job? tag with
  | none => d
  | some j =>
    if d.inHandler j then (if j.over then d else d.upJob tag (fun j => { j with stop := some (stopping j f) }))
    else d.finishJob tag (stopping j f)

/-- A missed deadline is logged and counted (R228). -/
def missDeadline (d : Device) (j : Job) : Device :=
  let d := d.upChan j.ch (fun c => { c with deadlines := (c.deadlines + 1) % 2 ^ 32 })
  (d.count 4 0 0x080).logErr 4 0 j.ch 0x02 (dsDeadline j.desc % 2 ^ 32) j.seq

/-! ## Fetch and validation -/

/-- R558: whether a channel's port lets descriptors be fetched. -/
def fetchServes (d : Device) (e : Nat) : Bool := d.hostServes (entPort e)

/-- The entry whose shadowed fields govern a job: that of its start (R240). -/
def gov (d : Device) (j : Job) : Nat := j.gov.getD (d.entry j.ch)

/-- One descriptor at the next index after those fetched, read and validated (R229). Its four parts are read as they stand at the fetch; R224 allows
older bytes of each where the host changes them after the doorbell (DESIGN CHOICE, log entry 103). -/
def fetchOne (d : Device) (ch : Nat) : Device :=
  let c := d.chan ch
  let e := d.entry ch
  let n := 2 ^ entJrLog2 e
  let ix := ixAdvance n c.accept c.fetched.length
  if c.st ≠ .run ∨ c.entry.isNone ∨ c.acceptStopped ∨ c.invalidating ∨ d.stoodDown ∨ ix = c.tail ∨ ¬ d.fetchServes e then d
  else
    let d := d.useEntry ch
    let c := d.chan ch
    match d.readFor 4 (ringPa e (entJrBase e) + ix % 2 ^ 20 * 64) 64 with
    | (.wait, _) => d
    | (.ok v, d) => d.setChan ch { c with fetched := c.fetched ++ [{ jidx := ix, desc := v, decided := descVerdict e d.stroke v }] }
    | (.poison, d) => d.setChan ch { c with fetched := c.fetched ++ [{ jidx := ix, desc := 0, decided := some { status := stPoison } }] }
    | (_, d) => d.setChan ch { c with fetched := c.fetched ++ [{ jidx := ix, desc := 0, decided := some { status := stMemoryLost } }] }

/-- R231: a turn of at most 64 descriptors. -/
def fetchTurn (d : Device) (ch : Nat) : Nat → Device
  | 0 => d
  | n + 1 => fetchTurn (d.fetchOne ch) ch n

/-! ## Acceptance -/

/-- Tags in use by jobs, by records already written for fetched descriptors, and by ledger records that wait for recovery (R231). -/
def usedTags (d : Device) : List Nat :=
  d.jobs.map (·.1) ++ d.chans.flatMap (fun e => e.2.fetched.filterMap (·.tag) ++ e.2.headTag.toList ++ e.2.kept)

/-- Tags a channel uses. -/
def tagsOf (d : Device) (ch : Nat) : Nat :=
  (d.jobsOf ch).length + ((d.chan ch).fetched.filterMap (·.tag)).length

/-- R231: whether a tag is free for a channel: 32 are reserved for each channel in RUN. -/
def tagFree (d : Device) (ch : Nat) : Bool :=
  let others := d.chans.foldl (fun s e =>
    if e.1 ≠ ch ∧ e.2.st = .run then s + (32 - d.tagsOf e.1) else s) 0
  d.usedTags.length < 262144 && (d.tagsOf ch < 32 || d.usedTags.length + others < 262144)

/-- Lowest tag not in use (the choice among free tags is the model's, log entry 26). -/
def lowestTag (used : List Nat) : Nat → Nat → Nat
  | 0, t => t
  | n + 1, t => if used.contains t then lowestTag used n (t + 1) else t

/-- R230: a completion slot is left for one more job. -/
def slotFree (d : Device) (ch : Nat) : Bool :=
  let c := d.chan ch
  let n := 2 ^ entCrLog2 (d.entry ch)
  ((d.jobsOf ch).filter (fun e => e.2.st ≠ .complete)).length + ixDist n c.crHead c.done < n

/-- R259: whether the far slot of a sequence number holds a RETIRED record or zeros. -/
def farSlotFree (d : Device) (e seq : Nat) : Bool :=
  !hasFar e ||
  (match d.readPa (farSlotPa e seq) 128 with
   | (.ok v, _) => v = 0 || field v 0 2 = 3
   | _ => false)

/-- Fields of the record written at step 1 for the head descriptor. -/
def openRec (d : Device) (ch tag : Nat) (f : Fetched) : Rec :=
  let c := d.chan ch
  let n := 2 ^ entCrLog2 (d.entry ch)
  let open_ := ((d.jobsOf ch).filter (fun e => e.2.st ≠ .complete)).length
  { state := 1, chan := ch, tag := tag, seq := c.seq, jidx := f.jidx, cidx := ixAdvance n c.done open_
    acceptBell := d.bellNow, desc := f.desc, adopted := c.origin.isSome }

/-- Step 1 of Table 9-2 for the head descriptor, when R230 leaves room for it. -/
def writeStep1 (d : Device) (ch : Nat) : Device :=
  let c := d.chan ch
  match c.fetched with
  | f :: rest =>
    let e := d.entry ch
    if c.st = .run ∧ c.entry.isSome ∧ d.fetchServes e ∧ f.tag.isNone ∧ ¬ d.stoodDown ∧ ¬ c.acceptStopped ∧ ¬ c.invalidating ∧ d.tagFree ch ∧ d.slotFree ch ∧
        d.placesServe e ∧ d.farSlotFree e c.seq then
      -- a record that CHN_INV has left for this sequence number is written over under its tag
      let tag := c.headTag.getD (lowestTag d.usedTags d.usedTags.length 0)
      let mirrored : Bool := c.mirror = .mirrored
      let d := d.writeRec ch (d.openRec ch tag f)
      let d := d.upChan ch (fun c => { c with headTag := none, fetched := { f with tag := some tag, durable := !mirrored } :: rest })
      if mirrored then d.upChan ch (fun c => { c with ledgerQ := { tag := tag, step := 1, sent := true } :: c.ledgerQ }) else d
    else d
  | [] => d

/-- R260: PAUSED written to the header before the channel enters or leaves PAUSED. -/
def writePaused (d : Device) (ch : Nat) (on : Bool) : Device :=
  d.writeHdr ch (putField (d.chan ch).hdr 15 1 (ofBool on))

/-- A channel that is to enter or leave PAUSED does so once its places serve, the header there says so, and a mirror has acknowledged it (R260,
R273); a message follows where one is due. -/
def settlePause (d : Device) (ch : Nat) : Device :=
  match (d.chan ch).pauseOwed with
  | none => d
  | some (on, message) =>
    if ¬ d.placesServe (d.entry ch) ∨ d.power.mute then d
    else
      let d := if hdrPaused (d.chan ch).hdr = on then d else d.writePaused ch on
      if (d.chan ch).mirror = .mirrored ∧ (d.chan ch).hdrSent then d
      else
        let d := d.upChan ch (fun c => { c with st := if on then .paused else .run, cmdBusy := false, pauseOwed := none })
        if message then d.chanMessage ch else d

/-- A channel told to enter or leave PAUSED. -/
def owePause (d : Device) (ch : Nat) (on message : Bool) : Device :=
  (d.upChan ch (fun c => { c with cmdBusy := true, pauseOwed := some (on, message) })).settlePause ch

/-- The effect of a durable ledger write: the action that waited for it may take place (R250). -/
def ledgerDurable (d : Device) (ch : Nat) (w : LedgerWrite) : Device :=
  let d := d.upChan ch (fun c => { c with ledgerQ := c.ledgerQ.drop 1 })
  if w.step = 1 then
    d.upChan ch (fun c => { c with fetched := c.fetched.map (fun f => if f.tag = some w.tag then { f with durable := true } else f) })
  else d.upJob w.tag (stepJob w)

/-- The channel's next ledger write made at all its places (R250), a header write that PAUSED waits for first (R260); a mirrored one waits for
its acknowledgement (R273). -/
def ledgerWrite (d : Device) (ch : Nat) : Device :=
  let c := d.chan ch
  if c.pauseOwed.isSome then d.settlePause ch else
  match c.ledgerQ with
  | w :: rest =>
    if w.sent ∨ d.power.mute ∨ ¬ d.placesServe (d.entry ch) then d
    else
      match d.job? w.tag with
      | none => d.setChan ch { c with ledgerQ := rest }
      | some j =>
        let d := d.writeRec ch (recOf w.tag (stepJob w j))
        if c.mirror = .mirrored then d.upChan ch (fun c => { c with ledgerQ := { w with sent := true } :: rest })
        else d.ledgerDurable ch w
  | [] => d.writeStep1 ch

/-- The verdict on a descriptor at its acceptance: that of its read, else of the entry in force, with its deadline as it stands now (R221,
R228, R229). -/
def verdict (d : Device) (ch : Nat) (f : Fetched) : Option Fail :=
  match f.decided with
  | some x => if x.detail = 0 then some x else descVerdict (d.entry ch) d.stroke f.desc
  | none => descVerdict (d.entry ch) d.stroke f.desc

/-! ## Effective modes (R176) -/

def glbGlean (d : Device) : Nat := d.fld 1 0 0x040 2 2
def glbWitness (d : Device) : Nat := d.fld 1 0 0x040 4 1
/-- Effective glean and witness under an entry and the ceilings in force. -/
def effGlean (d : Device) (e : Nat) : Nat := max (entGlean e) d.glbGlean
def effPaired (d : Device) (e : Nat) : Bool := entWitness e = 1 && d.glbWitness = 1

/-- Whether a running job's modes are clamped by the ceilings in force (R176). -/
def clampsJob (d : Device) (e : Nat) : Bool :=
  decide (entGlean e < d.glbGlean) || (entWitness e = 1 && d.glbWitness = 0)

/-- A job whose request is clamped for the first time, counted (R176). -/
def countClamp (d : Device) (tag : Nat) : Device :=
  match d.job? tag with
  | some j => if ¬ j.clamped ∧ d.clampsJob (d.gov j) then (d.setJob tag { j with clamped := true }).count 2 0 0x0A0 else d
  | none => d

/-- R230: the head descriptor accepted once its record is durable. -/
def acceptJob (d : Device) (ch : Nat) : Device :=
  let c := d.chan ch
  match c.fetched with
  | f :: rest =>
    match f.tag with
    | some tag =>
      if f.durable ∧ c.st = .run ∧ c.entry.isSome ∧ d.fetchServes (d.entry ch) ∧ c.pauseOwed.isNone ∧ ¬ d.stoodDown ∧ ¬ c.invalidating ∧
          ¬ c.acceptStopped ∧ d.slotFree ch then
        let r := d.openRec ch tag f
        let j : Job := { ch := ch, seq := c.seq, jidx := f.jidx, cidx := r.cidx, desc := f.desc, acceptBell := d.bellNow
                         adopted := c.origin.isSome }
        let n := 2 ^ entJrLog2 (d.entry ch)
        let d := d.setChan ch { c with fetched := rest, seq := (c.seq + 1) % 2 ^ 64, accept := ixAdvance n c.accept 1 }
        let d := (((d.setJob tag j).count 4 0 0x060).countClamp tag).captureJob ch c.seq 0xFF
        match d.verdict ch f with
        | some x =>
          let d := (d.upJob tag (fun j => { j with decided := true })).count 4 0 0x068
          let d := if x.status = stDeadline then d.missDeadline j else d
          d.finishJob tag x
        | none => d
      else d
    | none => d
  | [] => d

/-! ## Starting jobs -/

/-- R241: the write-back of bytes 0x00, 0x01 and 0x20 to 0x23 of an entry. -/
def writeBack (d : Device) (ch : Nat) : Device :=
  let e := d.entry ch
  let pa := d.entryPa ch
  let failed (d : Device) : Device :=
    (d.upChan ch (fun c => { c with wbPending := true, wbFailed := true })).err 4 0 0x04 0x028 0
  match d.writeFor 4 pa (bytesOf 2 e) with
  | (.ok _, d) =>
    match d.writeHigh (pa + 0x20) (bytesOf 4 (ent e 0x20 0 32)) with
    | (.ok _, d) => d.upChan ch (fun c => { c with wbPending := false })
    | (.wait, d) => d.upChan ch (fun c => { c with wbPending := true })
    | (_, d) => failed d
  | (.wait, d) => d.upChan ch (fun c => { c with wbPending := true })
  | (_, d) => failed d

/-- The pending set applied, or refused (R240); a write-back that is owed is tried again at either (R241). A GLEAN of 0b11, which Table 8-1 reserves and R240
does not name, is applied as it is (DESIGN CHOICE, log entry 113). -/
def applyShadow (d : Device) (ch : Nat) : Device :=
  let c := d.chan ch
  match c.entry, c.pend with
  | some e, some (share, mode) =>
    let strip := field mode 3 5
    if field share 16 8 = 0 ∨ ¬ (strip = 0 ∨ (8 ≤ strip ∧ strip ≤ 16)) then
      let d := d.setChan ch { c with pend := none, shRefused := true }
      if c.wbPending then d.writeBack ch else d
    else
      let e := putField e 4 2 (field mode 8 2)
      let e := putField e 8 8 (field mode 0 8)
      let e := putField e 0x100 24 (field share 0 24)
      (d.setChan ch { c with pend := none, entry := some e }).writeBack ch
  | _, _ => if c.wbPending ∧ c.entry.isSome then d.writeBack ch else d

/-- SHADOW_APPLY: the boundary made for a channel with no job WAITING; with one, its start is the boundary. -/
def shadowApply (d : Device) (ch : Nat) : Device :=
  if (d.jobsOf ch).any (fun e => e.2.st = .waiting) then d else d.applyShadow ch

/-- R233: the conditions every start has: channel, stroke (R228), earlier FENCE and CONTROL jobs, order of starts, PIPELINE. A refused job takes no
part, and a MARK holds no later job back (R227). -/
def mayStart (d : Device) (j : Job) : Bool :=
  let c := d.chan j.ch
  let before := (d.earlier j.ch j.seq).map (·.2)
  (c.st = .run || c.st = .draining) && !d.stoodDown && j.st = .waiting && dsNotBefore j.desc ≤ d.stroke && j.stop.isNone &&
  (dsDeadline j.desc = 0 || d.stroke < dsDeadline j.desc) &&
  before.all (fun b =>
    b.decided || dsKind b.desc = 4 ||
    ((b.started || b.over) &&
     (!(dsKind b.desc = 1 || dsKind b.desc = 3) || b.st = .complete || (dsKind b.desc = 3 && b.counts)) &&
     (dsPipeline j.desc && dsKind j.desc ≠ 1 && dsKind j.desc ≠ 3 && dsKind j.desc ≠ 4 || b.counts || dsKind j.desc = 4))) &&
  (if dsKind j.desc = 1 || dsKind j.desc = 4 then before.all (fun b => b.st = .complete) else true)

/-- A job enters RUNNING: the boundary at which the pending set applies (R240), then step 2 is owed (Table 9-2). -/
def startJob (d : Device) (tag : Nat) : Device :=
  match d.job? tag with
  | none => d
  | some j =>
    let d := (d.useEntry j.ch).applyShadow j.ch
    let d := (d.upJob tag (fun j => { j with st := .running, started := true, gov := (d.chan j.ch).entry })).countClamp tag
    d.oweLedger tag 2

/-- R35, R233: a STREAM job started; one with no instruction is done at once. -/
def startStream (d : Device) (tag : Nat) : Device :=
  match d.job? tag with
  | none => d
  | some j =>
    if dsKind j.desc = 0 ∧ d.mayStart j then
      let d := d.startJob tag
      if dsCount j.desc = 0 then d.upJob tag (fun j => { j with workDone := true }) else d
    else d

/-- R227: a FENCE over once every earlier job counts as FINISHED; a MARK once every earlier job is COMPLETE. -/
def fenceJob (d : Device) (tag : Nat) (kind : Nat) : Device :=
  match d.job? tag with
  | none => d
  | some j =>
    if dsKind j.desc = kind ∧ d.mayStart j then
      let d := (d.applyShadow j.ch).upJob tag (fun j => { j with started := true })
      d.finishJob tag { status := stDone }
    else d

/-- R234: the end of a job whose work is done or whose status an event has fixed. -/
def endJob (d : Device) (tag : Nat) : Device :=
  match d.job? tag with
  | none => d
  | some j =>
    if (d.chan j.ch).st.live ∧ (j.st = .running ∨ j.st = .parked) ∧ ¬ d.stoodDown then
      match j.stop with
      | some f => if d.inHandler j then d else d.finishJob tag f
      | none => if j.workDone then d.finishJob tag { status := stDone } else d
    else d

/-! ## Completion -/

/-- Oldest job of a channel without a written record. -/
def oldestOpen (d : Device) (ch : Nat) : Option (Nat × Job) :=
  argmin (fun e => e.2.seq) ((d.jobsOf ch).filter (fun e => e.2.st ≠ .complete))

/-- The completion record of a job (Table 8-7) at a ring index. -/
def recordOf (d : Device) (j : Job) (ix : Nat) : Nat :=
  let mark : Bool := dsKind j.desc = 4
  let bell := if mark then j.finishBell else d.bellNow
  let free := if mark then j.finishFree else d.bellFree
  j.status % 256 + j.flags % 256 * 2 ^ 8 + j.detail % 256 * 2 ^ 16 + (1 - field ix 31 1) * 2 ^ 24 + ofBool j.replayed * 2 ^ 25 +
  ofBool j.adopted * 2 ^ 26 + ofBool free * 2 ^ 27 + j.instr % 2 ^ 16 * 2 ^ 32 + dsTag j.desc * 2 ^ 48 + j.seq % 2 ^ 64 * 2 ^ 64 +
  j.element % 2 ^ 40 * 2 ^ 128 + bell * 2 ^ 192

/-- Address of a completion slot. -/
def crPa (e ix : Nat) : Nat := ringPa e (entCrBase e) + ix % 2 ^ 20 * 32

/-- Far writes and atomics of a job that their target has not answered yet (R19). -/
def farOwed (d : Device) (tag : Nat) : Bool := d.ring.far.any (fun r => r.owner = some tag && r.resp.isNone)

/-- The answered far requests of a job forgotten. -/
def farSettled (d : Device) (tag : Nat) : Device :=
  { d with ring := { d.ring with far := d.ring.far.filter (fun r => r.owner ≠ some tag) } }

/-- R236 to R238: the record of the oldest FINISHED job written at DONE, once its far writes are answered (R19). HALT_ON_ERROR pauses a draining
channel too, and its DRAIN ends there (DESIGN CHOICE, log entry 89). -/
def writeRecord (d : Device) (ch : Nat) : Device :=
  let c := d.chan ch
  match d.oldestOpen ch with
  | none => d
  | some (tag, j) =>
    if c.st.live ∧ j.st = .finished ∧ j.finishDurable ∧ ¬ d.power.mute ∧ ¬ d.farOwed tag then
      let e := d.entry ch
      match (d.useEntry ch).writeFor 4 (crPa e c.done) (bytesOf 32 (d.recordOf j c.done)) with
      | (.ok _, d) =>
        let d := (d.farSettled tag).upChan ch (fun c => { c with done := ixAdvance (2 ^ entCrLog2 e) c.done 1 })
        let d := ((d.setJob tag { j with st := .complete }).count 4 0 0x070).captureJob ch j.seq j.status
        let d := if j.rewrite then d.count 3 0 0x088 else d
        let d := if dsNotify j.desc then d.chanMessage ch else d
        if entHaltOnError (d.gov j) ∧ j.status ≠ stDone ∧ (c.st = .run ∨ c.st = .draining) then d.owePause ch true true else d
      | (_, _) => d
    else d

/-- The entry of a channel that has drained to OFF dropped, once its last job is retired (R219, R241). -/
def dropDrained (d : Device) (ch : Nat) : Device :=
  if (d.chan ch).st = .off ∧ (d.jobsOf ch).isEmpty then
    d.upChan ch (fun c => { c with entry := none, windows := [], wbPending := false })
  else d

/-- R250 step 8, R260: RSEQ written, and up to 64 completed jobs freed with their tags. -/
def retireList (d : Device) (ch rseq : Nat) : Nat → List (Nat × Job)
  | 0 => []
  | n + 1 =>
    match (d.jobsOf ch).find? (fun e => e.2.seq = rseq ∧ e.2.st = .complete) with
    | some e => e :: retireList d ch (rseq + 1) n
    | none => []

def retire (d : Device) (ch : Nat) : Device :=
  let c := d.chan ch
  let e := d.entry ch
  let free (d : Device) (js : List (Nat × Job)) : Device :=
    js.foldl (fun d x =>
      let d := d.writeRec ch { recOf x.1 x.2 with state := 0 }
      { d with jobs := Map.erase d.jobs x.1 }) d
  if c.entry.isNone ∨ ¬ d.placesServe e ∨ c.st = .broken then d
  else
    let js := d.retireList ch (hdrRseq c.hdr) 64
    -- jobs below RSEQ are those whose header write, or whose RETIRED record, a mirror has had to acknowledge
    let owed := (d.jobsOf ch).filter (fun x => x.2.st = .complete ∧ x.2.seq < hdrRseq c.hdr)
    if c.hdrSent then d
    else if c.mirror = .mirrored ∧ c.retiring ≠ [] then d
    else if owed ≠ [] then
      if c.mirror = .mirrored then
        (owed.foldl (fun d x => d.writeRec ch { recOf x.1 x.2 with state := 0 }) d).upChan ch (fun c => { c with retiring := owed.map (·.1) })
      else ((free d owed).upChan ch (fun c => { c with retiring := [] })).dropDrained ch
    else if js = [] then d
    else
      let d := d.writeHdr ch (putField c.hdr 320 64 (hdrRseq c.hdr + js.length))
      if c.mirror = .mirrored then d else (free d js).dropDrained ch

/-- A job whose RETIRED record has been acknowledged freed with its tag. -/
def retiredAck (d : Device) (ch tag : Nat) : Device :=
  (({ d with jobs := Map.erase d.jobs tag } : Device).upChan ch (fun c => { c with retiring := c.retiring.erase tag })).dropDrained ch

/-- The mirror of a channel is gone: writes that only it held back are durable (R273). -/
def mirrorGone (d : Device) (ch : Nat) : Device :=
  let c := d.chan ch
  let d := d.upChan ch (fun c => { c with hdrSent := false })
  let d := match c.ledgerQ with
    | w :: _ => if w.sent then d.ledgerDurable ch w else d
    | [] => d
  c.retiring.foldl (fun d t => d.retiredAck ch t) (d.settlePause ch)

/-! ## Faults -/

/-- A fault of a job raised; it waits for its slot, and a full queue counts the wait (R242, R244). -/
def raiseFault (d : Device) (tag : Nat) (f : JobFault) : Device :=
  match d.job? tag with
  | none => d
  | some j =>
    let c := d.chan j.ch
    let n := 2 ^ entFqLog2 (d.entry j.ch)
    let waiting := (d.jobsOf j.ch).foldl (fun k e => k + (e.2.faults.filter (fun f => f.slot.isNone)).length) 0
    let full := ixDist n c.fqHead c.fqTail + waiting ≥ n
    let d := d.setJob tag { j with st := .parked, faults := j.faults ++ [f] }
    if full then d.upChan j.ch (fun c => { c with fqWaits := (c.fqWaits + 1) % 2 ^ 32 }) else d

/-- First fault of a channel that has no slot yet, oldest job first. -/
def unposted (d : Device) (ch : Nat) : Option (Nat × Job × JobFault) :=
  match argmin (fun e => e.2.seq) ((d.jobsOf ch).filter (fun e => e.2.st = .parked ∧ e.2.faults.any (fun f => f.slot.isNone))) with
  | some (t, j) =>
    match j.faults.find? (fun f => f.slot.isNone) with
    | some f => some (t, j, f)
    | none => none
  | none => none

/-- The fault entry of Table 8-10. -/
def faultEntry (j : Job) (f : JobFault) (ix : Nat) : Nat :=
  f.cause % 256 + f.access % 4 * 2 ^ 8 + (1 - field ix 31 1) * 2 ^ 15 + f.instr % 2 ^ 16 * 2 ^ 32 + dsTag j.desc * 2 ^ 48 +
  j.seq % 2 ^ 64 * 2 ^ 64 + f.addr % 2 ^ 64 * 2 ^ 128 + f.element % 2 ^ 40 * 2 ^ 192

def fqPa (e ix : Nat) : Nat := ringPa e (entFqBase e) + ix % 2 ^ 20 * 32

/-- The first fault of a list given its slot. -/
def slotFirst (ix : Nat) : List JobFault → List JobFault
  | [] => []
  | f :: fs => if f.slot.isNone then { f with slot := some ix } :: fs else f :: slotFirst ix fs

/-- R242, R260: FQ_TAIL written to the header, then the entry at FQ_TAIL. -/
def postFault (d : Device) (ch : Nat) : Device :=
  let c := d.chan ch
  let e := d.entry ch
  let n := 2 ^ entFqLog2 e
  match d.unposted ch with
  | some (tag, j, f) =>
    if c.st.live ∧ ixDist n c.fqHead c.fqTail < n ∧ d.placesServe e then
      match d.writeHigh (fqPa e c.fqTail) (bytesOf 32 (faultEntry j f c.fqTail)) with
      | (.ok _, _) =>
        let ix := ixAdvance n c.fqTail 1
        let d := d.writeHdr ch (putField c.hdr 384 32 ix)
        let (_, d) := (d.useEntry ch).writeFor 4 (fqPa e c.fqTail) (bytesOf 32 (faultEntry j f c.fqTail))
        let d := d.upChan ch (fun x => { x with fqTail := ix })
        let d := d.setJob tag { j with faults := slotFirst c.fqTail j.faults }
        (d.count 4 0 0x090).chanMessage ch
      | (_, _) => d
    else d
  | none => d

/-! ## R559 -/

/-- Whether a write would fail for good now: an error response or a LOST stack. -/
def writeFails (d : Device) (pa : Nat) (bs : List Byte) : Option Device :=
  match d.writePa pa bs with
  | (.ok _, _) => none
  | (.wait, _) => none
  | (_, d) => some d

/-- The completion record or fault entry that is due cannot be written: BROKEN, the ledger records kept. -/
def recordFailure (d : Device) (ch : Nat) : Device :=
  let c := d.chan ch
  let e := d.entry ch
  let brk (d : Device) : Device := (((d.completeAll ch).stopChannel ch).breakChan ch 0x02).chanMessage ch
  if ¬ c.st.live then d
  else
    let rec_ := match d.oldestOpen ch with
      | some (_, j) => if j.st = .finished ∧ j.finishDurable then d.writeFails (crPa e c.done) (bytesOf 32 (d.recordOf j c.done)) else none
      | none => none
    match rec_ with
    | some d => brk d
    | none =>
      match d.unposted ch with
      | some (_, j, f) =>
        match d.writeFails (fqPa e c.fqTail) (bytesOf 32 (faultEntry j f c.fqTail)) with
        | some d => brk d
        | none => d
      | none => d

/-! ## Channel commands (Table 8-9) -/

def ignoreCmd (d : Device) (ch : Nat) : Device := d.upChan ch (fun c => { c with cmdIgnored := true })

def enableChan (d : Device) (ch : Nat) : Device :=
  let c := d.chan ch
  if (c.st = .off ∨ c.st = .broken) ∧ ¬ c.cmdBusy ∧ d.pwrState ≠ 2 then
    d.setChan ch { c with st := .enabling, cmdBusy := true, entry := none, windows := [], recovering := true, abortAfter := false,
                          yielded := false, acceptStopped := false }
  else d.ignoreCmd ch

def pauseChan (d : Device) (ch : Nat) : Device :=
  let c := d.chan ch
  if c.st = .run ∧ ¬ c.cmdBusy then d.owePause ch true false else d.ignoreCmd ch

def resumeChan (d : Device) (ch : Nat) : Device :=
  let c := d.chan ch
  if c.st = .paused ∧ ¬ c.cmdBusy then d.owePause ch false false else d.ignoreCmd ch

/-- Every accepted job of a channel that is not over ends with a status; one whose failed strip has had its commit turn keeps that failure
(R234). -/
def finishAll (d : Device) (ch : Nat) (f : Fail) : Device :=
  (d.jobsOf ch).foldl (fun d e => d.stopJob e.1 f) d

def abortChan (d : Device) (ch : Nat) : Device :=
  let c := d.chan ch
  if c.st = .enabling then d.setChan ch { c with abortAfter := true }
  else if c.st = .run ∨ c.st = .paused then
    (d.finishAll ch { status := stAborted }).owePause ch true false
  else if c.st = .draining then d.finishAll ch { status := stAborted }
  else d.ignoreCmd ch

def drainChan (d : Device) (ch : Nat) : Device :=
  let c := d.chan ch
  if (c.st = .run ∨ c.st = .paused) ∧ ¬ c.cmdBusy then d.setChan ch { c with st := .draining, cmdBusy := true }
  else d.ignoreCmd ch

/-- R260, R239: the last job of a draining channel is COMPLETE. -/
def drainDone (d : Device) (ch : Nat) : Device :=
  let c := d.chan ch
  if c.st = .draining ∧ (d.jobsOf ch).all (fun e => e.2.st = .complete) ∧ d.placesServe (d.entry ch) then
    let d := d.writeHdr ch (putField (putField c.hdr 12 1 0) 15 1 0)
    (d.upChan ch (fun c => { c with st := .off, cmdBusy := false, leaseHeld := false, fetched := [], waits := [] })).dropDrained ch
  else d

/-! ## Entry load (R218, R219, R455) -/

/-- R455: an owned window's two words. -/
def windowOk (v : Nat) : Bool :=
  field v 0 12 = 0 && field v 56 8 = 0 && field v 64 12 = 4095 && field v 120 8 = 0 && field v 0 64 ≤ field v 64 64

/-- The owned windows read from the list, none if any is malformed or unreadable. -/
def readWindows (d : Device) (pa : Nat) : Nat → Res × List (Nat × Nat) × Device
  | 0 => (.ok 0, [], d)
  | n + 1 =>
    match readWindows d pa n with
    | (.ok _, ws, d) =>
      match d.readFor 4 (pa + 16 * n) 16 with
      | (.ok v, d) => if windowOk v then (.ok 0, ws ++ [(field v 0 64, field v 64 64)], d) else (.err, [], d)
      | (r, d) => (r, [], d)
    | x => x

/-- Whether a function of a port is enabled: the PF always, a VF under VF Enable (R218). -/
def fnEnabled (d : Device) (p fn : Nat) : Bool := fn = 0 || ((d.host p).vfEnable && fn ≤ (d.host p).numVfs)

/-- R218 for an entry just read, the list apart. -/
def entryPasses (d : Device) (e : Nat) : Bool :=
  entryOk e && d.fnEnabled (entPort e) (entFunction e) && ledgerPermits (d.fld 1 0 0x040 6 2) (entLedger e) &&
  (!(hasFar e && farSpace e = 1) || d.uioInUse (entPort e))

/-- R219: whether a cached entry is pinned. -/
def pinned (d : Device) (ch : Nat) (c : Channel) : Bool :=
  c.entry.isSome && ((c.st ≠ .off && c.st ≠ .broken) || c.pend.isSome || c.wbPending ||
    (d.jobsOf ch).any (fun e => e.2.st ≠ .complete))

/-- R219: room for one more cached entry: fewer than 512, or the least recently used unpinned one dropped. -/
def cacheRoom (d : Device) : Option Device :=
  let held := d.chans.filter (fun e => e.2.entry.isSome)
  if held.length < 512 then some d
  else
    match argmin (fun e => e.2.stamp) (held.filter (fun e => ¬ d.pinned e.1 e.2)) with
    | some (n, c) => some (d.setChan n { c with entry := none, windows := [] })
    | none => none

/-- R423: a route to an understudy within a quarter of the stroke period. -/
def nearRoute (d : Device) (dest : Nat) : Bool :=
  match d.routeOf dest with
  | some (_, _, ns) => 4 * ns ≤ 250000 * 2 ^ d.bell.period
  | none => false

/-- R272: the mirror setup sent to the understudy, or refused for want of a route. -/
def sendSetup (d : Device) (ch : Nat) : Device :=
  let e := d.entry ch
  let d := (d.upChan ch (fun c => { c with mirror := .none, setupDue := false, resync := false })).mirrorGone ch
  if ¬ entUnderstudyEn e then d
  else if ¬ d.nearRoute (entUnderstudy e) then
    (d.upChan ch (fun c => { c with mirror := .refused })).event 3 0 6
  else (d.upChan ch (fun c => { c with missed := 0, setupDue := true })).sendFrame { kind := 9, dest := entUnderstudy e, src := 0, channel := ch, units := 7, data := e }

/-- R260: the base point written at a reload. -/
def basePoint (d : Device) (ch : Nat) : Device :=
  let c := d.chan ch
  let h := putField (putField (putField c.hdr 192 64 c.seq) 256 32 c.accept) 288 32 c.done
  d.writeHdr ch h

/-- The entry of a channel that has none cached loaded, checked and acted on (R218 to R220). It is read as memory stands, new and whole; R220 allows
older bytes of an entry changed without an invalidation (DESIGN CHOICE, log entry 102). -/
def loadEntry (d : Device) (ch : Nat) : Device :=
  let c := d.chan ch
  if c.entry.isSome ∨ ¬ (c.st = .enabling ∨ c.st.live) then d
  else
    match d.cacheRoom with
    | none => d
    | some d =>
      let bad (d : Device) : Device := (d.stopChannel ch).breakChan ch 0x01
      match d.readFor 4 (d.entryPa ch) 128 with
      | (.wait, _) => d
      | (.ok e, d) =>
        if ¬ d.entryPasses e then bad d
        else
          match d.readWindows (ent e 0x58 0 64) (ent e 0x60 0 7) with
          | (.wait, _, _) => d
          | (.ok _, ws, d) =>
            let d := (d.upChan ch (fun c => { c with entry := some e, windows := ws, leaseFor := if c.leaseHeld then some e else c.leaseFor })).useEntry ch
            -- the setup goes first, so that its answer is the next that comes (R272)
            if c.st = .enabling then d else (d.sendSetup ch).basePoint ch
          | (_, _, d) => bad d
      | (_, d) => bad d

/-! ## CHN_INV (R221) -/

def chnInv (d : Device) (v : Nat) : Device :=
  if d.fld 4 0 0x04C 31 1 = 1 then d.err 4 0 0x03 0x04C 0
  else
    let d := d.setRg 4 0 0x04C (v % 2 ^ 13 + 2 ^ 31)
    { d with chans := d.chans.map (fun (e : Nat × Channel) =>
        if field v 12 1 = 1 ∨ e.1 = field v 0 12 then (e.1, { e.2 with invalidating := true }) else e) }

/-- CHN_INV completes (R221): the named entries are dropped, with the descriptors that were fetched under them; the tag of a head whose record is written
already stays with its sequence number. -/
def chnInvDone (d : Device) : Device :=
  let named := d.chans.filter (fun e => e.2.invalidating)
  if d.fld 4 0 0x04C 31 1 = 1 ∧ named.all (fun e => (d.jobsOf e.1).all (fun j => j.2.st = .complete)) then
    let d := { d with chans := d.chans.map (fun (e : Nat × Channel) =>
      if e.2.invalidating then
        (e.1, { e.2 with invalidating := false, entry := none, windows := [], wbPending := false, fetched := []
                         headTag := (e.2.fetched.findSome? (fun (f : Fetched) => f.tag)).orElse (fun _ => e.2.headTag), ledgerQ := e.2.ledgerQ.filter (fun w => w.step ≠ 1) })
      else e) }
    d.setFld 4 0 0x04C 31 1 0
  else d

end Device

end Sys2Proof.Machine
end

