-- ==== Sys2Proof/Machine/Wear.lean ====
section
/-! DEFINITION. Wear indicators, the sparing log and the naming of swaps (chapter 18). -/
namespace Sys2Proof.Machine

namespace Device

/-! ## Crofts in service -/

def croft (d : Device) (n : Nat) : Croft := d.crofts.get {} n
def setCroft (d : Device) (n : Nat) (c : Croft) : Device := { d with crofts := d.crofts.set n c }
def upCroft (d : Device) (n : Nat) (f : Croft → Croft) : Device := d.setCroft n (f (d.croft n))

/-- Hamlet and die of a croft (R13). -/
def hamletOf (n : Nat) : Nat := n / 17
def dieOf (n : Nat) : Nat := if n < 136 then 0 else 1

/-- Crofts the Sower deals to: in service and not being swapped out (R469), ascending. -/
def serving (d : Device) : List Nat := (List.range 272).filter (fun n => (d.croft n).st = 1 && !(d.croft n).retiring)

/-! ## Sparing -/

/-- A croft retired (R473). -/
def retireCroft (d : Device) (n reason : Nat) : Device :=
  (((d.upCroft n (fun c => { c with st := 4, retiring := false })).event 11 0 2).event 11 0 1).logSpare n 0x1FF 0 reason

/-- Seed croft of a hamlet, if one is left. -/
def seedCroft (d : Device) (h : Nat) : Option Nat := (span (17 * h) 17).find? (fun n => (d.croft n).st = 2)

/-- R468, R469: a worn croft: a swap named for a later stroke, or retirement without a spare. -/
def wornCroft (d : Device) (n reason : Nat) : Device :=
  if d.isNamed 0 n ∨ (d.croft n).st = 4 then d
  else if (d.seedCroft (hamletOf n)).isSome then
    { d with spare := { d.spare with named := d.spare.named ++ [(0, n, d.stroke + d.fld 11 0 0x040 0 8, reason)] } }
  else d.retireCroft n 6

/-- A check failure or a lost witness vote of a croft (Table 18-2). -/
def wearCheck (d : Device) (n : Nat) : Device :=
  let (k, d) := d.noteWear 0 n 0 86400
  let w := d.rg 19 n 0x0A0
  let d := if field w 0 16 < 0xFFFF then d.setRg 19 n 0x0A0 (w + 1) else d
  if (k : Int) ≥ 3 + d.calDelta 0x10 then d.wornCroft n 0 else d

end Device

end Sys2Proof.Machine
end

