-- ==== Sys2Proof/Machine/Fence.lean ====
section
/-! DEFINITION. The Fence (R455 to R457, R466), memory errors and poison (R204 to R208), LOST stacks (R256), and worn banks and
HBM rows (R468 to R473). -/
namespace Sys2Proof.Machine

/-- Green slice number of SAF_FENCE_INFO. -/
def greenSlice : Nat := 16

namespace Device

/-! ## The Fence -/

/-- R456: whether every byte of a channel's write lies in one of its windows and none in the reserved range. -/
def fenceOk (d : Device) (ch pa n : Nat) : Bool :=
  let pa := d.ownPa pa
  n = 0 || ((d.chan ch).windows.any (fun w => w.1 ≤ pa && pa + n - 1 ≤ w.2) && !d.inReserved pa n)

/-- An enabled firmware window as (base, size) (R466). -/
def fwWindow (d : Device) (n : Nat) : Option (Nat × Nat) :=
  let lo := d.rg 10 0 (0x0C0 + 8 * n)
  if field lo 0 1 = 1 then
    let size := 2 ^ field lo 1 6
    let base := field lo 12 20 * 2 ^ 12 + field (d.rg 10 0 (0x0C4 + 8 * n)) 0 24 * 2 ^ 32
    some (base / size * size, size)
  else none

/-- R456: whether a write with no channel lies in one firmware window. -/
def fwFenceOk (d : Device) (pa n : Nat) : Bool :=
  let pa := d.ownPa pa
  n = 0 || ((List.range 8).any (fun k => match d.fwWindow k with
    | some (b, s) => b ≤ pa && pa + n ≤ b + s
    | none => false) && !d.inReserved pa n)

/-- R457: a refusal recorded, counted, raised and logged; `ch` is 0xFFF for a write with no channel. -/
def refuseFence (d : Device) (ch slice pa : Nat) (load : Bool) : Device :=
  let d := d.setRg 10 0 0x050 (ch % 4096 + slice % 32 * 2 ^ 12 + ofBool load * 2 ^ 17 + 2 ^ 31)
  let d := (d.setRg 10 0 0x054 (pa % 2 ^ 32)).setRg 10 0 0x058 (pa / 2 ^ 32)
  ((d.count 10 0 0x068).logErr 10 0 ch 0x06 1 pa).event 10 0 1

end Device

end Sys2Proof.Machine
end

