-- ==== Sys2Proof/Machine/Sower.lean ====
section
/-! DEFINITION. The Sower: instruction issue, hulls and ordering, replay safety and the journal, strip size, dealing,
commit and final writes (chapters 2, 6 and 9). -/
namespace Sys2Proof.Machine

/-! ## Hulls and footprints (R60 to R64, R171) -/

/-- Geometry of a value, index or mask slot: step and size in bytes for values and indices. -/
def slotStep (i : SInstr) (no : Nat) : Nat × Nat :=
  let r := opRow i.opcode
  let s := i.slot no
  if i.ixNo = some no then (i.ixBytes, i.ixBytes)
  else
    let pair := (no = 0 ∧ r.pairSrc) ∨ (no = 3 ∧ (r.pairDst ∨ (i.opcode = 0x60 ∧ i.wide)))
    let size := if pair then 32 else 16
    (if s.kind = kStrided then s.stride * 16 else size, size)

/-- Whether a slot holds one bit per lane. -/
def isMaskSlot (i : SInstr) (no : Nat) : Bool := no = 5 || (no = 3 && (opRow i.opcode).maskDst)

/-- Whether a slot's hull is whole whatever the strip: windows, single writes, COMPRESS and EXPAND streams (R101). -/
def isWhole (i : SInstr) (no : Nat) : Bool :=
  (i.opcode = 0x60 && (no = 3 || no = 4)) || (i.opcode = 0x45 && (no = 3 || no = 4)) || (i.opcode = 0x46 && no = 0)

/-- Hull of a slot over `n` elements from element `f`: lowest and highest byte. -/
def slotHull (i : SInstr) (no f n : Nat) : Option (Nat × Nat) :=
  let s := i.slot no
  if s.kind = kIndexed ∨ s.kind = kLocal then some (s.base, s.limit)
  else if s.kind = kBcastMem then some (s.base, s.base + 15)
  else if ¬ (s.kind = kDense ∨ s.kind = kStrided) then none
  else if isWhole i no then (lastOffset i no).map (fun o => (s.base, s.base + o))
  else if isMaskSlot i no then some (s.base + f * i.lanes / 8, s.base + ceilDiv ((f + n) * i.lanes) 8 - 1)
  else
    let (st, sz) := slotStep i no
    some (s.base + f * st, s.base + (f + n - 1) * st + sz - 1)

/-- Hulls that the members load from, and that they store to, over a range of elements. -/
def loadHulls (ms : List SInstr) (f n : Nat) : List (Nat × Nat) :=
  ms.flatMap (fun i => [0, 1, 2, 5].filterMap (fun no => slotHull i no f n))
def storeHulls (ms : List SInstr) (f n : Nat) : List (Nat × Nat) :=
  ms.flatMap (fun i => [3, 4].filterMap (fun no => slotHull i no f n))

/-- Whether two byte ranges meet, and whether any of two lists do. -/
def meets (a b : Nat × Nat) : Bool := a.1 ≤ b.2 && b.1 ≤ a.2
def anyMeet (xs ys : List (Nat × Nat)) : Bool := xs.any (fun x => ys.any (meets x))

/-- Class of a slot for the in-place rule (R62): base, step, size, and 0 value, 1 index, 2 mask by lane count. -/
def slotGeom (i : SInstr) (no : Nat) : Nat × Nat × Nat × Nat :=
  let s := i.slot no
  if isMaskSlot i no then (s.base, 0, i.lanes, 2)
  else
    let (st, sz) := slotStep i no
    (s.base, st, sz, if i.ixNo = some no then 1 else 0)

/-- R63: whether a chain's footprints make it run ordered. -/
def isOrdered (ms : List SInstr) (l : Nat) : Bool :=
  let srcs := ms.flatMap (fun i => [0, 1, 2, 5].filterMap (fun no =>
    let k := (i.slot no).kind
    if k = kLocal ∨ k = kBcastMem then none else (slotHull i no 0 l).map (fun h => (h, slotGeom i no, k))))
  let dsts := ms.flatMap (fun i => [3, 4].filterMap (fun no => (slotHull i no 0 l).map (fun h => (h, slotGeom i no, (i.slot no).kind))))
  let rec pairs : List ((Nat × Nat) × (Nat × Nat × Nat × Nat) × Nat) → Bool
    | [] => false
    | x :: xs => xs.any (fun y => meets x.1 y.1) || pairs xs
  dsts.any (fun x => srcs.any (fun y => meets x.1 y.1 && !(x.2.1 = y.2.1 && x.2.2 ≠ kIndexed && y.2.2 ≠ kIndexed))) || pairs dsts

/-- Chains whose strips hand state on in element order: ordered ones, and those with SCAN, COMPRESS, EXPAND or a scatter
(dealt one strip at a time, log entry 27). -/
def isSerial (c : Chain) : Bool :=
  c.ordered || c.members.any (fun i => i.opcode = 0x61 || i.opcode = 0x45 || i.opcode = 0x46 || i.opcode = 0x51 || i.opcode = 0x52)

/-- Stream length of a chain. -/
def Chain.len (c : Chain) : Nat :=
  match c.members with
  | i :: _ => i.length
  | [] => 0

/-- Ranges of a chain's elements whose results are not stored: the open strips, those that stopped for good, and what has not been dealt; an
ordered chain is one, and a chain whose strips have all committed leaves nothing but its final write. -/
def Chain.notDone (c : Chain) : List (Nat × Nat) :=
  if c.journaled ∨ (c.ordered ∧ c.committed < c.len) then [(0, c.len)]
  else c.open_ ++ (c.ready.filter (fun s => s.fail.isSome)).map (fun s => (s.first, s.count)) ++
    (if c.nextDeal < c.len then [(c.nextDeal, c.len - c.nextDeal)] else [])

/-- Elements of a chain that count as one strip where a strip of it waits (R64, R161): an ordered chain's are all of them. -/
def Chain.waitRange (c : Chain) (f n : Nat) : Nat × Nat := if c.ordered then (0, c.len) else (f, n)

/-- R64, R171: whether loads and stores wait for an earlier chain. -/
def waitsOn (early : Chain) (l s : List (Nat × Nat)) : Bool :=
  let one (m : Nat × Nat) : Bool :=
    let el := loadHulls early.members m.1 m.2
    let es := storeHulls early.members m.1 m.2
    anyMeet es l || anyMeet el s || anyMeet es s
  early.notDone.any one ||
  -- the single writes of REDUCE and COMPRESS are made at the end (R65)
  (!early.finalMade && early.members.any (fun i =>
    (i.opcode = 0x60 || i.opcode = 0x45) &&
    (let es := [3, 4].filterMap (fun no => slotHull i no 0 1)
     anyMeet es l || anyMeet es s)))

/-- R64, R171: whether a strip of a later chain waits for an earlier chain. -/
def waitsFor (early : Chain) (ms : List SInstr) (f n : Nat) : Bool := waitsOn early (loadHulls ms f n) (storeHulls ms f n)

/-! ## Failures of translation -/

/-- Status of a cause of Table 10-6. -/
def causeStatus (c : Nat) : Nat :=
  if c = 0x10 ∨ c = 0x11 then stFaultWalk else if c = 0x20 then stFaultSideEffect else stFaultXlt

/-- Whether a cause parks a job (Table 10-6). -/
def parkCause (c : Nat) : Bool := !(c = 0x10 || c = 0x11 || c = 0x20)

/-- ACCESS of a fault entry (Table 8-10). -/
def accessCode : Access → Nat
  | .read => 0
  | .write => 1
  | .atomic => 2
  | .fetch => 3
  | .program => 3

/-- Store bits of one element of a chain (R109, R137): n for a mask of n lanes. The single final writes of REDUCE and the count of COMPRESS,
which belong to no element (R555), add nothing (DESIGN CHOICE, log entry 86). -/
def storeBits (ms : List SInstr) : Nat :=
  ms.foldl (fun s i => s + [3, 4].foldl (fun t no =>
    let k := (i.slot no).kind
    if k = kNone ∨ k = kTemp ∨ i.opcode = 0x60 ∨ (i.opcode = 0x45 ∧ no = 4) then t
    else if isMaskSlot i no then t + i.lanes
    else if (opRow i.opcode).pairDst ∧ no = 3 then t + 8 * 32
    else if (k = kDense ∨ k = kStrided) ∧ (i.slot no).base % 16 ≠ 0 then t + 8 * 32
    else t + 8 * 16) 0) 0

/-- Bytes of a slot's part of the staged image (R265). -/
def slotImage (i : SInstr) (l no : Nat) : Nat :=
  let k := (i.slot no).kind
  if k = kNone ∨ k = kTemp then 0
  else if k = kIndexed then 32 * l
  else match lastOffset i no with
    | some o => if isMaskSlot i no ∨ isWhole i no then o + 1 else (if (opRow i.opcode).pairDst ∧ no = 3 then 32 else 16) * l
    | none => 0

/-- Size of a chain's staged image in bytes (R265). -/
def imageBytes (ms : List SInstr) (l : Nat) : Nat := ms.foldl (fun s i => s + slotImage i l 3 + slotImage i l 4) 0

/-- Start of a slot's part in the staged image. -/
def imageOffset (ms : List SInstr) (l member slot : Nat) : Nat :=
  imageBytes (ms.take member) l + (if slot = 4 then (match ms[member]? with
    | some i => slotImage i l 3
    | none => 0) else 0)

/-- Offset of a cell within its slot's part: by element, or by address where the slot is whole. -/
def cellOffset (i : SInstr) (st : Store) (va : Nat) : Nat :=
  let (step, size) := slotStep i st.slot
  let base := (i.slot st.slot).base
  if isMaskSlot i st.slot ∨ isWhole i st.slot then va - base else st.element * size + (va - (base + st.element * step))

/-- Targets of a scatter's staged stores, each once, in the order first touched. -/
def scatterTargets (image : List Store) (member base : Nat) : List Nat :=
  image.foldl (fun ts st => if st.member = member then st.cells.foldl (fun ts c =>
    let t := (c.va - base) / 16
    if ts.contains t then ts else ts ++ [t]) ts else ts) []

/-- Place of a store's byte in the staged image: by element or by address, and in a scatter's entry, whose first half is the target's index. -/
def imagePlace (c : Chain) (st : Store) (va : Nat) : Nat :=
  match c.members[st.member]? with
  | none => 0
  | some i =>
    imageOffset c.members c.len st.member st.slot +
    (if (i.slot st.slot).kind = kIndexed then
       32 * ((scatterTargets c.image st.member i.d0.base).findIdx (fun t => t = (va - i.d0.base) / 16)) + 16 + (va - i.d0.base) % 16
     else cellOffset i st va)

/-- Bytes of a destination that the staged image holds together: member, slot, offset in the image, address and length; and the entries of a
scatter that hold no target. -/
def imageUnits (c : Chain) : List (Nat × Nat × Nat × Nat × Nat) × List Nat :=
  let slots := (List.range c.members.length).flatMap (fun m => [(m, 3), (m, 4)])
  let one (m no : Nat) : List (Nat × Nat × Nat × Nat × Nat) × List Nat :=
    match c.members[m]? with
    | none => ([], [])
    | some i =>
      let off := imageOffset c.members c.len m no
      let base := (i.slot no).base
      let size := slotImage i c.len no
      if size = 0 then ([], [])
      else if (i.slot no).kind = kIndexed then
        let ts := scatterTargets c.image m base
        ((List.range ts.length).map (fun k => (m, no, off + 32 * k + 16, base + 16 * (ts[k]?.getD 0), 16)),
         (List.range (c.len - ts.length)).map (fun k => off + 32 * (ts.length + k)))
      else if isMaskSlot i no ∨ isWhole i no then
        ((List.range (ceilDiv size 16)).map (fun k => (m, no, off + 16 * k, base + 16 * k, min 16 (size - 16 * k))), [])
      else
        let (step, sz) := slotStep i no
        ((List.range c.len).map (fun k => (m, no, off + k * sz, base + k * step, sz)), [])
  (slots.flatMap (fun s => (one s.1 s.2).1), slots.flatMap (fun s => (one s.1 s.2).2))

/-- A byte of a destination as an image's stores leave it, whichever destinations they name, and the bits of it that they write: destinations that
overlap then hold the same bytes, and the order in which an image is copied decides nothing (R75). -/
def imageByte (image : List Store) (va old : Nat) : Nat × Nat :=
  image.foldl (fun r st => st.cells.foldl (fun r k => if k.va = va then ((r.1 &&& (255 - k.m)) ||| (k.b &&& k.m), r.2 ||| k.m) else r) r) (old, 0)

namespace Device

/-! ## Reading for the Sower -/

/-- What the Sower's read of an instruction or a modulus entry gives. -/
inductive SRead where
  | ok (v : Nat) | fault (cause va : Nat) | fail (status : Nat) | wait

/-- A program read through the channel's translation (R36, Table 10-5). -/
def sowerRead (d : Device) (ch va n : Nat) : SRead × Device :=
  let away : Bool := (d.chan ch).origin.isSome
  match d.xlate (entSpace (d.entry ch)) va .program { user := true, seRefused := true } away with
  | (.wait, d) => (.wait, d)
  | (.lost, d) => (.fail stMemoryLost, d)
  | (.cause c, d) => (.fault c va, d)
  | (.pa a _, d) =>
    let a := d.ownPa a
    if d.awayLost ch a then (.fail stMemoryLost, d)
    else if d.inReserved a n then (.fail stFenceViolation, d)
    else
      match d.readFor 2 a n with
      | (.ok v, d) => (.ok v, d)
      | (.wait, d) => (.wait, d)
      | (.poison, d) => (.fail stPoison, d)
      | (_, d) => (.fail stMemoryLost, d)

/-- How collecting a chain's members ends. -/
inductive Fetch where
  | ok (ms : List SInstr) (runsOut : Bool) | fault (cause va idx : Nat) | fail (status idx : Nat) (detail : Nat := 0) | wait

/-- The values of an instruction's 1,024 bits. -/
def sownLimit : Nat := 2 ^ 256 * 2 ^ 256 * (2 ^ 256 * 2 ^ 256)

/-- The place of a sown instruction whose SOW could not copy it, in the list of those that wait: the failure it is to be refused with, above every
instruction's value (R335, R336). -/
def sownStop (status detail : Nat) : Nat := sownLimit + status % 256 + detail % 256 * 2 ^ 8

/-- Members of the chain that begins at an index: to the first with CHAIN = 0, the program's end, or one past eight. Each instruction is read whole,
as memory stands at its issue; R36 allows older bytes of either 64-byte half where the program is changed meanwhile (DESIGN CHOICE, log entry
99). -/
def fetchMembers (d : Device) (j : Job) : Nat → Nat → List SInstr → Fetch × Device
  | 0, _, ms => (.ok ms false, d)
  | fuel + 1, idx, ms =>
    let next (d : Device) (v : Nat) : Fetch × Device :=
      let i := SInstr.ofNat v
      if i.chain then fetchMembers d j fuel (idx + 1) (ms ++ [i]) else (.ok (ms ++ [i]) false, d)
    if dsKind j.desc = 1 then
      match j.sown[idx - j.next]? with
      | some v => if v ≥ sownLimit then (.fail (field v 0 8) idx (field v 8 8), d) else next d v
      | none => if j.sownOpen ∨ ms = [] then (.wait, d) else (.ok ms true, d)
    else if idx ≥ dsCount j.desc then (.ok ms true, d)
    else
      match d.sowerRead j.ch (dsProgram j.desc + idx * 128) 128 with
      | (.ok v, d) => next d v
      | (.fault c va, d) => (.fault c va idx, d)
      | (.fail s, d) => (.fail s idx, d)
      | (.wait, d) => (.wait, d)

/-- R56: whether a modulus entry is usable by a lane width. -/
def modUsable (v width : Nat) : Bool :=
  let q := field v 0 128
  let w := 128 / 2 ^ width
  field v 136 1 = 1 && field v 128 3 = width && field v 128 3 ≤ 4 && field v 131 5 = 0 && field v 137 119 = 0 &&
  q % 2 = 1 && q ≥ 3 && q < 2 ^ w

/-- The modulus entries that members need and the job has not read (R57), read in order up to the first that is not usable, which refuses its member
before a later one's entry is read (R86); the member that faults, if one does. -/
def readMods (d : Device) (j : Job) (base : Nat) : List SInstr → Nat → Map Nat → Option (Fetch) × Map Nat × Device
  | [], _, mods => (none, mods, d)
  | i :: rest, k, mods =>
    let tab := entModtab (d.entry j.ch)
    let on (d : Device) (mods : Map Nat) (v : Nat) : Option (Fetch) × Map Nat × Device :=
      if modUsable v i.width then readMods d j base rest (k + 1) mods else (none, mods, d)
    if ¬ (opRow i.opcode).modular then readMods d j base rest (k + 1) mods
    else if tab = 0 then (none, mods, d)
    else
      match mods.find? i.modidx with
      | some v => on d mods v
      | none =>
      match d.sowerRead j.ch (tab + 32 * i.modidx) 32 with
      | (.ok v, d) => on d (mods.set i.modidx v) v
      | (.fault c va, d) => (some (.fault c va (base + k)), mods, d)
      | (.fail s, d) => (some (.fail s (base + k)), mods, d)
      | (.wait, d) => (some .wait, mods, d)

/-! ## Failures of jobs -/

/-- A failure fixes a STREAM or COPY/FILL job's status; in a CONTROL job it is the sown failure, and its strips go (R336). -/
def failJob (d : Device) (tag : Nat) (f : Fail) : Device :=
  match d.job? tag with
  | none => d
  | some j =>
    if dsKind j.desc = 1 then
      if j.sownFail.isSome then d
      else (d.dropStrips (fun t => t = tag)).setJob tag { j with sownFail := some f, chains := [], sown := [], refuse := none }
    else if j.stop.isSome then d
    else d.setJob tag { j with stop := some f }

/-- R37: once every issued chain is complete, a refusal takes effect, or a program that has run out is done. -/
def settle (d : Device) (tag : Nat) : Device :=
  match d.job? tag with
  | none => d
  | some j =>
    if j.chains ≠ [] then d
    else
      match j.refuse with
      | some f => d.failJob tag f
      | none => if dsKind j.desc = 0 ∧ j.next ≥ dsCount j.desc ∧ j.faults = [] then d.setJob tag { j with workDone := true } else d

/-- No further instruction of the job issues: it fails so once the earlier ones are complete (R37). -/
def refuseAt (d : Device) (tag : Nat) (f : Fail) : Device :=
  (d.upJob tag (fun j => { j with refuse := some f })).settle tag

/-- A translation fault of the Sower's own accesses: parked with an entry, or the job's failure (R71, Table 10-6). -/
def sowerFault (d : Device) (tag cause va instr element : Nat) (acc : Access) (place : FaultAt) : Device :=
  match d.job? tag with
  | none => d
  | some j =>
    let f : Fail := { status := causeStatus cause, detail := cause, instr := instr, element := element }
    if parkCause cause ∧ ¬ entFailOnFault (d.gov j) then
      d.raiseFault tag { cause := cause, access := accessCode acc, instr := instr, element := element, addr := va, place := place }
    else if place = .program then d.refuseAt tag f
    else d.failJob tag f

/-! ## Replay safety (R262, R263) -/

/-- First offending destination of a chain: member and slot; SCATTER_ADD offends at D0. -/
def offender (ms : List SInstr) (guarded : List (Nat × Nat)) : Option (Nat × Nat) :=
  let rec go : List SInstr → Nat → Option (Nat × Nat)
    | [], _ => none
    | i :: rest, k =>
      if i.opcode = 0x52 then some (k, 3)
      else
        match [3, 4].find? (fun no => match slotHull i no 0 i.length with
            | some h => guarded.any (meets h)
            | none => false) with
        | some no => some (k, no)
        | none => go rest (k + 1)
  go ms 0

/-- Hulls a job's destinations may not meet: sources so far and of this chain, the program, the modulus entries used. -/
def guardedHulls (d : Device) (j : Job) (mods : Map Nat) (ms : List SInstr) (l : Nat) : List (Nat × Nat) :=
  let prog := if dsKind j.desc = 0 ∧ dsCount j.desc ≠ 0 then [(dsProgram j.desc, dsProgram j.desc + dsCount j.desc * 128 - 1)] else []
  let tab := entModtab (d.entry j.ch)
  j.hulls ++ loadHulls ms 0 l ++ prog ++ mods.map (fun e => (tab + 32 * e.1, tab + 32 * e.1 + 31))

/-! ## Journal (R266) -/

/-- Place number of a channel's journal: 0 the near journal, n + 1 the far journal of channel n; and its units of 64 KiB. -/
def journalPlace (d : Device) (ch : Nat) : Nat × Nat :=
  let e := d.entry ch
  if hasFar e then (ch + 1, (2 ^ farRegionLog2 e - 4096 - 2 ^ farRecLog2 e * 128) / 65536)
  else (0, d.fld 3 0 0x040 0 8 * 4096)

/-- Start of a free run of units, in a circle. -/
def journalFit (d : Device) (place total n : Nat) : Option Nat :=
  let s := d.ledger.nextUnit.get 0 place
  let s := if s + n > total then 0 else s
  if d.ledger.extents.any (fun x => x.1 = place && x.2.2.1 < s + n && s < x.2.2.1 + x.2.2.2) then none else some s

/-- An extent of `n` units taken for a job's staged stores under a JCHAIN, with step 4 owed; none if it does not fit yet. -/
def takeUnits (d : Device) (tag n chain : Nat) : Option Device :=
  match d.job? tag with
  | none => none
  | some j =>
    let (place, total) := d.journalPlace j.ch
    (d.journalFit place total n).map (fun s =>
      let d := { d with ledger := { d.ledger with extents := d.ledger.extents ++ [(place, tag, s, n)],
                                                  nextUnit := d.ledger.nextUnit.set place (s + n) } }
      d.oweLedger tag 4 chain s)

/-- The extent of a job's journaled chain taken, with step 4 owed; none if it does not fit yet. -/
def takeExtent (d : Device) (tag : Nat) (c : Chain) : Option Device :=
  d.takeUnits tag (ceilDiv (imageBytes c.members c.len) 65536) (c.first % 65536)

/-- Whether a job's journaled chain has its extent. -/
def hasExtent (d : Device) (tag : Nat) : Bool := d.ledger.extents.any (fun x => x.2.1 = tag)

/-! ## Strip size (R160) -/

/-- Halving while above 256 and a test holds (R160). -/
def halveWhile (p : Nat → Bool) : Nat → Nat → Nat
  | 0, s => s
  | k + 1, s => if s > 256 ∧ p s then halveWhile p k (s / 2) else s

/-- R160, steps 1 and 2: the strip size of a chain that issues under an entry, held or not. -/
def baseSize (d : Device) (e l : Nat) : Nat :=
  let s := if entStripLog2 e = 0 then d.fld 2 0 0x048 0 17 else 2 ^ entStripLog2 e
  if d.fld 2 0 0x048 24 1 = 1 then halveWhile (fun s => ceilDiv l s < d.serving.length) 16 s else s

/-- R160, step 3: the strip size of a chain whose strips are held. -/
def heldSize (paired : Bool) (ms : List SInstr) (s : Nat) : Nat :=
  if paired then halveWhile (fun s => s * storeBits ms > 8 * 32768) 16 s else s

/-! ## Issue (R37, R86) -/

/-- Status of a failing step of Table 3-3. -/
def stepStatus (st : Nat) : Nat := if st = 7 then stRejectRange else if st = 6 ∨ st = 8 then stRejectBound else stRejectFormat

/-- The chain added to the job, ordered or journaled as its footprints state. -/
def addChain (d : Device) (tag : Nat) (j : Job) (ms : List SInstr) (l : Nat) (journaled : Bool) : Device :=
  let e := d.gov j
  let base := d.baseSize e l
  let c : Chain := { first := j.next, members := ms, size := heldSize (d.effPaired e) ms base, base := base, ordered := isOrdered ms l
                     journaled := journaled }
  let d := d.setJob tag { j with
    next := j.next + ms.length, chains := j.chains ++ [c], hulls := j.hulls ++ loadHulls ms 0 l
    sown := j.sown.drop (if dsKind j.desc = 1 then ms.length else 0) }
  let d := if c.ordered then d.count 2 0 0x088 else d
  if journaled then
    match d.takeExtent tag c with
    | some d => d
    | none => d.count 3 0 0x0A0
  else d

/-- Journal base of a channel (R266). -/
def journalBase (d : Device) (ch : Nat) : Nat :=
  let e := d.entry ch
  if hasFar e then farBase e + 0x1000 + 2 ^ farRecLog2 e * 128 else 0x47F8000000 - d.fld 3 0 0x040 0 8 * 0x10000000

/-- The stores that an image in the journal stands for, read back by element and, within one, by member and destination (R265, R133); every byte of
an element counts as written, and scatter entries out of the window are passed over (log entry 28). A packed or final destination goes by the
16-byte units of its own elements (R557). -/
def readImage (d : Device) (ch joff : Nat) (ms : List SInstr) (l : Nat) : List Store :=
  let base := windowBase + d.journalBase ch + joff * 65536
  let byte (a : Nat) : Nat := (d.mem.byte a).toNat
  let cells (va a n : Nat) : List SCell := (List.range n).map (fun k => { va := va + k, pa := va + k, b := byte (a + k) })
  let one (e mi no : Nat) (i : SInstr) : List Store :=
    let s := i.slot no
    let size := slotImage i l no
    let off := base + imageOffset ms l mi no
    let st (e : Nat) (cs : List SCell) : List Store := [{ member := mi, slot := no, element := e, cells := cs }]
    if size = 0 then []
    else if s.kind = kIndexed then
      let t := d.mem.readLE (off + 32 * e) 16
      if t < (s.limit + 1 - s.base) / 16 then st e (cells (s.base + 16 * t) (off + 32 * e + 16) 16) else []
    else if isWhole i no then
      -- a packed stream's unit counts by its place, a final write belongs to no element (R555)
      if i.opcode = 0x45 ∧ no = 3 then (if 16 * e < size then st e (cells (s.base + 16 * e) (off + 16 * e) (min 16 (size - 16 * e))) else [])
      else if e + 1 = l then (List.range (ceilDiv size 16)).flatMap (fun k => st l (cells (s.base + 16 * k) (off + 16 * k) (min 16 (size - 16 * k))))
      else []
    else if isMaskSlot i no then
      let lo := e * i.lanes
      let pad := if e + 1 = l then (8 - (lo + i.lanes) % 8) % 8 else 0
      st e ((span (lo / 8) (ceilDiv (lo + i.lanes) 8 - lo / 8)).map (fun k =>
        { va := s.base + k, pa := s.base + k, b := byte (off + k)
          m := ((2 ^ (i.lanes + pad) - 1) * 2 ^ lo / 2 ^ (8 * k)) % 256 }))
    else
      let (step, sz) := slotStep i no
      st e (cells (s.base + e * step) (off + e * sz) sz)
  (List.range l).flatMap (fun e => (List.range ms.length).flatMap (fun mi =>
    match ms[mi]? with
    | none => []
    | some i => one e mi 3 i ++ one e mi 4 i))

/-- Recovery's start (R269): a chain before the resume point is passed over, its sources kept for R262. -/
def skipChain (d : Device) (tag : Nat) (j : Job) (ms : List SInstr) (l : Nat) : Device :=
  (d.setJob tag { j with next := j.next + ms.length, hulls := j.hulls ++ loadHulls ms 0 l
                         sown := j.sown.drop (if dsKind j.desc = 1 then ms.length else 0) }).settle tag

/-- Recovery's redone commit (R269): the chain stands as it did at step 5, all of its image still to be copied. -/
def redoChain (d : Device) (tag : Nat) (j : Job) (ms : List SInstr) (l : Nat) : Device :=
  let image := match d.ledger.images.find? (fun x => x.1 = j.ch && x.2.1 = j.joff) with
    | some x => x.2.2.image
    | none => d.readImage j.ch j.joff ms l
  let c : Chain := { first := j.next, members := ms, size := l, base := l, journaled := true, joff := j.joff, nextDeal := l, committed := l
                     finalMade := true, image := image, commitLeft := some image }
  let n := ceilDiv (imageBytes ms l) 65536
  let d := d.setJob tag { j with
    next := j.next + ms.length, chains := j.chains ++ [c], hulls := j.hulls ++ loadHulls ms 0 l, redo := false
    sown := j.sown.drop (if dsKind j.desc = 1 then ms.length else 0) }
  if d.hasExtent tag then d
  else { d with ledger := { d.ledger with extents := d.ledger.extents ++ [((d.journalPlace j.ch).1, tag, j.joff, n)] } }

/-- The chain at the job's next index checked and issued, or refused. -/
def issueChain (d : Device) (tag : Nat) (j : Job) (ms : List SInstr) (runsOut : Bool) : Device :=
  let top := spaceTop (entDepth (d.entry j.ch))
  let first := checkChain top (fun _ => true) runsOut [] ms
  let upto := match first with
    | some f => if f.step > 5 then f.member + 1 else f.member
    | none => ms.length
  match d.readMods j j.next (ms.take upto) 0 j.mods with
  | (some (.fault c va idx), mods, d) => (d.setJob tag { j with mods := mods }).sowerFault tag c va (idx % 65536) 0 .program .program
  | (some (.fail s idx _), mods, d) => (d.setJob tag { j with mods := mods }).refuseAt tag { status := s, instr := idx % 65536 }
  | (some _, mods, d) => d.setJob tag { j with mods := mods }
  | (none, mods, d) =>
    let j := { j with mods := mods }
    let d := d.setJob tag j
    let modOk (i : SInstr) : Bool := match mods.find? i.modidx with
      | some v => modUsable v i.width
      | none => false
    match checkChain top modOk runsOut [] ms with
    | some f => d.refuseAt tag { status := stepStatus f.step, detail := f.detail, instr := (j.next + f.member) % 65536 }
    | none =>
      let l := match ms with
        | i :: _ => i.length
        | [] => 0
      if l = 0 then
        (d.setJob tag { j with next := j.next + ms.length, sown := j.sown.drop (if dsKind j.desc = 1 then ms.length else 0) }).settle tag
      else if j.next < j.resume ∨ (j.next = j.resume ∧ j.skipAt) then d.skipChain tag j ms l
      else if j.next = j.resume ∧ j.redo then d.redoChain tag j ms l
      else
        match offender ms (d.guardedHulls j mods ms l) with
        | none => d.addChain tag j ms l false
        | some (m, slot) =>
          if ¬ entJournaled (d.entry j.ch) then
            d.refuseAt tag { status := stRejectReplay, detail := 0x90 + slot, instr := (j.next + m) % 65536 }
          else if ceilDiv (imageBytes ms l) 65536 > (d.journalPlace j.ch).2 then
            d.refuseAt tag { status := stRejectReplay, detail := 0x9F, instr := (j.next + m) % 65536 }
          else if j.chains = [] then d.addChain tag j ms l true
          else d

/-- Chains of a job from its oldest with a strip not committed: the oldest uncommitted chain and those issued ahead of it (R159). -/
def aheadOf (chains : List Chain) : List Chain := chains.dropWhile (fun c => c.len ≤ c.committed)

/-- R37, R159, R264: one issue step of a job. -/
def issue (d : Device) (tag : Nat) : Device :=
  match d.job? tag with
  | none => d
  | some j =>
    if (d.chan j.ch).st.live ∧ (j.st = .running ∨ j.st = .parked) ∧ j.startedDurable ∧ j.refuse.isNone ∧ j.stop.isNone ∧
        j.sownFail.isNone ∧ ¬ d.stoodDown ∧ (aheadOf j.chains).length ≤ 8 ∧ j.chains.all (fun c => ¬ c.journaled) ∧
        j.faults.all (fun f => f.place ≠ .program) ∧
        ((dsKind j.desc = 0 ∧ j.next < dsCount j.desc) ∨ (dsKind j.desc = 1 ∧ j.sown ≠ [])) then
      match d.fetchMembers j 9 j.next [] with
      | (.ok ms runsOut, d) => d.issueChain tag j ms runsOut
      | (.fault c va idx, d) => d.sowerFault tag c va (idx % 65536) 0 .program .program
      | (.fail s idx x, d) => d.refuseAt tag { status := s, detail := x, instr := idx % 65536 }
      | (.wait, d) => d
    else d

/-- JOURNAL_SPACE_FREE: a chain that waited gets its extent (R266). -/
def journalSpace (d : Device) (tag : Nat) : Device :=
  match d.job? tag with
  | none => d
  | some j =>
    match j.chains with
    | c :: _ => if c.journaled ∧ ¬ d.hasExtent tag then (d.takeExtent tag c).getD d else d
    | [] => d

/-! ## Dealing (R164 to R167, R174, R175) -/

/-- A chain of a job replaced. -/
def upChain (d : Device) (tag first : Nat) (f : Chain → Chain) : Device :=
  d.upJob tag (fun j => { j with chains := j.chains.map (fun c => if c.first = first then f c else c) })

def chainOf (d : Device) (tag first : Nat) : Option Chain :=
  match d.job? tag with
  | some j => j.chains.find? (fun c => c.first = first)
  | none => none

/-- Ranges of a COPY's source and of a COPY/FILL's destination (R233). -/
def copySrc (b : Job) : List (Nat × Nat) :=
  if dsFill b.desc ∨ dsBytes b.desc = 0 then [] else [(dsProgram b.desc, dsProgram b.desc + dsBytes b.desc - 1)]
def copyDst (b : Job) : List (Nat × Nat) := if dsBytes b.desc = 0 then [] else [(dsDst b.desc, dsDst b.desc + dsBytes b.desc - 1)]

/-- R233, R251: whether loads and stores of a job wait for an earlier job of its channel: for its overlapping strips or ranges, and, where it is
over, for its step 7 before its sources may change. -/
def jobWaits (d : Device) (j : Job) (l s : List (Nat × Nat)) : Bool :=
  ((d.earlier j.ch j.seq).map (·.2)).any (fun b =>
    let src := if dsKind b.desc = 2 then copySrc b else b.hulls
    if b.over then !b.counts && anyMeet src s
    else
      match dsKind b.desc with
      | 0 => b.next < dsCount b.desc || b.refuse.isSome || b.chains.any (fun k => waitsOn k l s) || anyMeet src s
      | 2 => anyMeet (copyDst b) l || anyMeet (copyDst b) s || anyMeet src s
      | _ => false)

/-- R171, R233, R251: whether a strip of a chain must wait for earlier chains of the job or earlier jobs of the channel. -/
def mustWait (d : Device) (j : Job) (c : Chain) (f n : Nat) : Bool :=
  let (f, n) := c.waitRange f n
  (j.chains.filter (fun k => k.first < c.first)).any (fun k => waitsFor k c.members f n) ||
  d.jobWaits j (loadHulls c.members f n) (storeHulls c.members f n)

/-- The next strip of a chain that may be dealt: a remainder or a withdrawn ticket first, else the strip at nextDeal. -/
inductive Ready where
  | again (t : Ticket) (how : Redeal)
  | fresh (f n : Nat)
  deriving DecidableEq, Repr

/-- Whether a strip's fault is still open, so that it stays parked (Table 5-8 step 3). -/
def stillParked (j : Job) (first strip : Nat) : Bool := j.faults.any (fun f => f.place = .strip first strip)

/-- Whether a ticket that is dealt again may be dealt now: its fault is resolved, it lies within 16,384 strips of the lowest that is not committed
(R167), and a strip of a serial chain follows those before it. -/
def mayRedeal (j : Job) (c : Chain) (t : Ticket) : Bool :=
  !stillParked j c.first t.strip && decide (t.strip ≤ c.committed + 16384 * c.size) &&
  (!isSerial c || !(c.open_.any (fun o => o.1 < t.strip)) && !(c.redeal.any (fun r => r.1.strip < t.strip)))

/-- Whether a chain's last member folds (R68). -/
def isReduce (c : Chain) : Bool := c.members.any (fun i => i.opcode = 0x60)

/-- Entries of the combine unit that partials hold or open strips have reserved (R173). -/
def partials (d : Device) : Nat :=
  d.jobs.foldl (fun n e => n + (e.2.chains.filter isReduce).foldl (fun m c => m + c.open_.length + c.nodes.length) 0) 0

/-- Whether a journaled chain's step 4 is durable and its extent dealt, so that its staged writes may begin (R250, R264). -/
def stagingReady (d : Device) (j : Job) (c : Chain) : Bool :=
  decide (j.jphase = .staging) && decide (j.jchain = c.first % 65536) &&
  (d.jobsOf j.ch).any (fun e => decide (e.2.seq = j.seq) && d.hasExtent e.1 &&
    !((d.chan j.ch).ledgerQ.any (fun w => decide (w.tag = e.1) && decide (w.step = 4))))

def readyIn (d : Device) (j : Job) (c : Chain) : Option Ready :=
  match argmin (fun r => r.1.first) (c.redeal.filter (fun r => mayRedeal j c r.1)) with
  | some (t, how) => some (.again t how)
  | none =>
    let n := min (c.nextDeal + c.size - c.nextDeal % c.size) c.len - c.nextDeal
    if c.nextDeal < c.len ∧ (¬ isSerial c ∨ (c.open_ = [] ∧ c.redeal = [] ∧ c.ready.all (fun s => s.fail.isNone))) ∧
        c.nextDeal ≤ c.committed + 16384 * c.size ∧ (¬ isReduce c ∨ d.partials < 32768) ∧
        (¬ c.journaled ∨ d.stagingReady j c) ∧ ¬ d.mustWait j c c.nextDeal n then
      some (.fresh c.nextDeal n)
    else none

/-- First chain of a job with a ready strip. -/
def readyOf (d : Device) (j : Job) : List Chain → Option (Chain × Ready)
  | [] => none
  | c :: cs =>
    match d.readyIn j c with
    | some r => some (c, r)
    | none => readyOf d j cs

/-- Whether a job's strips may be dealt at all. -/
def dealable (d : Device) (j : Job) : Bool :=
  (d.chan j.ch).st.live && (j.st = .running || j.st = .parked) && j.startedDurable && j.stop.isNone && j.sownFail.isNone && !d.stoodDown

/-- The ready strip of a channel: its oldest job first; a fresh strip needs budget (R175). -/
def readyChan (d : Device) (ch : Nat) : Option (Nat × Chain × Ready) :=
  let c := d.chan ch
  let budget : Bool := c.quota = 0 || c.budget > 0
  let cand := (d.jobsOf ch).filterMap (fun e =>
    if d.dealable e.2 then
      match d.readyOf e.2 e.2.chains with
      | some (k, .fresh f n) => if budget then some (e.2.seq, e.1, k, Ready.fresh f n) else none
      | some (k, r) => some (e.2.seq, e.1, k, r)
      | none => none
    else none)
  (argmin (fun x => x.1) cand).map (fun x => (x.2.1, x.2.2.1, x.2.2.2))

/-- R175: the channel whose turn it is: the current one while it has credit, else the next with a ready strip. -/
def drrPick (d : Device) : Option (Nat × (Nat × Chain × Ready)) :=
  let ready := d.chans.filterMap (fun e => (d.readyChan e.1).map (fun r => (e.1, r)))
  match (if d.sower.drrCredit > 0 then ready.find? (fun r => r.1 = d.sower.drrCh) else none) with
  | some r => some r
  | none =>
    match ready.find? (fun r => r.1 > d.sower.drrCh) with
    | some r => some r
    | none => ready.head?

/-- The turn taken by a channel. -/
def drrTake (d : Device) (ch : Nat) : Device :=
  if ch = d.sower.drrCh ∧ d.sower.drrCredit > 0 then { d with sower := { d.sower with drrCredit := d.sower.drrCredit - 1 } }
  else { d with sower := { d.sower with drrCh := ch, drrCredit := entWeight (d.entry ch) - 1 } }

/-- Die of a module physical address: that of its stack or bank; none elsewhere. -/
def dieOfPa (pa : Nat) : Option Nat :=
  match regionOf pa with
  | .hbm => some ((hbmPlace pa).1 / 4)
  | .granary => some ((grnPlace pa).1 / 128)
  | _ => none

/-- The address whose page gives a strip its home die: the first byte of its first DENSE or STRIDED operand (R164). -/
def homeVa (ms : List SInstr) (f : Nat) : Option Nat :=
  (ms.flatMap (fun i => [0, 1, 2, 3, 4].filterMap (fun no =>
    let k := (i.slot no).kind
    if (k = kDense ∨ k = kStrided) ∧ (no ≥ 3 ∨ no < i.nsrc) then (slotHull i no f 1).map (·.1) else none))).head?

/-- The Sower's lookup for dealing a strip, counted; a miss starts no walk (R164, R554). -/
def homeLookup (d : Device) (ch : Nat) (ms : List SInstr) (f : Nat) : Device :=
  match homeVa ms f with
  | none => d
  | some va =>
    let d := d.count 5 0 0x0C0
    match d.tlbFind false (entSpace (d.entry ch)).asid va [0, 1, 2] with
    | some (_, d) => d
    | none => d.count 5 0 0x0C8

/-- R164: home die of a strip. The first byte of a strip in the packed operand of EXPAND (S0) or COMPRESS (D0), which depends on the masks
of the elements below it, is taken as the window's base (DESIGN CHOICE, log entry 87). -/
def homeDie (d : Device) (ch : Nat) (ms : List SInstr) (f size : Nat) : Nat :=
  let fallback := f / size % 2
  match homeVa ms f with
  | none => fallback
  | some va =>
    match d.tlbFind false (entSpace (d.entry ch)).asid va [0, 1, 2] with
    | some (e, _) => (dieOfPa (e.at va)).getD fallback
    | none => fallback

/-- R165: the croft with room on a die among those allowed: least-loaded hamlet, then least-loaded croft. -/
def leastLoaded (d : Device) (cs : List Nat) : Option Nat :=
  let room := cs.filter (fun n => (d.croft n).deque.length < 32)
  let load (h : Nat) : Nat := (d.serving.filter (fun n => hamletOf n = h)).foldl (fun s n => s + (d.croft n).deque.length) 0
  argmin (fun n => (load (hamletOf n) * 16 + hamletOf n) * 2 ^ 20 + (d.croft n).deque.length * 512 + n) room

/-- R165: the croft with room among those allowed, of the home die first. -/
def homeFirst (d : Device) (home : Nat) (cs : List Nat) : Option Nat :=
  (d.leastLoaded (cs.filter (fun n => dieOf n = home))).orElse (fun _ => d.leastLoaded (cs.filter (fun n => dieOf n ≠ home)))

/-- The crofts of a nonempty list of ranks that come first from a rank on, wrapping. -/
def fromRank (cs : List Nat) (r : Nat) : List Nat := cs.drop (r % cs.length) ++ cs.take (r % cs.length)

/-- First nonempty list. -/
def firstTier : List (List Nat) → List Nat
  | [] => []
  | cs :: rest => if cs = [] then firstTier rest else cs

/-- R170: the least-loaded croft with room among those allowed. -/
def leastCroft (d : Device) (cs : List Nat) : Option Nat :=
  argmin (fun n => (d.croft n).deque.length * 512 + n) (cs.filter (fun n => (d.croft n).deque.length < 32))

/-- Crofts that may take the remainder of a strip whose croft failed, those of another hamlet before those of its own and those before the
failed croft itself, once it is in service again (R145). -/
def afterFailure (cs : List Nat) : Option Nat → List Nat
  | some a => firstTier [cs.filter (fun n => hamletOf n ≠ hamletOf a), cs.filter (fun n => n ≠ a), cs]
  | none => cs

/-- The croft whose failure a ticket is dealt again after, now or before it was withdrawn (R127, R145). -/
def shunned (t : Ticket) : Redeal → Option Nat
  | .avoid a => some a
  | _ => t.shun

/-- R145, R165, R166, R170, R182: the croft for a ticket; `notIn` are hamlets that a copy may not use. None where the Sower waits for a croft
in service, or for room. A withdrawn ticket that is both ORDERED and NONE goes as a NONE ticket does (DESIGN CHOICE, log entry 111). -/
def chooseCroft (d : Device) (t : Ticket) (size : Nat) (how : Redeal) (notIn : List Nat) : Option Nat :=
  let all := d.serving
  let may := all.filter (fun n => !(notIn.contains (hamletOf n)))
  let bad := shunned t how
  if t.glean = 2 then
    let c := all.length
    let strip := t.strip / size
    let ranked := match how, bad with
      | .next n, _ => all.filter (fun k => n < k) ++ all.filter (fun k => k ≤ n)
      | _, some _ => fromRank all (strip + 1)
      | _, none => fromRank all (strip + (if t.copyB then c / 2 else 0))
    -- the croft named is waited for where its deque is full (R166)
    ((afterFailure (ranked.filter (fun n => may.contains n)) bad).head?).filter (fun n => (d.croft n).deque.length < 32)
  else
    match how with
    | .next n => if t.ordered then d.leastCroft (afterFailure (may.filter (fun k => dieOf k = dieOf n)) bad) else d.homeFirst t.home (afterFailure may bad)
    | _ => d.homeFirst t.home (afterFailure may bad)

/-- A ticket joined to a croft's deque and traced. -/
def putTicket (d : Device) (n : Nat) (t : Ticket) : Device :=
  let t := { t with dealt := d.bellNow }
  (d.upCroft n (fun c => { c with deque := c.deque ++ [t] })).captureTicket 1 n t

/-- Whether a chain's held strips need an overflow slot (R139). -/
def needsSlot (c : Chain) : Bool := storeBits c.members * 256 > 8 * 65536

/-- Crofts and hamlets that hold a strip's copies, queued or active. -/
def hamletsOf (d : Device) (tag first strip : Nat) : List Nat :=
  d.crofts.filterMap (fun (e : Nat × Croft) =>
    if e.2.deque.any (fun t => t.job = tag ∧ t.instr = first ∧ t.strip = strip) ∨
       e.2.strips.any (fun s => s.tk.job = tag ∧ s.tk.instr = first ∧ s.tk.strip = strip) then some (hamletOf e.1) else none)

/-- The state a strip of a chain begins with: that of the strip before it, where the chain hands state on. -/
def startState (c : Chain) : Check := if isSerial c then { c.carry with flags := 0, nodes := [] } else {}

/-- Where an ordered chain's strip goes (R161, R184): the croft that ran its first segment, while that has not been reset; none before it has
run one. -/
def stickyCroft (d : Device) (c : Chain) (home : Option (Nat × Nat)) : Option Nat :=
  if c.ordered then (home.filter (fun h => (d.croft h.1).gen = h.2 ∧ (d.serving.contains h.1))).map (·.1) else none

/-- A croft for a copy: the sticky one, waited for while its deque is full, else one chosen. -/
def stickyOr (d : Device) (sticky : Option Nat) (t : Ticket) (size : Nat) (how : Redeal) (notIn : List Nat) : Option Nat :=
  match sticky with
  | some n => if (d.croft n).deque.length < 32 then some n else none
  | none => d.chooseCroft t size how notIn

/-- The entry that governs a job of a channel, by tag. -/
def govOf (d : Device) (ch tag : Nat) : Nat :=
  match d.job? tag with
  | some j => d.gov j
  | none => d.entry ch

/-- The ticket of a strip of a chain, or of what is left of one from its checkpoint, under the modes in force (R163). -/
def freshTicket (d : Device) (ch e tag : Nat) (c : Chain) (first count strip : Nat) (ck : Check) (redealt : Bool) : Ticket :=
  { job := tag, channel := ch, instr := c.first, members := c.members.length, ordered := c.ordered, held := d.effPaired e
    paired := d.effPaired e, home := d.homeDie ch c.members strip c.size, glean := d.effGlean e, first := first, count := count
    strip := strip, redealt := redealt, ck := ck }

/-- A strip dealt whole, one ticket or two held copies under PAIRED (R165, R166, R182); none if no deque has room. -/
def dealWhole (d : Device) (t : Ticket) (c : Chain) (how : Redeal) : Option Device :=
  match d.stickyOr (d.stickyCroft c c.homeCroft) t c.size how [] with
  | none => none
  | some a =>
    let tb := { t with copyB := true, owed := [] }
    let stickyB := (d.stickyCroft c c.homeB).filter (fun b => hamletOf b ≠ hamletOf a)
    match (if t.paired then d.stickyOr stickyB tb c.size .any [hamletOf a] else some a) with
    | none => none
    | some b =>
      let home (n : Nat) : Option (Nat × Nat) := if c.ordered then some (n, (d.croft n).gen) else none
      let d := d.putTicket a t
      let d := if t.paired then d.putTicket b tb else d
      let d := if t.paired ∧ needsSlot c then { d with sower := { d.sower with overflowWait := d.sower.overflowWait ++ [(t.job, c.first, t.strip)] } } else d
      some (d.upChain t.job c.first (fun c => { c with homeCroft := home a, homeB := if t.paired then home b else none
                                                       imageBase := c.image }))

/-- A withdrawn strip cut under R160 (R178 step 2): how much of it is dealt now, and what is left of it. -/
def recut (c : Chain) (t : Ticket) : Nat × Option Ticket :=
  let n := min t.count (c.size - t.first % c.size)
  (n, if n < t.count then some { t with first := t.first + n, strip := t.first + n, count := t.count - n, ck := {}, owed := [] } else none)

/-- A remainder that is longer than the chain's strips are now: what lies below its checkpoint is a strip that is done, and the rest is a strip of its
own, which begins with the state that the checkpoint hands on (R178). -/
def splitDone (c : Chain) (t : Ticket) (how : Redeal) : Chain × Ticket :=
  if t.first = t.strip ∨ t.count ≤ c.size - t.first % c.size then (c, t)
  else
    let t' := { t with strip := t.first, ck := {} }
    ({ c with redeal := c.redeal.erase (t, how) ++ [(t', how)]
              open_ := c.open_.erase (t.strip, t.first - t.strip + t.count) ++ [(t.first, t.count)]
              ready := c.ready ++ [{ strip := t.strip, first := t.strip, count := t.first - t.strip, flags := t.ck.flags
                                     body := { t with first := t.strip, count := t.first - t.strip }.body }]
              nodes := c.nodes ++ t.ck.nodes, carry := t.ck }, t')

/-- Whether a channel has a fresh strip ready, its budget aside. -/
def hasReady (d : Device) (ch : Nat) : Bool :=
  (d.jobsOf ch).any (fun e => d.dealable e.2 && (match d.readyOf e.2 e.2.chains with
    | some (_, .fresh _ _) => true
    | _ => false))

/-- One unit of a channel's budget spent; a budget that reaches 0 with strips ready counts (R174, Table 6-7). -/
def spendBudget (d : Device) (ch : Nat) : Device :=
  if (d.chan ch).quota = 0 then d
  else
    let d := d.upChan ch (fun c => { c with budget := c.budget - 1 })
    if (d.chan ch).budget = 0 ∧ d.hasReady ch then d.count 2 0 0x098 else d

/-- SWR_REDEALT: tickets dealt again from a checkpoint or after withdrawal, `n` of them (Table 6-7). -/
def countRedealt (d : Device) (n : Nat) : Device := d.countBy 2 0 0x068 n

/-- One ticket dealt again: a remainder or a withdrawn copy as it is, a withdrawn strip that has not begun, and the rest of a strip that
goes on as a pair, anew under the modes in force. A REDUCE strip is cut in two only where the combine unit has an entry for the second (R173). -/
def dealAgain (d : Device) (ch tag : Nat) (c : Chain) (t : Ticket) (how : Redeal) : Device :=
  let e := d.govOf ch tag
  if t.redealt ∨ t.third then
    let notIn := if t.held then d.hamletsOf tag c.first t.strip else []
    let t' := { t with glean := d.effGlean e, shun := shunned t how }
    match d.chooseCroft t' c.size how notIn with
    | none => d
    | some n =>
      let d := d.putTicket n t'
      -- a third copy counts from its second deal on
      let d := if t.redealt then d.countRedealt 1 else d
      d.upChain tag c.first (fun c => { c with
        redeal := c.redeal.erase (t, how)
        homeCroft := if c.ordered ∧ ¬ t.copyB ∧ ¬ t.third then some (n, (d.croft n).gen) else c.homeCroft
        homeB := if c.ordered ∧ t.copyB then some (n, (d.croft n).gen) else c.homeB })
  else
    let (c, t) := splitDone c t how
    let (n, rest) := if t.first = t.strip then recut c t else (t.count, none)
    let ck := if t.first = t.strip then startState c else t.ck
    if rest.isSome ∧ isReduce c ∧ d.partials ≥ 32768 then d
    else
      let d := d.upChain tag c.first (fun _ => c)
      match (d.homeLookup ch c.members t.strip).dealWhole { d.freshTicket ch e tag c t.first n t.strip ck true with attempt := t.attempt, shun := shunned t how, owed := t.owed } c how with
      | none => d
      | some d =>
        (d.countRedealt (if d.effPaired e then 2 else 1)).upChain tag c.first (fun c =>
          let c := { c with redeal := c.redeal.erase (t, how) }
          match rest with
          | some r => { c with redeal := (r, how) :: c.redeal
                               open_ := c.open_.erase (t.first, t.count) ++ [(t.first, n), (r.first, r.count)] }
          | none => c)

/-- R165 to R167, R182: one deal. -/
def deal (d : Device) : Device :=
  match d.drrPick with
  | none => d
  | some (ch, tag, c, .again t how) => d.dealAgain ch tag c t how
  | some (ch, tag, c, .fresh f n) =>
    match (d.homeLookup ch c.members f).dealWhole (d.freshTicket ch (d.govOf ch tag) tag c f n f (startState c) false) c .any with
    | none => d
    | some d =>
      let d := (d.drrTake ch).count 2 0 0x060
      let d := d.upChain tag c.first (fun c => { c with nextDeal := f + n, open_ := c.open_ ++ [(f, n)] })
      d.spendBudget ch

/-- ORDERED_SEGMENT_DEAL: the deal, where its turn has come to a later segment of an ordered chain of the job, which is ready once the
segment before it is reported done (R161). -/
def dealOrdered (d : Device) (tag : Nat) : Device :=
  match d.drrPick with
  | some (_, t, c, .fresh f _) => if t = tag ∧ c.ordered ∧ 0 < f then d.deal else d
  | _ => d

/-- OVERFLOW_SLOT_FREE: a strip that waited gets a slot of the 248 (R139). -/
def grantOverflow (d : Device) : Device :=
  match d.sower.overflowWait with
  | [] => d
  | (tag, first, strip) :: rest =>
    match (List.range 248).find? (fun k => d.sower.overflow.all (fun o => o.1 / 2 ^ 32 ≠ k)) with
    | none => d
    | some k =>
      { d with sower := { d.sower with overflow := d.sower.overflow ++ [(k * 2 ^ 32 + tag, first, strip)], overflowWait := rest } }

end Device

end Sys2Proof.Machine
end

