-- ==== Sys2Proof/Machine/Crofts.lean ====
section
/-! DEFINITION. Crofts: tickets taken and gleaned, operands loaded, members checked and stored, strips done, croft resets,
hamlet faults, commit and final writes (chapters 2, 5, 6 and 17). -/
namespace Sys2Proof.Machine

/-! ## Operand slots of one member -/

/-- What a croft works on: a strip by its place on the shelf, its chain, its job, and a member of the chain, by number and fields. -/
structure Cur where
  ix : Nat
  s : Strip
  c : Chain
  j : Job
  m : Nat
  i : SInstr

/-- Residue code of an operand of one or two elements (R124): that of the low element, and that of the high one above it. -/
def codeOf (v : Nat) : Nat := residue (v % 2 ^ 128) + 128 * residue (v / 2 ^ 128 % 2 ^ 128)

/-- The load of a slot of a member for the strip's element, if it is in the operand buffers. -/
def Strip.load? (s : Strip) (m slot : Nat) : Option Load := s.loads.find? (fun l => l.member = m && l.slot = slot && l.element = s.e)

/-- A temporary's entry for the element. -/
def Strip.temp? (s : Strip) (k : Nat) : Option Temp := s.temps.find? (fun t => t.k = k)

/-- All lanes of an element. -/
def SInstr.allLanes (i : SInstr) : Nat := 2 ^ i.lanes - 1

/-- The same strip at another member of its chain. -/
def Cur.at? (x : Cur) (k : Nat) : Option Cur := (x.c.members[k]?).map (fun i => { x with m := k, i := i })

/-- The members of the chain from the current one on. -/
def Cur.views (x : Cur) : List Cur := (span x.m (x.c.members.length - x.m)).filterMap x.at?

/-- Whether a strip is a copy that takes its side-effect data from copy A (R295). -/
def Ticket.follows (t : Ticket) : Bool := t.copyB || t.third

/-- What copy A read from a side-effect page for the other copies, or what a BROADCAST read has left (R48, R295). -/
def Cur.passed (x : Cur) (no : Nat) : Option Nat :=
  if (x.i.slot no).kind = kBcastMem then x.c.bcast.find? (x.m * 8 + no)
  else ((x.c.seLoads.find? (fun l => l.1 = x.m && l.2.1 = no && l.2.2.1 = x.s.e)).map (fun l => l.2.2.2)).filter (fun _ => x.s.tk.follows)

/-- The value of a slot and its residue code, once it is in the croft. -/
def Cur.loaded (x : Cur) (no : Nat) : Option (Nat × Nat) :=
  match x.s.load? x.m no with
  | some l => some (l.val, l.code)
  | none => (x.passed no).map (fun v => (v, codeOf v))

/-- Whether the mask of the element is known (R41). -/
def Cur.maskReady (x : Cur) : Bool :=
  if x.i.km = 1 then (x.loaded 5).isSome else x.i.km ≠ 2 || (x.s.temp? x.i.m.base).isSome

/-- Bits of the mask operand for the element (R41); all ones under ALL. -/
def Cur.maskBits (x : Cur) : Nat :=
  if x.i.mmode = 0 then x.i.allLanes
  else if x.i.km = 2 then ((x.s.temp? x.i.m.base).map (·.lo)).getD 0 % 2 ^ x.i.lanes
  else ((x.loaded 5).map (·.1)).getD 0

/-- Active lanes (R42, R78): SELECT makes every lane active. -/
def Cur.active (x : Cur) : Nat := if x.i.mmode = 3 then x.i.allLanes else x.maskBits

/-- The status that the read of a slot failed with; 0 for none. -/
def Cur.badLoad (x : Cur) (no : Nat) : Nat := ((x.s.load? x.m no).map (·.bad)).getD 0

/-- Whether the index of the element is known: an element with no active lane reads none (R43). -/
def Cur.indexReady (x : Cur) : Bool :=
  match x.i.ixNo with
  | some no =>
    if (x.i.slot no).kind = kTemp then (x.s.temp? (x.i.slot no).base).isSome
    else ((x.loaded no).isSome && x.badLoad no = 0) || x.active = 0
  | none => true

/-- The index of the element (R83). -/
def Cur.index (x : Cur) : Nat :=
  match x.i.ixNo with
  | some no => (if (x.i.slot no).kind = kTemp then ((x.s.temp? (x.i.slot no).base).map (·.lo)).getD 0 else ((x.loaded no).map (·.1)).getD 0) %
      2 ^ (8 * x.i.ixBytes)
  | none => 0

/-- Elements of an INDEXED window: B of R51. -/
def windowElems (s : Slot) : Nat := (s.limit + 1 - s.base) / 16

/-- Entry that a LOCAL operand reads (R82). -/
def Cur.localIx (x : Cur) (s : Slot) : Nat := if x.i.ixNo.isSome then x.index else x.s.e % s.stride

/-- Where a slot's data for the element lie: address and size; none where nothing is read. -/
def Cur.place (x : Cur) (no : Nat) : Option (Nat × Nat) :=
  let s := x.i.slot no
  let e := x.s.e
  if no = 5 then some (s.base + e * x.i.lanes / 8, ceilDiv x.i.lanes 8)
  else if s.kind = kBcastMem then some (s.base, 16)
  else if s.kind = kIndexed then (if x.index < windowElems s then some (s.base + x.index * 16, 16) else none)
  else if s.kind = kLocal then (if x.localIx s < s.stride then some (s.base + x.localIx s * 16, 16) else none)
  else if s.kind = kDense ∨ s.kind = kStrided then
    if x.i.opcode = 0x46 ∧ no = 0 then
      let n := popcount x.i.lanes x.maskBits * (x.i.w / 8)
      if n = 0 then none else some (s.base + x.s.work.packs.get 0 x.m * (x.i.w / 8), n)
    else
      let (st, sz) := slotStep x.i no
      some (s.base + e * st, sz)
  else none

/-- Local copy of a croft for a slot, if it has one: a window and N name the table within an instruction (R135, R136). -/
def Croft.local? (c : Croft) (tag instr member slot : Nat) : Option (List LocalEntry) :=
  (c.locals.find? (fun l => l.job = tag && l.instr = instr && l.slot = member * 8 + slot)).map (·.vals)

/-- The LOCAL table of a slot in a croft. -/
def Cur.table (x : Cur) (cr : Croft) (no : Nat) : Option (List LocalEntry) := cr.local? x.s.tk.job x.c.first x.m no

/-- LOCAL operands of the member whose tables the croft has yet to copy (R136). -/
def Cur.tables (x : Cur) (cr : Croft) : List Nat := (List.range x.i.nsrc).filter (fun no => (x.i.slot no).kind = kLocal && (x.table cr no).isNone)

/-- The entry that a LOCAL operand names for the element, as the croft's copy has it. -/
def Cur.entryOf (x : Cur) (cr : Croft) (no : Nat) : Option LocalEntry := (x.table cr no).bind (fun vs => vs[x.localIx (x.i.slot no)]?)

/-- The entry of a LOCAL operand for the element: its value and code, where the table has it. -/
def Cur.localEntry (x : Cur) (cr : Croft) (no : Nat) : Option (Nat × Nat) :=
  match x.entryOf cr no with
  | some (.val v code) => some (v, code)
  | _ => none

/-- Slots that the member reads from memory for the element, as far as they are known: the mask, then the index, then the sources; an element
with no active lane reads no more than its mask (R43), and of a LOCAL table no more than an entry that its copy lacks. -/
def Cur.reads (x : Cur) (cr : Croft) : List Nat :=
  (if x.i.km = 1 then [5] else []) ++
  (if ¬ x.maskReady ∨ x.active = 0 then []
   else (x.i.ixNo.toList.filter (fun no => (x.i.slot no).kind = kDense)) ++
     (List.range x.i.nsrc).filter (fun no =>
       let k := (x.i.slot no).kind
       ((k ≠ kIndexed && (k ≠ kLocal || x.i.ixNo.isNone)) || x.indexReady) && (x.place no).isSome &&
       (k ≠ kLocal || ((x.table cr no).isSome && (x.localEntry cr no).isNone))))

/-- Whether an operand of a later member waits for a store that a member before it makes for the element (R60). -/
def Cur.clash (x y : Cur) (no : Nat) : Bool :=
  match y.place no with
  | none => false
  | some (a, n) => (x.c.members.drop x.m |>.take (y.m - x.m)).any (fun i =>
      [3, 4].any (fun k => ((slotHull i k x.s.e 1).map (fun h => meets h (a, a + n - 1))).getD false))

/-- Slots of a member still to be read for the element. -/
def Cur.lacking (x y : Cur) (cr : Croft) : List Nat := (y.reads cr).filter (fun no => (y.loaded no).isNone && !x.clash y no)

/-- First slot of the current member that is still to be read or copied. -/
def Cur.need (x : Cur) (cr : Croft) : Option Nat := (x.tables cr ++ x.lacking x cr).head?

/-- Members and slots still to be read for the element, in their order: every mask, then every index, then every source, each by member. -/
def Cur.wants (x : Cur) (cr : Croft) : List (Nat × Nat) :=
  let all := x.views.flatMap (fun y => (x.lacking y cr).map (fun no => (y, no)))
  let stage (k : Nat) : List (Nat × Nat) :=
    (all.filter (fun e => (if e.2 = 5 then 0 else if e.1.i.ixNo = some e.2 then 1 else 2) = k)).map (fun e => (e.1.m, e.2))
  stage 0 ++ stage 1 ++ stage 2

/-- LOCAL tables of the chain that the croft has yet to copy, by member and slot (R136). -/
def Cur.copies (x : Cur) (cr : Croft) : List (Nat × Nat) := x.views.flatMap (fun y => (y.tables cr).map (fun no => (y.m, no)))

/-- A source's value (low 128 bits and, for a pair, the high ones) and its residue code; an entry out of bound is zero. -/
def Cur.source (x : Cur) (cr : Croft) (no : Nat) : Nat × Nat × Nat :=
  let s := x.i.slot no
  let whole (v : Nat × Nat) : Nat × Nat × Nat := (v.1 % 2 ^ 128, v.1 / 2 ^ 128, v.2)
  if no ≥ x.i.nsrc then (0, 0, 0)
  else if s.kind = kTemp then ((x.s.temp? s.base).map (fun t => (t.lo, t.hi, t.code))).getD (0, 0, 0)
  else if s.kind = kBcastImm then (s.base + s.limit * 2 ^ 64, 0, codeOf (s.base + s.limit * 2 ^ 64))
  else if s.kind = kLocal then (if x.localIx s < s.stride then whole ((x.localEntry cr no).getD (0, 0)) else (0, 0, 0))
  else whole ((x.loaded no).getD (0, 0))

/-- A source's value. -/
def Cur.value (x : Cur) (cr : Croft) (no : Nat) : Nat × Nat := ((x.source cr no).1, (x.source cr no).2.1)

/-- The element at `k` places after the strip's. -/
def Cur.ahead (x : Cur) (k : Nat) : Cur := { x with s := { x.s with e := x.s.e + k } }

/-- Whether an earlier member of the chain stores for the element into what a slot reads of it (R60). -/
def Cur.stored (x : Cur) (no : Nat) : Bool :=
  match x.place no with
  | none => false
  | some (a, n) => (x.c.members.take x.m).any (fun i =>
      [3, 4].any (fun k => ((slotHull i k x.s.e 1).map (fun h => meets h (a, a + n - 1))).getD false))

/-- Whether the element's own read of a slot is known to be due, though the element is still to come: its mask and index are in the buffers, a
lane is active, it is not read yet, and no member before stores into it. -/
def Cur.due (x : Cur) (no : Nat) : Bool :=
  let byIndex : Bool := (x.i.slot no).kind = kIndexed
  (x.loaded no).isNone && !x.stored no &&
  (no = 5 || (x.i.km ≠ 2 && x.maskReady && x.badLoad 5 = 0 && x.active ≠ 0)) &&
  (!byIndex || (x.indexReady && (x.i.ixNo.map (fun k => decide ((x.i.slot k).kind = kDense))).getD false))

/-- Elements from the strip's on whose data for a slot one request brings, by their distance (R131): those of the strip in the same 128-byte
block. An element of an ordered chain, one of a packed operand, and a BROADCAST or LOCAL entry are requested alone; so is each stretch of
elements off the module, where no byte of an inactive element is asked for. -/
def Cur.sameBlock (x : Cur) (no : Nat) (off : Bool) : List Nat :=
  let k := (x.i.slot no).kind
  let left := x.s.tk.first + x.s.tk.count - x.s.e
  match x.place no with
  | some (a, _) =>
    if (no ≠ 5 ∧ ¬ (k = kDense ∨ k = kStrided ∨ k = kIndexed)) ∨ (x.i.opcode = 0x46 ∧ no = 0) ∨ x.c.ordered ∨ x.stored no then [0]
    else
      let near (e : Nat) : Bool := match (x.ahead e).place no with
        | some (b, n) => b / 128 = a / 128 && (b + n - 1) / 128 = a / 128 && (x.ahead e).due no
        | none => false
      let es := (List.range (min left (if k = kIndexed then 256 else if no = 5 then 1024 / x.i.lanes else 32))).drop 1
      0 :: (if off ∧ k = kIndexed then [] else if off then es.takeWhile near else es.filter near)
  | none => [0]

/-- A load of an element at a distance, with what its read gave. -/
def Cur.loadAt (x : Cur) (no e v bad : Nat) : Load :=
  let v := if no = 5 then v / 2 ^ ((x.s.e + e) * x.i.lanes % 8) % 2 ^ x.i.lanes else v
  { member := x.m, slot := no, element := x.s.e + e, val := v, code := codeOf v, bad := bad }

/-- The loads that one read of a range from `va` on brings. -/
def Cur.arrived (x : Cur) (no : Nat) (es : List Nat) (va v : Nat) : List Load :=
  es.filterMap (fun e => ((x.ahead e).place no).map (fun p => x.loadAt no e (field v (8 * (p.1 - va)) (8 * p.2)) 0))

/-- IX of the element: an INDEXED operand or a LOCAL one read by index is out of bound (R49, R51). -/
def Cur.ixFlag (x : Cur) : Nat :=
  let bad (no : Nat) : Bool :=
    let s := x.i.slot no
    x.i.ixNo.isSome && ((s.kind = kIndexed && x.index ≥ windowElems s) || (s.kind = kLocal && no < x.i.nsrc && x.index ≥ s.stride))
  if x.active ≠ 0 ∧ [0, 1, 2, 3].any bad then flagIX else 0

/-- Modulus q of the member (R95). -/
def Cur.q (x : Cur) : Nat := field (x.j.mods.get 0 x.i.modidx) 0 128

/-! ## Destinations of a result (R44, R80, R85, R99, R102) -/

/-- One piece of a result on its way to a destination: slot, address, and its bytes with the bits of each that are written. -/
structure Piece where
  slot : Nat
  va : Nat
  bytes : List (Nat × Nat)
  deriving DecidableEq, Repr

/-- The bytes of a value whose lanes of `w` bits are written where `act` says. -/
def laneBytes (w act v : Nat) (n : Nat) : List (Nat × Nat) :=
  (List.range n).map (fun k => (field v (8 * k) 8, if act.testBit (8 * (k % 16) / w) then 255 else 0))

/-- Bits of a mask destination from bit `off` of a byte, padded to the byte's end after the stream's last lane (R44). -/
def maskPieceBytes (off n : Nat) (bits wr : Nat) (last : Bool) : List (Nat × Nat) :=
  let total := ceilDiv (off + n) 8
  let pad := if last then (2 ^ (8 * total) - 1) - (2 ^ (off + n) - 1) else 0
  (List.range total).map (fun k => (field (bits * 2 ^ off) (8 * k) 8, field (wr * 2 ^ off + pad) (8 * k) 8))

/-- Where a slot's part of the result goes; none for temporaries, final writes and inactive elements. A mask destination's bits after the last
lane of the stream are written with zero even where its last element has no active lane under MERGE: R44 asks for them, and R43 speaks of
the element's own bits (DESIGN CHOICE, log entry 88). -/
def Cur.pieces (x : Cur) (r : Result) (no : Nat) : Option Piece :=
  let i := x.i
  let s := i.slot no
  let e := x.s.e
  let v := if no = 3 then r.d0 + r.hi * 2 ^ 128 else r.d1
  let wr := if i.mmode = 1 then r.active else i.allLanes
  let last : Bool := e + 1 = i.length
  if s.kind = kNone ∨ s.kind = kTemp ∨ i.opcode = 0x60 ∨ (i.opcode = 0x45 ∧ no = 4) then none
  else if i.opcode = 0x45 then
    let at_ := x.s.work.packs.get 0 x.m
    let n := r.d1 + (if last then (i.lanes - (at_ + r.d1) % i.lanes) % i.lanes else 0)
    if n = 0 then none else some { slot := no, va := s.base + at_ * (i.w / 8), bytes := laneBytes i.w i.allLanes v (n * (i.w / 8)) }
  else if s.kind = kIndexed then
    if r.active = 0 ∨ x.index ≥ windowElems s then none
    else some { slot := no, va := s.base + x.index * 16, bytes := laneBytes i.w (if i.opcode = 0x52 then i.allLanes else wr) v 16 }
  else if isMaskSlot i no then
    if wr = 0 ∧ ¬ last then none
    else
      let b := maskPieceBytes (e * i.lanes % 8) i.lanes v wr last
      if b.all (fun c => c.2 = 0) then none else some { slot := no, va := s.base + e * i.lanes / 8, bytes := b }
  else if wr = 0 then none
  else
    let (st, sz) := slotStep i no
    some { slot := no, va := s.base + e * st, bytes := laneBytes i.w wr v sz }

/-- Where a destination of the element will be written, before its value is known: a COMPRESS writes as many lanes as its mask selects. -/
def Cur.target (x : Cur) (no : Nat) : Option Piece :=
  if ¬ x.maskReady ∨ ((x.i.slot no).kind = kIndexed ∧ ¬ x.indexReady) then none
  else x.pieces { active := x.active, d1 := popcount x.i.lanes x.maskBits } no

/-! ## Pages -/

/-- A range cut where 4 KiB pages meet, as (address, bytes). -/
def pageParts (va n : Nat) : List (Nat × Nat) :=
  let k := 4096 - va % 4096
  if n ≤ k then [(va, n)] else [(va, k), (va + k, n - k)]

/-- Parts of a source's range that an active lane needs (R141); a mask, an index, a broadcast and the packed operand of EXPAND are needed
whole. -/
def Cur.neededParts (x : Cur) (no va n : Nat) : List (Nat × Nat) :=
  let byLane : Bool := no < x.i.nsrc && x.i.ixNo ≠ some no && (x.i.slot no).kind ≠ kBcastMem && !(x.i.opcode = 0x46 && no = 0)
  (pageParts va n).filter (fun p => !byLane || (List.range p.2).any (fun k => x.active.testBit (8 * ((p.1 + k - va) % 16) / x.i.w)))

/-- Parts of a destination's range that are written. -/
def Piece.parts (p : Piece) : List (Nat × Nat) :=
  (pageParts p.va p.bytes.length).filter (fun q => ((p.bytes.drop (q.1 - p.va)).take q.2).any (fun b => b.2 ≠ 0))

/-- An address that an element needs translated: by a stream context of a member and slot, for an access, with side-effect pages refused
or not. -/
structure Touch where
  m : Nat
  slot : Nat
  va : Nat
  acc : Access
  noSide : Bool
  deriving DecidableEq, Repr

/-- Access of a member's stores (Table 10-4). -/
def storeAccess (i : SInstr) : Access := if i.opcode = 0x52 then .atomic else .write

/-- Whether a slot may not lie on a side-effect page (R295): an INDEXED operand, a LOCAL table. -/
def noSideSlot (s : Slot) : Bool := s.kind = kIndexed || s.kind = kLocal

/-- What the element needs translated before it enters the pipes, as far as it is known: every source still to be read and every
destination of every member (R141, R149). -/
def Cur.touches (x : Cur) (cr : Croft) : List Touch :=
  x.views.flatMap (fun y =>
    ((y.reads cr).filter (fun no => (y.loaded no).isNone)).flatMap (fun no =>
      match y.place no with
      | some (va, n) => (y.neededParts no va n).map (fun p => { m := y.m, slot := no, va := p.1, acc := .read, noSide := noSideSlot (y.i.slot no) })
      | none => []) ++
    [3, 4].flatMap (fun no =>
      match y.target no with
      | some p => p.parts.map (fun q => { m := y.m, slot := no, va := q.1, acc := storeAccess y.i, noSide := noSideSlot (y.i.slot no) })
      | none => []))

/-! ## Overlay of a strip's own stores (R60, R134, R139, R264) -/

/-- A byte with the stores that reach it laid over it, in order: those at its address, whichever translation they were staged through (R303), and
those at its place. An entry of a staged image that an add has formed holds its sum. -/
def overlayByte (stores : List Store) (va pa b : Nat) : Nat :=
  stores.foldl (fun b s => s.cells.foldl (fun b c => if c.va = va ∨ c.pa = pa then (b &&& (255 - c.m)) ||| (c.b &&& c.m) else b) b) b

/-- `n` bytes at an address with stores laid over them. -/
def overlay (stores : List Store) (va pa : Nat) : Nat → Nat → Nat
  | 0, _ => 0
  | n + 1, v => overlayByte stores va pa (v % 256) + 256 * overlay stores (va + 1) (pa + 1) n (v / 256)

/-- Whether stores replace every bit of a poison unit (R205). -/
def replaces (stores : List Store) (u : Nat) : Bool :=
  (span u (unitSize u)).all (fun a => stores.any (fun s => s.cells.any (fun c => c.pa = a && c.m = 255)))

/-- Whether a lookup serves a strip of a croft. -/
def Lookup.serves (l : Lookup) (cr : Croft) (n : Nat) (s : Strip) : Bool :=
  l.croft = n && l.gen = cr.gen && l.job = s.tk.job && l.instr = s.tk.instr && l.first = s.tk.strip

/-- A translation of a stream context. -/
inductive CX where
  | pa (a : Nat) (se : Bool) | cause (c va : Nat) | miss | lost
  deriving DecidableEq, Repr

/-- Translation of a range: its parts as (va, pa, bytes), and whether any is side-effect. -/
inductive CXs where
  | ok (parts : List (Nat × Nat × Nat)) (se : Bool) | cause (c va : Nat) | miss | lost
  deriving DecidableEq, Repr

namespace Device

/-! ## Strips on the shelf -/

/-- The job's descriptor kind is CONTROL and the job is journaled (R267). -/
def journaledControl (d : Device) (j : Job) : Bool := dsKind j.desc = 1 && dsUnsafe j.desc && entJournaled (d.entry j.ch)

/-- A strip at a place of the shelf as its croft works on it; none where it is parked, waits for its release, or its job has stopped. -/
def curOf (d : Device) (s : Strip) (k : Nat) : Option Cur :=
  if s.parked ∨ s.waiting then none
  else
    match d.job? s.tk.job with
    | some j =>
      if j.stop.isSome ∨ j.sownFail.isSome then none
      else
        match j.chains.find? (fun c => c.first = s.tk.instr) with
        | some c =>
          let m := min s.member (c.members.length - 1)
          (c.members[m]?).map (fun i => { ix := k, s := s, c := c, j := j, m := m, i := i })
        | none => none
    | none => none

def cursFrom (d : Device) : List Strip → Nat → List Cur
  | [], _ => []
  | s :: rest, k => (d.curOf s k).toList ++ cursFrom d rest (k + 1)

/-- The strips that a croft works on, oldest first (R132). -/
def curs (d : Device) (n : Nat) : List Cur := d.cursFrom (d.croft n).strips 0

/-- The strip whose elements are in a croft's pipes: the oldest it works on. -/
def cur (d : Device) (n : Nat) : Option Cur := (d.curs n).head?

/-- A strip of a croft replaced. -/
def putStrip (d : Device) (n ix : Nat) (s : Strip) : Device := d.upCroft n (fun c => { c with strips := c.strips.set ix s })

/-- A strip as the shelf holds it now. -/
def stripOf (d : Device) (n : Nat) (x : Cur) : Strip := ((d.croft n).strips[x.ix]?).getD x.s

/-- A strip taken off a croft's shelf. -/
def dropStrip (d : Device) (n ix : Nat) : Device := d.upCroft n (fun c => { c with strips := c.strips.eraseIdx ix })

/-- A strip with nothing of its element in flight, back in the state that the element began with. -/
def clearElement (s : Strip) : Strip :=
  { s with member := 0, entered := false, loads := [], result := none, temps := [], stores := [], storing := false, work := s.base }

/-- State of a held strip as its results stand below an element (R147): that of its mark, else what it began or ended with. -/
def stateAt (s : Strip) (e : Nat) : Check :=
  ((s.marks.find? (fun m => m.1 = e)).map (·.2)).getD (if e = s.tk.first then s.tk.ck else s.work)

/-- A released strip at the first element that it has stores of still, or at its end; in a REDUCE its checkpoint stays at a block's end. -/
def toNext (reduce : Bool) (s : Strip) : Strip :=
  let e := (s.stores.head?.map (·.element)).getD (s.tk.first + s.tk.count)
  let b := if reduce ∧ e ≠ s.tk.first + s.tk.count then max s.tk.first (e / 256 * 256) else e
  { s with e := e, base := stateAt s e, ckE := b, ck := stateAt s b, entered := false }

/-- Whether a strip is still to make stores of elements below its own, which passed the Fence on a croft that was reset. -/
def owing (s : Strip) : Bool := s.storing && !s.released && s.stores.any (fun st => st.element < s.e)

/-- A strip past its element, whose stores have all been made or staged. -/
def passElement (s : Strip) : Strip :=
  if s.released then toNext false { s with stores := s.stores.filter (fun st => st.element ≠ s.e) }
  else
    { s with e := s.e + 1, ckE := s.e + 1, ck := s.work, base := s.work, member := 0, entered := false, loads := s.loads.filter (fun l => s.e < l.element)
             result := none, temps := [], stores := [], storing := false }

/-! ## Strips that end (R148 to R150, R172) -/

/-- The overflow slot of a strip freed (R139). -/
def freeSlot (d : Device) (tag first strip : Nat) : Device :=
  { d with sower := { d.sower with
      overflow := d.sower.overflow.filter (fun o => ¬ (o.1 % 2 ^ 32 = tag ∧ o.2.1 = first ∧ o.2.2 = strip))
      overflowWait := d.sower.overflowWait.filter (fun o => ¬ (o = (tag, first, strip))) } }

/-- A strip reported to its chain, done or with the failure that stopped it. -/
def reportStrip (d : Device) (n : Nat) (t : Ticket) (w : Check) (fail : Option Fail) : Device :=
  let total := t.first - t.strip + t.count
  (d.upChain t.job t.instr (fun c => { c with
    open_ := c.open_.erase (t.strip, total)
    ready := c.ready ++ [{ strip := t.strip, first := t.strip, count := total, flags := w.flags, fail := fail, croft := n, body := { t with first := t.strip, count := total }.body }]
    nodes := if fail.isNone then c.nodes ++ w.nodes else c.nodes
    held := c.held.filter (fun h => h.strip ≠ t.strip)
    carry := if fail.isNone then w else c.carry })).freeSlot t.job t.instr t.strip

/-- Copies of a strip on other shelves or in deques discarded. -/
def dropCopies (d : Device) (t : Ticket) : Device :=
  let same (u : Ticket) : Bool := u.job = t.job && u.instr = t.instr && u.strip = t.strip
  { d with crofts := d.crofts.map (fun (e : Nat × Croft) =>
      (e.1, { e.2 with deque := e.2.deque.filter (fun u => !same u), strips := e.2.strips.filter (fun s => !same s.tk) })) }

/-- What the digest of a held copy covers of its results: destination byte, slot with the bits written, and value (R182). -/
def storeDigest (staged : List Store) : List (Nat × Nat × Nat) :=
  staged.flatMap (fun s => s.cells.map (fun c => (c.va, (s.member * 8 + s.slot) * 256 + c.m, c.b &&& c.m)))

/-- A held strip's result as it is compared. -/
def heldCopy (n : Nat) (s : Strip) (ck : Check) (fail : Option Fail) : HeldCopy :=
  { strip := s.tk.strip, first := s.tk.first, start := s.tk.ck, count := s.tk.count, croft := n, copyB := s.tk.copyB, third := s.tk.third
    digest := storeDigest s.staged, ck := ck, fail := fail }

/-- State that a strip reports: one that failed reports the flags of the elements below only where a translation fault stopped it (R114). -/
def endState (w : Check) : Option Fail → Check
  | none => w
  | some f => if Fail.ofXlt f then w else { w with flags := 0 }

/-- A strip on a shelf stopped for good at the state its element began with: it leaves its croft and its failure waits for the commit order
(R148, R149). -/
def failStrip (d : Device) (n ix : Nat) (s : Strip) (f : Fail) : Device :=
  if s.tk.held ∧ ¬ s.released then
    -- a failing copy delivers its failure as its result, to be compared with the other's (R182)
    (d.putStrip n ix { clearElement s with parked := false, waiting := true, fail := some f }).upChain s.tk.job s.tk.instr
      (fun c => { c with held := c.held ++ [heldCopy n s s.base (some f)] })
  else
    ((d.dropStrip n ix).dropCopies s.tk).reportStrip n s.tk (endState s.base (some f)) (some f)

/-- The current strip of a croft stopped for good. -/
def stopStrip (d : Device) (n : Nat) (x : Cur) (f : Fail) : Device := d.failStrip n x.ix (d.stripOf n x) f

/-- Failure at the strip's current element, of a member. -/
def stopHere (d : Device) (n : Nat) (x : Cur) (status : Nat) (detail : Nat := 0) : Device :=
  d.stopStrip n x { status := status, detail := detail, instr := (x.c.first + x.m) % 65536, element := x.s.e }

/-- The strip stopped at its element: a held strip's checkpoint stays where its results are staged from (R147). -/
def atElement (s : Strip) : Strip := if s.tk.held then clearElement s else { clearElement s with ckE := s.e, ck := s.base }

/-! ## What an invalidation waits for (R302, R303) -/

/-- Leaves that a list of ways holds. -/
def heldIn (w : Ways TlbEntry) : List TlbEntry := w.ways.filterMap id

/-- The cached leaves that an invalidation removes. -/
def removed (d : Device) (s : InvSel) : List TlbEntry :=
  (d.xlt.tlb.flatMap (fun e => heldIn e.2) ++ d.crofts.flatMap (fun e => heldIn e.2.utlb ++ e.2.strips.flatMap (·.used))).filter s.hitsTlb

/-- Module physical address that a far request names. -/
def farPa (r : FarReq) : Nat := 0x80000000000000 + r.frame.dest * 2 ^ 40 + r.frame.addr

/-- Tickets that wait to be dealt, or for a croft. -/
def queued (d : Device) : List Ticket :=
  d.jobs.flatMap (fun j => j.2.chains.flatMap (fun c => c.redeal.map (·.1))) ++ d.crofts.flatMap (fun e => e.2.deque)

/-- Step 2 of Table 10-9: what uses a translation that an invalidation removes. A parked strip does not; of staged stores and of stores owed
for a strip, those of an address space that the command names count (log entry 43). -/
def invUses (d : Device) (s : InvSel) : List InvUse :=
  let gone := d.removed s
  d.crofts.flatMap (fun c => (c.2.strips.filter (fun p => !p.parked && p.used.any s.hitsTlb)).map (fun p => .strip c.1 c.2.gen p.tk.job p.tk.instr p.tk.strip)) ++
  (d.queued.filter (fun t => t.owed ≠ [] && s.hitsAsid (entSpace (d.entry t.channel)).asid)).map (fun t => .owed t.job t.instr t.strip) ++
  (d.ring.far.filter (fun r => r.resp.isNone && gone.any (fun e => e.pa ≤ farPa r && farPa r < e.pa + 2 ^ pageBits e.level))).map
    (fun r => .far r.frame.kind r.frame.dest r.frame.tag) ++
  (d.jobs.filter (fun j => j.2.stageCells ≠ [] && j.2.stagePages.any s.hitsTlb)).map (fun j => .staged j.1)

/-- Whether a use is still under way. -/
def stillUsing (d : Device) : InvUse → Bool
  | .strip n g j i s => (d.croft n).gen = g && (d.croft n).strips.any (fun p => p.tk.job = j && p.tk.instr = i && p.tk.strip = s)
  | .owed j i s =>
    d.queued.any (fun t => t.job = j && t.instr = i && t.strip = s && t.owed ≠ []) ||
    d.crofts.any (fun c => c.2.strips.any (fun p => p.tk.job = j && p.tk.instr = i && p.tk.strip = s && p.stores ≠ []))
  | .far k a t => d.ring.far.any (fun r => r.frame.kind = k && r.frame.dest = a && r.frame.tag = t && r.resp.isNone)
  | .staged j => ((d.job? j).map (fun x => decide (x.stageCells ≠ []))).getD false

/-- A strip that stops at its checkpoint is waited for no longer (R302). -/
def stopsUsing (d : Device) (n : Nat) (s : Strip) : Device :=
  let mine (u : InvUse) : Bool := u = .strip n (d.croft n).gen s.tk.job s.tk.instr s.tk.strip
  { d with xlt := { d.xlt with invWait := d.xlt.invWait.filter (fun u => !mine u), fwWait := d.xlt.fwWait.filter (fun u => !mine u) } }

/-- Whether an invalidation waits for a strip of a croft. -/
def invHolds (d : Device) (n : Nat) (s : Strip) : Bool :=
  (d.xlt.invWait ++ d.xlt.fwWait).contains (.strip n (d.croft n).gen s.tk.job s.tk.instr s.tk.strip)

/-! ## Translation faults -/

/-- R71, R141: a translation fault taken at the current element: parked with an entry, or the strip's failure (Table 10-6). -/
def faultStrip (d : Device) (n : Nat) (x : Cur) (cause va : Nat) (acc : Access) : Device :=
  -- a copy whose other copy has failed for good fails with it (R182, R243)
  let failed : Bool := x.c.held.any (fun h => h.strip = x.s.tk.strip && h.fail.isSome)
  if parkCause cause ∧ ¬ entFailOnFault (d.gov x.j) ∧ ¬ failed then
    let s := d.stripOf n x
    -- one that used a removed translation begins again at its checkpoint (R302)
    let s := if d.invHolds n s then fromCheckpoint (if s.tk.held then s else atElement s) else { atElement s with used := if s.tk.held then s.used else [] }
    let d := (d.putStrip n x.ix { s with parked := true }).stopsUsing n s
    let f : JobFault := { cause := cause, access := accessCode acc, instr := (x.c.first + x.m) % 65536, element := x.s.e
                          addr := va, place := .strip x.c.first x.s.tk.strip }
    -- both copies of a PAIRED strip meet the fault, which is posted once
    if x.j.faults.any (fun g => { g with slot := none } = f) then d else d.raiseFault x.s.tk.job f
  else d.stopHere n x (causeStatus cause) cause

/-! ## Stream contexts and the micro-TLB (R140) -/

def fillUtlb (d : Device) (n : Nat) (e : TlbEntry) : Device :=
  d.upCroft n (fun c => { c with utlb := c.utlb.fill 6 (fun x => x.level = e.level && x.vpn = e.vpn && x.asid = e.asid) e })

/-- The page translations of a stream context: the last page it entered, and the one before, which an element that crosses pages needs too. -/
def ctxKey (m slot : Nat) : Nat := 16 * m + 2 * slot

/-- A page that a stream context has translated already. -/
def ctxHit (s : Strip) (m slot asid va : Nat) : Option TlbEntry :=
  [ctxKey m slot, ctxKey m slot + 1].findSome? (fun k => (s.ctx.find? k).filter (fun e => e.covers false asid va))

/-- A page that a stream context enters. -/
def enterPage (s : Strip) (m slot : Nat) (e : TlbEntry) : Strip :=
  let k := ctxKey m slot
  { s with
    used := if s.used.contains e then s.used else s.used ++ [e]
    ctx := match s.ctx.find? k with
      | some old => (s.ctx.set (k + 1) old).set k e
      | none => s.ctx.set k e }

/-- A lookup sent to the shared TLB, unless one for the same context waits already; a hit whose page is only walked afresh is no miss
(R299, Table 5-9). -/
def sendLookup (d : Device) (n : Nat) (x : Cur) (slot va : Nat) (acc : Access) (noSide fresh : Bool) : Device :=
  let cr := d.croft n
  let ctx := 8 * x.m + slot
  if (d.xlt.lookups ++ d.xlt.walks).any (fun l => Lookup.serves l cr n x.s && l.ctx = ctx) then d
  else
    let l : Lookup := { croft := n, gen := cr.gen, job := x.s.tk.job, instr := x.c.first, first := x.s.tk.strip, ctx := ctx
                        space := entSpace (d.entry x.j.ch), va := va, access := acc, noSide := noSide, fresh := fresh }
    let d : Device := { d with xlt := { d.xlt with lookups := d.xlt.lookups ++ [l] } }
    if fresh then d else d.count 19 n 0x088

/-- One translation of a stream context: of the page it is on, else through the micro-TLB. -/
def croftXlate (d : Device) (n : Nat) (x : Cur) (slot va : Nat) (acc : Access) (noSide : Bool) : CX × Device :=
  let sp := entSpace (d.entry x.j.ch)
  let who : Who := { user := true, seRefused := noSide }
  let fail (c : Nat) : CX × Device := (.cause c va, d.countFault)
  let found (e : TlbEntry) (d : Device) : CX × Device :=
    let a := d.ownPa (e.at va)
    if d.awayLost x.j.ch a then (.lost, d) else (.pa a e.se, d)
  if vaRange sp va who then fail 0x07
  else
    match (ctxHit (d.stripOf n x) x.m slot sp.asid va).filter (fun e => (leafCause e va acc who).isNone) with
    | some e => found e d
    | none =>
      match (d.croft n).utlb.hit 6 (fun e => e.covers false sp.asid va) with
      | some (e, u) =>
        let d' := d.upCroft n (fun c => { c with utlb := u })
        match leafCause e va acc who with
        | none => found e (d'.putStrip n x.ix (enterPage (d'.stripOf n x) x.m slot e))
        | some c => if needsWalk c then (.miss, d'.sendLookup n x slot va acc noSide true) else fail c
      | none => (.miss, d.sendLookup n x slot va acc noSide false)

/-- A range translated part by part. -/
def croftXlates (d : Device) (n : Nat) (x : Cur) (slot : Nat) (acc : Access) (noSide : Bool) : List (Nat × Nat) → CXs × Device
  | [] => (.ok [] false, d)
  | (va, k) :: rest =>
    match d.croftXlate n x slot va acc noSide with
    | (.miss, d) => (.miss, d)
    | (.lost, d) => (.lost, d)
    | (.cause c v, d) => (.cause c v, d)
    | (.pa a se, d) =>
      match croftXlates d n x slot acc noSide rest with
      | (.ok ps s, d) => (.ok ((va, a, k) :: ps) (se || s), d)
      | r => r

/-- How translating what an element needs ends. -/
inductive Touched where
  | ok | wait | stopped
  deriving DecidableEq, Repr

/-- What an element needs, translated: a context that misses waits and the others go on (R140); a fault is taken at once, for the element is
the next to enter the pipes (R141). -/
def touchAll (d : Device) (n : Nat) (x : Cur) : List Touch → Touched × Device
  | [] => (.ok, d)
  | t :: ts =>
    match x.at? t.m with
    | none => touchAll d n x ts
    | some y =>
      match d.croftXlate n y t.slot t.va t.acc t.noSide with
      | (.pa _ _, d) => touchAll d n x ts
      | (.lost, d) => (.stopped, d.stopHere n y stMemoryLost)
      | (.cause c v, d) => (.stopped, d.faultStrip n y c v t.acc)
      | (.miss, d) =>
        match touchAll d n x ts with
        | (.stopped, d) => (.stopped, d)
        | (_, d) => (.wait, d)

/-! ## Loads (R131 to R133, R206) -/

/-- What reading an operand gives. -/
inductive Read where
  | ok (v : Nat) | wait | fail (status : Nat)
  deriving DecidableEq, Repr

/-- A part of an operand read; poison that stores of the strip replace is gone once they are made (R134, R205). -/
def readUnder (d : Device) (seen : List Store) (pa k : Nat) : Res × Device :=
  let bad := (unitsOf pa k).filter (fun a => d.poison.contains (unitBase a))
  if (regionOf pa = .hbm ∨ regionOf pa = .granary) ∧ bad ≠ [] ∧ ¬ d.rangeLost pa k ∧ ¬ d.computeOff ∧ bad.all (fun a => replaces seen (unitBase a)) then
    (.ok (d.mem.readLE (windowBase + pa) k), d)
  else d.readPa pa k

/-- The parts of an operand read and joined, each at its distance from `va`, with the strip's own stores laid over them. -/
def readParts (d : Device) (ch slice : Nat) (seen : List Store) (va : Nat) : List (Nat × Nat × Nat) → Read × Device
  | [] => (.ok 0, d)
  | (a, pa, k) :: rest =>
    if d.inReserved pa k then (.fail stFenceViolation, d.refuseFence ch slice pa true)
    else
      match d.readUnder seen pa k with
      | (.ok v, d) =>
        match readParts d ch slice seen va rest with
        | (.ok w, d) => (.ok (overlay seen a pa k v * 2 ^ (8 * (a - va)) + w), d)
        | r => r
      | (.wait, d) => (.wait, d)
      | (.poison, d) => (.fail stPoison, d)
      | (_, d) => (.fail stMemoryLost, d)

/-- What staging stores into an image gives. -/
inductive Staged where
  | ok (image : List Store) | wait | fail (status : Nat)
  deriving DecidableEq, Repr

/-- R265: stores added to a staged image; each target of a SCATTER_ADD has one entry, its value before with every contribution added. -/
def stageStores (d : Device) (ch slice : Nat) : List Store → List Store → Staged × Device
  | image, [] => (.ok image, d)
  | image, st :: rest =>
    if st.add = 0 then stageStores d ch slice (image ++ [st]) rest
    else
      let v := ofBytes (st.cells.map (fun k => BitVec.ofNat 8 k.b))
      let va := (st.cells.map (·.va)).headD 0
      let pa := (st.cells.map (·.pa)).headD 0
      let entry (old : Nat) : Store := { st with cells := (st.cells.zip (bytesOf 16 (addLanes st.add old v))).map (fun (c, b) => { c with b := b.toNat }) }
      let mine (s : Store) : Bool := s.add ≠ 0 && (s.cells.map (·.va)).headD 0 = va
      if image.any mine then stageStores d ch slice (image.filter (fun s => !mine s) ++ [entry (overlay image va pa 16 0)]) rest
      else
        match d.readParts ch slice image va [(va, pa, 16)] with
        | (.ok old, d) => stageStores d ch slice (image ++ [entry old]) rest
        | (.wait, d) => (.wait, d)
        | (.fail s, d) => (.fail s, d)

/-- The overflow slot of a strip, by number (R139). -/
def slotOf (d : Device) (t : Ticket) : Option Nat :=
  (d.sower.overflow.find? (fun o => o.1 % 2 ^ 32 = t.job && o.2.1 = t.instr && o.2.2 = t.strip)).map (fun o => o.1 / 2 ^ 32)

/-- Base of an overflow slot in the reserved range (Table 9-4). -/
def slotBase (k : Nat) : Nat := 0x47FC100000 + k * 0x20000

/-- Bytes that a slot's destination takes in the image of a 256-element strip (R139, R265). -/
def stripImage (i : SInstr) (no : Nat) : Nat :=
  let k := (i.slot no).kind
  if k = kNone ∨ k = kTemp ∨ i.opcode = 0x60 ∨ (i.opcode = 0x45 ∧ no = 4) then 0
  else if k = kIndexed then 32 * 256
  else if isMaskSlot i no then 32 * i.lanes
  else if (opRow i.opcode).pairDst ∧ no = 3 then 32 * 256
  else 16 * 256

/-- Where a member's slot begins in that image. -/
def stripOffset (ms : List SInstr) (member slot : Nat) : Nat :=
  (ms.take member).foldl (fun a i => a + stripImage i 3 + stripImage i 4) 0 +
  (if slot = 4 then ((ms[member]?).map (fun i => stripImage i 3)).getD 0 else 0)

/-- Place of a byte of a held strip's store in its overflow slot. -/
def slotCell (c : Chain) (t : Ticket) (st : Store) (va : Nat) : Nat :=
  match c.members[st.member]? with
  | none => 0
  | some i =>
    let base := (i.slot st.slot).base
    let e := st.element - t.first
    stripOffset c.members st.member st.slot +
    (if (i.slot st.slot).kind = kIndexed then 32 * e + 16 + (va - base) % 16
     else if isMaskSlot i st.slot then va - (base + t.first * i.lanes / 8)
     else if i.opcode = 0x45 then va - (base + t.ck.packs.get 0 st.member * (i.w / 8))
     else
       let (step, size) := slotStep i st.slot
       e * size + (va - (base + st.element * step)))

/-- Bytes that an element's stores put in an overflow slot: their values, and the target's index before a scatter's. -/
def slotCells (c : Chain) (t : Ticket) (ss : List Store) : List (Nat × Byte) :=
  ss.flatMap (fun st =>
    let at_ (va : Nat) : Nat := slotCell c t st va
    let index : List (Nat × Byte) := match c.members[st.member]? with
      | some i =>
        let va := (st.cells.map (·.va)).headD 0
        if (i.slot st.slot).kind = kIndexed then ((bytesOf 16 ((va - (i.slot st.slot).base) / 16)).zipIdx).map (fun b => (32 * (st.element - t.first) + stripOffset c.members st.member st.slot + b.2, b.1)) else []
      | none => []
    index ++ st.cells.map (fun x => (at_ x.va, BitVec.ofNat 8 x.b)))

/-- Staged results read back from their slot, and the failure of a read that finds an error, poison or a lost stack there. -/
def readSlot (d : Device) (c : Chain) (t : Ticket) (ss : List Store) : Staged × Device :=
  match d.slotOf t with
  | none => (.ok ss, d)
  | some k =>
    let at_ (st : Store) (va : Nat) : Nat := slotBase k + slotCell c t st va
    let pas := ss.flatMap (fun st => st.cells.map (fun x => at_ st x.va))
    if pas.any d.stackLost then (.fail stMemoryLost, d)
    else
      let old := pas.any (fun a => d.poison.contains (unitBase a))
      match d.findErrors pas false with
      | (true, d) => (.fail stMemoryLost, d)
      | (false, d) =>
        if old then (.fail stPoison, d)
        else (.ok (ss.map (fun st => { st with cells := st.cells.map (fun x => { x with b := (d.mem.byte (windowBase + at_ st x.va)).toNat }) })), d)

/-- The stores that a load of a strip sees laid over memory (R60, R63, R134, R264): the image of an ordered journaled chain, and the strip's
own, with contributions that meet the load added up. -/
def seenBy (d : Device) (n : Nat) (x : Cur) (ps : List (Nat × Nat × Nat)) : Staged × Device :=
  let image := if x.c.journaled ∧ x.c.ordered then x.c.image else []
  let near (s : Store) : Bool := s.cells.any (fun c => ps.any (fun p => (p.2.1 ≤ c.pa && c.pa < p.2.1 + p.2.2) || (p.1 ≤ c.va && c.va < p.1 + p.2.2)))
  let held := x.s.staged.filter near
  match (if held ≠ [] ∧ needsSlot x.c ∧ ¬ x.s.tk.follows then d.readSlot x.c x.s.tk held else (.ok held, d)) with
  | (.ok held, d) =>
    let own := held ++ x.s.stores.filter near
    if own.any (fun s => s.add ≠ 0) then d.stageStores x.j.ch (hamletOf n) image own else (.ok (image ++ own), d)
  | r => r

/-- Whether a side-effect access of a journaled CONTROL job must wait for step 3 of Table 9-2, which is then owed. -/
def oweSide (d : Device) (j : Job) (tag : Nat) : Option Device :=
  if d.journaledControl j ∧ ¬ j.side then
    some (if (d.chan j.ch).ledgerQ.any (fun w => w.tag = tag && w.step = 3) then d else d.oweLedger tag 3)
  else none

/-- Entries of a LOCAL table read one after another (R82): those outside the window hold zero; one whose page has no translation, or which lies in
the reserved range, is not read, and one whose read fails keeps the failure, until an element needs it (R141, R206). None while a translation or
a link has to be waited for. -/
def copyTable (d : Device) (n : Nat) (x : Cur) (no : Nat) (vals : List LocalEntry) : Nat → Option (List LocalEntry) × Device
  | 0 => (some vals, d)
  | k + 1 =>
    let s := x.i.slot no
    let va := s.base + 16 * vals.length
    if va + 15 > s.limit then copyTable d n x no (vals ++ [.val 0 0]) k
    else if (pageParts va 16).any (fun p => x.s.noPages.contains (p.1 / 4096)) then copyTable d n x no (vals ++ [.unread]) k
    else
      match d.croftXlates n x no .read true (pageParts va 16) with
      | (.ok ps _, d) =>
        if ps.any (fun p => d.inReserved p.2.1 p.2.2) then copyTable d n x no (vals ++ [.unread]) k
        else
          match d.readParts x.j.ch (hamletOf n) [] va ps with
          | (.ok v, d) => copyTable d n x no (vals ++ [.val v (codeOf v)]) k
          | (.wait, d) => (none, d)
          | (.fail st, d) => copyTable d n x no (vals ++ [.bad st]) k
      | (.miss, d) => (none, d)
      | (_, d) => copyTable d n x no (vals ++ [.unread]) k

/-- R136: the LOCAL table of a slot copied; its tag is the job, the instruction and the slot. -/
def copyLocal (d : Device) (n : Nat) (x : Cur) (no : Nat) : Device :=
  match d.copyTable n x no [] (x.i.slot no).stride with
  | (some vals, d) =>
    d.upCroft n (fun c => { c with locals := c.locals ++ [{ job := x.s.tk.job, instr := x.c.first, slot := x.m * 8 + no, vals := vals }] })
  | (none, d) => d

/-- Loads that have come put into the operand buffers; a BROADCAST is kept for the whole instruction, and what copy A reads from a side-effect
page for the other copies (R48, R295). -/
def keepLoads (d : Device) (n : Nat) (x : Cur) (no : Nat) (se : Bool) (ls : List Load) : Device :=
  let good := ls.filter (fun l => l.bad = 0)
  let d := if (x.i.slot no).kind = kBcastMem then
      d.upChain x.s.tk.job x.c.first (fun c => { c with bcast := good.foldl (fun b l => b.set (x.m * 8 + no) l.val) c.bcast })
    else if se ∧ x.s.tk.paired ∧ ¬ x.s.tk.follows then
      d.upChain x.s.tk.job x.c.first (fun c => { c with seLoads := c.seLoads ++ good.map (fun l => (x.m, no, l.element, l.val)) })
    else d
  let s := d.stripOf n x
  d.putStrip n x.ix { s with loads := s.loads ++ ls }

/-- One element's operand read alone, with the strip's own stores laid over it; an error is kept for the element's start (R149). -/
def requestOne (d : Device) (n : Nat) (x : Cur) (no va : Nat) (ps : List (Nat × Nat × Nat)) (se : Bool) : Device :=
  let bad (st : Nat) (d : Device) : Device := d.keepLoads n x no se [x.loadAt no 0 0 st]
  match x.entryOf (d.croft n) no with
  | some (.bad st) => bad st d
  | _ =>
    -- a LOCAL table sees no store of its own chain (R49)
    let k := (x.i.slot no).kind
    match (if k = kBcastMem ∨ k = kLocal then (.ok [], d) else d.seenBy n x ps) with
    | (.wait, d) => d
    | (.fail st, d) => bad st d
    | (.ok seen, d) =>
      match d.readParts x.j.ch (hamletOf n) seen va ps with
      | (.wait, d) => d
      | (.fail st, d) => bad st d
      | (.ok v, d) =>
        if k = kLocal then
          -- the missing entry of a LOCAL copy
          d.upCroft n (fun c => { c with locals := c.locals.map (fun l =>
            if l.job = x.s.tk.job ∧ l.instr = x.c.first ∧ l.slot = x.m * 8 + no then { l with vals := l.vals.set (x.localIx (x.i.slot no)) (.val v (codeOf v)) } else l) })
        else d.keepLoads n x no se [x.loadAt no 0 v 0]

/-- The elements of a block on the module that a request brings with the current one, each read as it lies there; one in the reserved range is
left for its own turn. -/
def readAhead (d : Device) (n : Nat) (x : Cur) (no va pa : Nat) (se : Bool) : List Nat → Device
  | [] => d
  | e :: es =>
    match (x.ahead e).place no with
    | none => readAhead d n x no va pa se es
    | some (b, m) =>
      let a := pa + b - va
      if d.inReserved a m then readAhead d n x no va pa se es
      else
        match d.readUnder [] a m with
        | (.ok v, d) => readAhead (d.keepLoads n x no se [x.loadAt no e v 0]) n x no va pa se es
        | (.wait, d) => d
        | (.poison, d) => readAhead (d.keepLoads n x no se [x.loadAt no e 0 stPoison]) n x no va pa se es
        | (_, d) => readAhead (d.keepLoads n x no se [x.loadAt no e 0 stMemoryLost]) n x no va pa se es

/-- One request of a stream context whose pages are translated, for the elements of one 128-byte block (R131): on the module each is read where it
lies, off the module the block is one access, and an element alone where it cannot be read; `ecc` is an error that the read finds (R204 to
R206). A place below the current element's in its block, which only an index reaches, is counted from the block's base. -/
def request (d : Device) (n : Nat) (x : Cur) (no ecc : Nat) (va : Nat) (ps : List (Nat × Nat × Nat)) (se : Bool) : Device :=
  let pa := (ps.map (fun p => p.2.1)).headD 0
  let d := d.strike pa ecc
  let r := regionOf (d.ownPa pa)
  let off : Bool := !(r = .hbm || r = .granary)
  let es := x.sameBlock no off
  match ps with
  | [(first, _)] =>
    if first ≠ va then d.requestOne n x no va ps se
    else if off then
      match (x.ahead (es.getLast?.getD 0)).place no with
      | some (b, m) =>
        if es.length > 1 then
          match d.readPa pa (b + m - va) with
          | (.ok v, d) => d.keepLoads n x no se (x.arrived no es va v)
          | (.wait, d) => d
          | (_, d) => d.requestOne n x no va ps se
        else d.requestOne n x no va ps se
      | none => d.requestOne n x no va ps se
    else
      let d' := d.requestOne n x no va ps se
      -- an access to a lower place of the block lies below `pa`
      d'.readAhead n x no (va / 128 * 128) (pa - va % 128) se (es.drop 1)
  | _ => d.requestOne n x no va ps se

/-- Whether the lookup of a stream context is still to be answered (R140). -/
def lookupDue (d : Device) (n : Nat) (x : Cur) (c : Nat × Nat) : Bool :=
  (d.xlt.lookups ++ d.xlt.walks).any (fun l => Lookup.serves l (d.croft n) n x.s && l.ctx = 8 * c.1 + c.2)

/-- The contexts of a strip that may go on: its tables to copy, then its operands to read, but for those that wait for a translation, while the
others continue (R140). -/
def contexts (d : Device) (n : Nat) (x : Cur) : List (Nat × Nat) :=
  (x.copies (d.croft n) ++ x.wants (d.croft n)).filter (fun c => !d.lookupDue n x c)

/-- The next operand of a strip brought in: what its element needs is translated as far as it goes, and a context whose page is translated makes
its request. -/
def loadOne (d : Device) (n : Nat) (x : Cur) (ecc : Nat) : Device :=
  match d.contexts n x with
  | [] => d
  | (m, no) :: _ =>
    match x.at? m with
    | none => d
    | some y =>
      if (y.tables (d.croft n)).contains no then d.copyLocal n y no
      else
        match d.touchAll n x (x.touches (d.croft n)) with
        | (.stopped, d) => d
        | (_, d) =>
          match y.place no with
          | none => d
          | some (va, k) =>
            match d.croftXlates n y no .read (noSideSlot (y.i.slot no)) (y.neededParts no va k) with
            | (.ok ps se, d) =>
              if se ∧ x.s.tk.follows then d
              else
                match (if se then d.oweSide x.j x.s.tk.job else none) with
                | some d => d
                | none => d.request n y no ecc va ps se
            | (_, d) => d

/-- Whether a strip has an operand to bring in that does not wait for a translation. -/
def canLoad (d : Device) (n : Nat) (x : Cur) : Bool := x.s.result.isNone && !x.s.storing && d.contexts n x ≠ []

/-- LOAD_RESPONSE: the next operand of the oldest strip that has a request ready (R132, R133). -/
def loadNext (d : Device) (n ecc : Nat) : Device :=
  match (d.curs n).find? (fun x => d.canLoad n x) with
  | some x => d.loadOne n x ecc
  | none => d

/-- Read requests of a croft in flight: the operands its strips still wait for, 144 at most (R132). -/
def readsInFlight (d : Device) (n : Nat) : Nat :=
  min 144 ((d.curs n).foldl (fun k x => k + (x.wants (d.croft n)).length) 0)

/-! ## Tickets (R146, R168 to R170) -/

/-- Active strips that count against a croft's four (Table 5-1): held copies that wait for release count as well. -/
def takeTicket (d : Device) (n : Nat) : Device :=
  let c := d.croft n
  match c.deque with
  | t :: rest =>
    if c.st = 1 ∧ ¬ c.retiring ∧ ¬ d.stoodDown ∧ c.strips.length < 4 then
      let s : Strip := { tk := { t with owed := [] }, e := t.first, ckE := t.first, ck := t.ck, base := t.ck, work := t.ck, stores := t.owed
                         storing := t.owed ≠ [] }
      let d : Device := { d with power := { d.power with gated := d.power.gated.erase (hamletOf n) } }
      (d.setCroft n { c with deque := rest, strips := c.strips ++ [s], ran := true })
    else d
  | [] => d

/-- R168: whether a croft gleans. -/
def gleans (d : Device) (n : Nat) : Bool :=
  let c := d.croft n
  c.st = 1 && !c.retiring && !d.stoodDown && c.deque.isEmpty && (c.strips.filter (fun s => ¬ s.parked)).length < 2

/-- R169: whether a ticket may move to a croft at a level: no copy of a strip moves into a hamlet that holds another of its copies. -/
def mayGlean (d : Device) (n level : Nat) (t : Ticket) : Bool :=
  let other (u : Ticket) : Bool := u.job = t.job && u.instr = t.instr && u.strip = t.strip && (u.copyB ≠ t.copyB || u.third ≠ t.third)
  (t.glean = 0 || (t.glean = 1 && level = 1)) && !t.ordered &&
  !(t.paired && (d.crofts.any (fun (e : Nat × Croft) => hamletOf e.1 = hamletOf n &&
      (e.2.deque.any other || e.2.strips.any (fun s => other s.tk)))))

/-- Level of a victim for a gleaner (Table 6-2). -/
def gleanLevel (n v : Nat) : Nat := if hamletOf n = hamletOf v then 1 else if dieOf n = dieOf v then 2 else 3

/-- R168, R170: the victim at a level: the deque of a resetting or quarantined croft first, else the fullest, which must hold the minimum; and
the ticket at its tail must be one that may move. -/
def victim (d : Device) (n level : Nat) : Option Nat :=
  let low := if level = 1 then 2 else if level = 2 then 4 else 8
  let at_ := d.crofts.filter (fun (e : Nat × Croft) => e.1 ≠ n && gleanLevel n e.1 = level && !e.2.deque.isEmpty)
  let key (e : Nat × Croft) : Nat := (32 - e.2.deque.length) * 512 + e.1
  let moves (e : Nat × Croft) : Bool := ((e.2.deque.getLast?).map (d.mayGlean n level)).getD false
  match (argmin key (at_.filter (fun e => e.2.st = 0 || e.2.st = 3))).filter moves with
  | some e => some e.1
  | none => ((argmin key (at_.filter (fun e => e.2.st = 1))).filter (fun e => e.2.deque.length ≥ low && moves e)).map (·.1)

/-- R168: one try to glean: the levels in order, one ticket from the tail of the victim's deque. -/
def glean (d : Device) (n : Nat) : Device :=
  if ¬ d.gleans n then d
  else
    match [1, 2, 3].findSome? (fun l => (d.victim n l).map (fun v => (l, v))) with
    | none => d
    | some (l, v) =>
      match (d.croft v).deque.getLast? with
      | none => d
      | some t =>
        let d := d.upCroft v (fun c => { c with deque := c.deque.dropLast })
        let d := (d.upCroft n (fun c => { c with deque := c.deque ++ [t] })).captureGlean n v t
        (d.count 2 0 (if l = 1 then 0x070 else if l = 2 then 0x078 else 0x080)).count 19 n 0x098

/-! ## Lookups and walks (R140, R297) -/

/-- The strip a lookup serves, at the member of its stream context, if its croft has not been reset and still runs it. -/
def lookupStrip (d : Device) (l : Lookup) : Option Cur :=
  if (d.croft l.croft).gen ≠ l.gen then none
  else
    match (d.croft l.croft).strips.findIdx? (fun s => s.tk.job = l.job && s.tk.instr = l.instr && s.tk.strip = l.first) with
    | none => none
    | some k => ((d.croft l.croft).strips[k]?).bind (fun s => (d.curOf s k).bind (fun x => x.at? (l.ctx / 8)))

/-- The outcome of a lookup that ends without a translation; one of a LOCAL table that is being copied leaves its page out of the copy, until an
element needs an entry there (R141). -/
def lookupFails (d : Device) (l : Lookup) (r : Nat → Cur → Device → Device) : Device :=
  match d.lookupStrip l with
  | some x =>
    if (x.tables (d.croft l.croft)).contains (l.ctx % 8) then
      let s := d.stripOf l.croft x
      d.putStrip l.croft x.ix { s with noPages := s.noPages ++ [l.va / 4096] }
    else r l.croft x d
  | none => d

/-- SHARED_TLB_RESPONSE: the oldest lookup answered: a hit fills the micro-TLB, a miss goes to a walk (R140, R299). -/
def tlbResponse (d : Device) : Device :=
  match d.xlt.lookups with
  | [] => d
  | l :: rest =>
    let d := { d with xlt := { d.xlt with lookups := rest } }
    let walkIt (d : Device) : Device := { d with xlt := { d.xlt with walks := d.xlt.walks ++ [l] } }
    if l.fresh then walkIt d
    else
      let d := d.count 5 0 0x0C0
      match d.tlbFind false l.space.asid l.va [0, 1, 2] with
      | none => walkIt (d.count 5 0 0x0C8)
      | some (e, d) =>
        match leafCause e l.va l.access { user := true, seRefused := l.noSide } with
        | none => if (d.croft l.croft).gen = l.gen then d.fillUtlb l.croft e else d
        | some c => if needsWalk c then walkIt d else d.countFault.lookupFails l (fun n x d => d.faultStrip n x c l.va l.access)

/-- The translations of an address that a croft holds removed, for a walk's result replaces them (R299). -/
def utlbDrop (d : Device) (n asid va : Nat) : Device :=
  d.upCroft n (fun c => { c with
    utlb := c.utlb.drop (fun e => e.covers false asid va)
    strips := c.strips.map (fun p => { p with ctx := p.ctx.filter (fun e => !e.2.covers false asid va) }) })

/-- Whether a lookup is of an adopted channel (R278). -/
def lookupAway (d : Device) (l : Lookup) : Bool := ((d.job? l.job).map (fun j => (d.chan j.ch).origin.isSome)).getD false

/-- What a walk gives one lookup. -/
def answerWalk (d : Device) (l : Lookup) (r : WalkRes) : Device :=
  let (r, d) := d.walkAnswer l.space l.va l.access { user := true, seRefused := l.noSide } r
  let here : Bool := (d.croft l.croft).gen = l.gen
  let d := if here ∧ r ≠ .lost then d.utlbDrop l.croft l.space.asid l.va else d
  match r with
  | .leaf e => if here then d.fillUtlb l.croft e else d
  | .lost => d.lookupFails l (fun n x d => d.stopHere n x stMemoryLost)
  | .cause c => d.countFault.lookupFails l (fun n x d => d.faultStrip n x c l.va l.access)
  | .wait => d

/-- TABLE_WALK_COMPLETE: the oldest walk ends with a translation or its first failing cause, for it and the misses to its page that are merged into it
(Table 10-7, R297, R298). -/
def walkComplete (d : Device) : Device :=
  match d.xlt.walks with
  | [] => d
  | l :: rest =>
    let with_ (m : Lookup) : Bool := m.space = l.space && m.va / 4096 = l.va / 4096 && d.lookupAway m = d.lookupAway l
    match d.walkPath l.space l.va (d.lookupAway l) with
    | (.wait, d) => d
    | (r, d') => (l :: rest.filter with_).foldl (fun d m => d.answerWalk m r) { d' with xlt := { d'.xlt with walks := rest.filter (fun m => !with_ m) } }

end Device

end Sys2Proof.Machine
end

