-- ==== Sys2Proof/Machine/StreamOps.lean ====
section
/-! DEFINITION. The results of the 43 stream opcodes on one element, lane by lane, and the folds of REDUCE and SCAN, with
COMPRESS and EXPAND (Table 3-5, R88 to R107; R68 to R70). -/
namespace Sys2Proof.Machine

/-- What an opcode reads of one element: its member (number and fields), element index, values of S0 to S2 (`ah` the high half of a pair), selector
and active lanes, index, modulus, and the fold and pack state so far. -/
structure Opnd where
  k : Nat
  i : SInstr
  e : Nat
  a : Nat
  ah : Nat
  b : Nat
  c : Nat
  sel : Nat
  act : Nat
  q : Nat
  work : Check
  deriving DecidableEq, Repr

/-- The operands in a croft's buffers. -/
def Cur.opnd (x : Cur) (cr : Croft) : Opnd :=
  { k := x.m, i := x.i, e := x.s.e, a := (x.value cr 0).1, ah := (x.value cr 0).2, b := (x.value cr 1).1, c := (x.value cr 2).1
    sel := x.maskBits, act := x.active, q := x.q, work := x.s.work }

/-- Context of lane `k`. -/
def Opnd.ctx (o : Opnd) (k : Nat) : LaneCtx :=
  { w := o.i.w, signed := o.i.signed, sat := o.i.sat, mont := o.i.mont, func := o.i.func, aux := o.i.aux, q := o.q
    d1None := o.i.d1.kind = kNone, laneNo := o.e * o.i.lanes + k, sel := o.sel.testBit k }

def Opnd.lane (o : Opnd) (k : Nat) : LaneIn :=
  let w := o.i.w
  { a := laneOf w o.a k, b := laneOf w o.b k, c := laneOf w o.c k, ah := laneOf w o.ah k }

/-- An opcode that treats each lane alone: inactive lanes give zero and no flag (R42, R43, R112). -/
def laneWise (f : LaneCtx → LaneIn → LaneOut) (o : Opnd) : Result :=
  let outs := (List.range o.i.lanes).map (fun k => if o.act.testBit k then f (o.ctx k) (o.lane k) else { lo := 0 })
  let w := o.i.w
  { d0 := ofLanes (if (opRow o.i.opcode).maskDst then 1 else w) (outs.map (·.lo)), hi := ofLanes w (outs.map (·.hi))
    d1 := ofLanes w (outs.map (·.d1)), flags := outs.foldl (fun s x => s ||| x.flags) 0, active := o.act }

/-! ## REDUCE (R68, R69, R104) -/

/-- Context of a REDUCE or SCAN lane: 2w bits under WIDE (R69). -/
def foldCtx (i : SInstr) : LaneCtx := { w := if i.wide then 2 * i.w else i.w, signed := i.signed }

/-- Operator of a REDUCE or SCAN. -/
def foldFunc (i : SInstr) : Nat := i.func % 8

/-- Two accumulators of a lane combined, left before right; equal values of MIN and MAX keep the left one's position. -/
def foldAcc (i : SInstr) (l r : Option (Nat × Nat)) : Option (Nat × Nat) × Nat :=
  match l, r with
  | none, r => (r, 0)
  | l, none => (l, 0)
  | some (a, pa), some (b, pb) =>
    let o := foldOp (foldCtx i) (foldFunc i) a b
    (some (o.lo, if o.lo = a then pa else pb), if i.wide then 0 else o.flags)

/-- Lanes of two accumulators combined. -/
def foldLanes (i : SInstr) : LaneAcc → LaneAcc → LaneAcc × Nat
  | l :: ls, r :: rs =>
    let (x, f) := foldAcc i l r
    let (xs, g) := foldLanes i ls rs
    (x :: xs, f ||| g)
  | [], rs => (rs, 0)
  | ls, [] => (ls, 0)

/-- The element as accumulators: active lanes with the element's index, extended under WIDE. -/
def Opnd.accs (o : Opnd) : LaneAcc :=
  (List.range o.i.lanes).map (fun k =>
    if o.act.testBit k then
      let v := laneOf o.i.w o.a k
      some (if o.i.wide ∧ o.i.signed then signExtend o.i.w (2 * o.i.w) v else v, o.e)
    else none)

/-- A node joined to those pending: it combines with its left sibling while that one is present (R68, R173). -/
def joinNode (i : SInstr) : Nat → List Node → Node → List Node × Nat
  | 0, ns, n => (ns ++ [n], 0)
  | fuel + 1, ns, n =>
    if n.k % 2 = 1 then
      match ns.find? (fun m => m.level = n.level && m.k + 1 = n.k) with
      | some m =>
        let (acc, f) := foldLanes i m.acc n.acc
        let (r, g) := joinNode i fuel (ns.erase m) { level := n.level + 1, k := n.k / 2, acc := acc }
        (r, f ||| g)
      | none => (ns ++ [n], 0)
    else (ns ++ [n], 0)

/-- A fold's accumulators struck where an error has hit the lanes of its result. -/
def strikeAcc (i : SInstr) (err : Nat) (acc : LaneAcc) : LaneAcc :=
  (List.range acc.length).map (fun k => (acc[k]?.join).map (fun v =>
    (v.1 ^^^ (laneOf i.w (err % 2 ^ 128) k + (if i.wide then 2 ^ i.w * laneOf i.w (err / 2 ^ 128 % 2 ^ 128) k else 0)), v.2)))

/-- The lanes of an accumulator as one value, for its residues. -/
def accValue (i : SInstr) (acc : LaneAcc) : Nat := ofLanes (if i.wide then 2 * i.w else i.w) (acc.map (fun o => (o.map (·.1)).getD 0))

/-- Whether the combine unit's check of a combine passes (R125): `acc` is what it formed, `acc'` what reached the check. -/
def combineOk (i : SInstr) (acc acc' : LaneAcc) : Bool :=
  if i.func % 8 ≥ 3 then accValue i acc' = accValue i acc else codeOf (accValue i acc') = codeOf (accValue i acc)

/-- One step of the tree: two siblings combined, or a node without a right sibling moved up; `err` strikes the combine's result. None where there
is no step, or where its check fails: the combine is then made again (DESIGN CHOICE, log entry 90). -/
def combineStep (i : SInstr) (l err : Nat) (ns : List Node) : Option (List Node × Nat) :=
  let nblocks := ceilDiv l 256
  match ns.find? (fun n => n.k % 2 = 1 && ns.any (fun m => m.level = n.level && m.k + 1 = n.k)) with
  | some n =>
    match ns.find? (fun m => m.level = n.level && m.k + 1 = n.k) with
    | some m =>
      let (acc, f) := foldLanes i m.acc n.acc
      let acc' := strikeAcc i err acc
      if combineOk i acc acc' then some (((ns.erase m).erase n) ++ [{ level := n.level + 1, k := n.k / 2, acc := acc' }], f) else none
    | none => none
  | none =>
    match ns.find? (fun n => n.k % 2 = 0 && (n.k + 1) * 2 ^ n.level ≥ nblocks && n.level < clog2 64 nblocks) with
    | some n => some ((ns.erase n) ++ [{ n with level := n.level + 1, k := n.k / 2 }], 0)
    | none => none

/-- The nodes of a stream's last strip joined: those with no right sibling in the stream move up until one is left, which is the strip's partial
(R68, R173). -/
def closeNodes (i : SInstr) (l : Nat) : Nat → List Node → List Node × Nat
  | 0, ns => (ns, 0)
  | fuel + 1, ns =>
    if ns.length ≤ 1 then (ns, 0)
    else
      match combineStep i l 0 ns with
      | some (ns, f) =>
        let (ns, g) := closeNodes i l fuel ns
        (ns, f ||| g)
      | none => (ns, 0)

/-- One element folded; at the end of its 256-element block the block becomes a node, and at the stream's end its strip's nodes become one. -/
def reduceStep (o : Opnd) : Result :=
  let (acc, f) := foldLanes o.i o.work.acc o.accs
  let ended : Bool := (o.e + 1) % 256 = 0 || o.e + 1 = o.i.length
  let (next, g) :=
    if ended then
      let (ns, g) := joinNode o.i 40 o.work.nodes { level := 0, k := o.e / 256, acc := acc }
      let (ns, h) := if o.e + 1 = o.i.length then closeNodes o.i o.i.length 80 ns else (ns, 0)
      ({ o.work with acc := [], nodes := ns }, g ||| h)
    else ({ o.work with acc := acc }, 0)
  { d0 := o.a, flags := f ||| g, active := o.act, next := some next }

/-! ## SCAN (R70, R105) -/

/-- One lane of a SCAN: the state is (prefix before the last active element + 1, or 0; the last active element). -/
def scanLane (i : SInstr) (st : Option (Nat × Nat)) (x : Nat) : Nat × Option (Nat × Nat) × Nat :=
  let c := foldCtx i
  match st with
  | none => (if i.func ≥ 8 then foldIdentity c (foldFunc i) else x, some (0, x), 0)
  | some (p, last) =>
    if i.func ≥ 8 then
      let o := if p = 0 then { lo := last } else foldOp c (foldFunc i) (p - 1) last
      (o.lo, some (o.lo + 1, x), o.flags)
    else
      let o := foldOp c (foldFunc i) (if p = 0 then last else p - 1) x
      (o.lo, some (o.lo + 1, x), o.flags)

def scanStep (o : Opnd) : Result :=
  let st (k : Nat) : Option (Nat × Nat) := (o.work.acc[k]?).getD none
  let outs := (List.range o.i.lanes).map (fun k =>
    if o.act.testBit k then scanLane o.i (st k) (laneOf o.i.w o.a k) else (0, st k, 0))
  { d0 := ofLanes o.i.w (outs.map (·.1)), flags := outs.foldl (fun s x => s ||| x.2.2) 0, active := o.act
    next := some { o.work with acc := outs.map (·.2.1) } }

/-! ## COMPRESS and EXPAND (R99, R100) -/

/-- Selected lanes of the element, lowest first. -/
def Opnd.picked (o : Opnd) : List Nat := ((List.range o.i.lanes).filter (fun k => o.sel.testBit k)).map (fun k => laneOf o.i.w o.a k)

def compressStep (o : Opnd) : Result :=
  { d0 := ofLanes o.i.w o.picked, d1 := o.picked.length, active := o.act
    next := some { o.work with packs := o.work.packs.set o.k (o.work.packs.get 0 o.k + o.picked.length) } }

/-- Packed lanes spread over the selected ones. -/
def spread (w sel v : Nat) : Nat → Nat → List Nat
  | 0, _ => []
  | n + 1, k => if sel.testBit k then (v % 2 ^ w) :: spread w sel (v / 2 ^ w) n (k + 1) else 0 :: spread w sel v n (k + 1)

def expandStep (o : Opnd) : Result :=
  { d0 := ofLanes o.i.w (spread o.i.w o.sel o.a o.i.lanes 0), active := o.act
    next := some { o.work with packs := o.work.packs.set o.k (o.work.packs.get 0 o.k + popcount o.i.lanes o.sel) } }

/-! ## Residue checks (R124 to R126, R144) -/

/-- Pipes that form an opcode's result, in the encoding of CRF_FI.SITE (Table 3-5). -/
def pipesOf (code : Nat) : List Nat :=
  if code ∈ [0x12, 0x13, 0x14, 0x15, 0x16, 0x17, 0x18, 0x43, 0x44] then [2]
  else if code ∈ [0x30, 0x37] then [1, 0]
  else if code ∈ [0x20, 0x21, 0x22, 0x31, 0x34, 0x35, 0x36] then [1]
  else if code ∈ [0x60, 0x61, 0x62] then [3]
  else if code ∈ [0x45, 0x46] then [2, 3]
  else if code = 0x70 then [1, 2]
  else if code ∈ [0x50, 0x51, 0x52] then []
  else [0]

/-- The accumulators that an element's fold has formed: those it goes on with, or the node that its block has become. -/
def Check.folded (c : Check) : LaneAcc := if c.acc = [] then ((c.nodes.getLast?).map (·.acc)).getD [] else c.acc

/-- Those accumulators struck by an error. -/
def Check.struckFold (i : SInstr) (err : Nat) (c : Check) : Check :=
  if c.acc = [] then { c with nodes := c.nodes.dropLast ++ (c.nodes.getLast?.map (fun n => { n with acc := strikeAcc i err n.acc })).toList }
  else { c with acc := strikeAcc i err c.acc }

/-- Whether a member's result has no arithmetic identity, so that it is computed twice and compared, and its code formed afresh: SHF work,
LOGIC, bit counts, packing, ZMIX, and the folds by AND, OR and XOR. -/
def isDoubled (i : SInstr) : Bool :=
  pipesOf i.opcode = [2] || i.opcode ∈ [0x11, 0x45, 0x46, 0x70] || (i.opcode ∈ [0x60, 0x61] && i.func % 8 ≥ 3)

/-- A result with the residue codes that its member predicts for it. -/
def Result.coded (r : Result) : Result := { r with code := codeOf (r.d0 + r.hi * 2 ^ 128), code1 := residue r.d1 }

/-- Whether a result's residues are those predicted. -/
def Result.codesOk (r : Result) : Bool := r.code = codeOf (r.d0 + r.hi * 2 ^ 128) && r.code1 = residue r.d1

/-- Whether a result's values are those of another. -/
def Result.sameValues (r r' : Result) : Bool := r.d0 = r'.d0 && r.hi = r'.hi && r.d1 = r'.d1

/-- A result with bits in error: `err` holds the bits of D0 (256), of D1 (128; a COMPRESS has a count there, no element), then of the codes of D0
(14) and D1 (7). A REDUCE has its accumulators in D0's place. -/
def Result.struck (r : Result) (i : SInstr) (err : Nat) : Result :=
  let r := { r with code := r.code ^^^ err / 2 ^ 384 % 2 ^ 14, code1 := r.code1 ^^^ err / 2 ^ 398 % 2 ^ 7 }
  if i.opcode = 0x60 then { r with next := r.next.map (Check.struckFold i err) }
  else { r with d0 := r.d0 ^^^ err % 2 ^ 128, hi := r.hi ^^^ err / 2 ^ 128 % 2 ^ 128, d1 := if i.opcode = 0x45 then r.d1 else r.d1 ^^^ err / 2 ^ 256 % 2 ^ 128 }

/-- A result struck in a pipe: in ZMIX's MUL pipe it is the last product, before the xor-shift that follows it (R125). -/
def Result.struckIn (r : Result) (i : SInstr) (site err : Nat) : Result :=
  if i.opcode = 0x70 ∧ site = 1 then { r with d0 := zmixFold (zmixFold r.d0 ^^^ err % 2 ^ 128) } else r.struck i err

/-- What a source's code is in error by. -/
def Cur.codeError (x : Cur) (cr : Croft) (no : Nat) : Nat :=
  let v := x.source cr no
  v.2.2 ^^^ codeOf (v.1 + v.2.1 * 2 ^ 128)

/-- Whether a temporary that the member reads holds the code 127, which is never produced (R124, Table 5-5). -/
def Cur.badTemp (x : Cur) : Bool :=
  let bad (k : Nat) : Bool := ((x.s.temp? k).map (fun t => t.code % 128 = 127 || t.code / 128 = 127)).getD false
  (List.range x.i.nsrc).any (fun no => (x.i.slot no).kind = kTemp && bad (x.i.slot no).base) || (x.i.km = 2 && bad x.i.m.base) ||
  (x.i.ixNo.map (fun no => (x.i.slot no).kind = kTemp && bad (x.i.slot no).base)).getD false

/-- Whether two fold results pass for the same: by value for AND, OR and XOR, by residue otherwise (R125). -/
def Check.foldOk (i : SInstr) (c c' : Check) : Bool := combineOk i c.folded c'.folded

/-- R125: whether the check of a member's last pipe passes: `r` is what it computed, `r'` what reached the check; `site` is the pipe that an error
has struck. What a pipe predicts from the codes of its operands is the residue of what it computes, where these codes are right. -/
def Cur.passes (x : Cur) (cr : Croft) (site : Nat) (r r' : Result) : Bool :=
  let codes : Bool := (List.range x.i.nsrc).all (fun no => x.codeError cr no = 0) && r'.codesOk
  !x.badTemp &&
  (pipesOf x.i.opcode = [] ||
    (if x.i.opcode = 0x60 then (isDoubled x.i || codes) && (r.next.getD {}).foldOk x.i (r'.next.getD {})
     else if x.i.opcode = 0x70 ∧ site = 1 then residue (zmixFold r'.d0) = residue (zmixFold r.d0)
     else if isDoubled x.i then r'.sameValues r else codes))

/-- A result that has passed its check: the code of doubled work is formed afresh. -/
def Cur.checked (x : Cur) (r : Result) : Result := if isDoubled x.i then r.coded else r

namespace Device

/-- The current member of a croft's strip computed on the operands in its buffers, when it is the opcode named and they are all
there (R109); its result waits for its check. -/
def runMember (d : Device) (n code : Nat) (f : Opnd → Result) : Device :=
  match d.cur n with
  | some x =>
    if x.i.opcode = code ∧ x.s.entered ∧ x.s.result.isNone ∧ ¬ x.s.storing ∧ (x.need (d.croft n)).isNone then
      let r := (f (x.opnd (d.croft n))).coded
      -- a member without a pipe hands its operand's code on
      let carried := if pipesOf code = [] then x.codeError (d.croft n) 0 else 0
      d.putStrip n x.ix { x.s with result := some { r with flags := r.flags ||| x.ixFlag, code := r.code ^^^ carried } }
    else d
  | none => d

end Device

end Sys2Proof.Machine
end

