-- ==== Sys2Proof/Machine/Results.lean ====
section
/-! DEFINITION. Results on their way to memory: checks, destinations, stores, strips done, croft resets and self-tests, commit,
the combine unit, witness comparison, final writes, journal commit, COPY/FILL pieces and mode changes (chapters 2, 4 to 9, 17). -/
namespace Sys2Proof.Machine

/-! ## Stores of a result (R44, R74, R131) -/

/-- Bytes of a piece placed by its translation, those of no written bit left out. -/
def placeCells (va : Nat) (bytes : List (Nat × Nat)) (parts : List (Nat × Nat × Nat)) : List SCell :=
  parts.flatMap (fun (p : Nat × Nat × Nat) =>
    (List.range p.2.2).filterMap (fun k =>
      match bytes[p.1 + k - va]? with
      | some (b, m) => if m = 0 then none else some { va := p.1 + k, pa := p.2.1 + k, b := b, m := m }
      | none => none))

/-- Cells cut into the 16-byte elements of memory that one access writes whole (R74, R137). -/
def cutSlots : List SCell → List (List SCell)
  | [] => []
  | c :: cs =>
    match cutSlots cs with
    | (n :: ns) :: rest => if c.pa / 16 = n.pa / 16 then (c :: n :: ns) :: rest else [c] :: (n :: ns) :: rest
    | rs => [c] :: rs

namespace Device

/-! ## Croft reset (R151 to R156) -/

/-- Registers of a page back at their reset values, but for the offsets kept. -/
def resetPage (d : Device) (kind inst : Nat) (keep : List Nat) : Device :=
  let p := regKey kind inst 0 / 0x4000
  let gone (e : Nat × BitVec 32) : Bool := e.1 / 0x4000 = p && !keep.contains (e.1 % 0x1000)
  { d with regs := d.regs.filter (fun e => !gone e), snaps := d.snaps.filter (fun e => !gone e), latches := d.latches.filter (fun e => !gone (e.1 % 2 ^ 27, e.2)) }

/-- What the Sower deals again of an active strip: the rest from its checkpoint; one that was storing its released results runs the rest of
them again alone, and writes the same values. -/
def againTicket (s : Strip) : Ticket :=
  let t := s.tk
  let t := if s.released then { t with held := false, paired := false, copyB := false, third := false } else t
  -- a copy that has run to its end and waits to be compared begins again
  if s.ckE = t.first + t.count then { t with redealt := true }
  else { t with first := s.ckE, count := t.first + t.count - s.ckE, redealt := true, ck := s.ck }

/-- A strip reported as its last element leaves it, or dealt again from its checkpoint with the stores that are still owed. -/
def giveBackOne (d : Device) (n : Nat) (how : Redeal) (s : Strip) (owed : List Store) : Device :=
  if owed = [] ∧ s.ckE = s.tk.first + s.tk.count ∧ (¬ s.tk.held ∨ s.released) then d.reportStrip n s.tk (endState s.ck s.fail) s.fail
  else
    let t := againTicket s
    let t := if owed ≠ [] ∧ s.ckE = s.tk.first + s.tk.count then { t with first := s.ckE, count := 0, ck := s.ck } else t
    d.upChain s.tk.job s.tk.instr (fun c => { c with
      redeal := c.redeal ++ [({ t with owed := owed }, how)]
      held := c.held.filter (fun h => ¬ (h.strip = s.tk.strip ∧ h.croft = n)) })

/-- A store past the Fence made where it goes: into memory, or into the image of a journaled chain (R264); `false` where it is still owed. -/
def settleStore (d : Device) (tag first slice : Nat) (st : Store) : Bool × Device :=
  match d.job? tag, d.chainOf tag first with
  | some j, some c =>
    if c.journaled then
      match d.stageStores j.ch slice c.image [st] with
      | (.ok image, d) => (true, d.upChain tag first (fun c => { c with image := image }))
      | (_, d) => (false, d)
    else
      match d.makeStore tag st with
      | (.ok _, d) => (true, d)
      | (_, d) => (false, d)
  | _, _ => (true, d)

/-- Stores past the Fence made in their order, up to the first that has to be waited for: that one and those behind it are owed. -/
def settleStores (d : Device) (tag first slice : Nat) : List Store → List Store × Device
  | [] => ([], d)
  | st :: rest =>
    match d.settleStore tag first slice st with
    | (true, d) => settleStores d tag first slice rest
    | (false, d) => (st :: rest, d)

/-- A strip taken from its croft by a reset: its stores past the Fence complete, and their element with them (Table 5-8, step 4); those that have
to be waited for go with what is dealt again. -/
def settleStrip (d : Device) (n : Nat) (s : Strip) : Strip × List Store × Device :=
  if passedStores s = [] then (s, [], d)
  else
    let (owed, d) := d.settleStores s.tk.job s.tk.instr (hamletOf n) (passedStores s)
    (if owing s then { s with stores := [], storing := false } else passElement s, owed, d)

/-- Strips of a croft given back to their chains. -/
def giveBack (d : Device) (n : Nat) (how : Redeal) (ss : List Strip) : Device :=
  ss.foldl (fun d s =>
    let (s, owed, d) := d.settleStrip n s
    d.giveBackOne n how s owed) d

/-- Tickets withdrawn from a croft's deque and dealt again (R170). -/
def withdraw (d : Device) (n : Nat) (ts : List Ticket) : Device :=
  ts.foldl (fun d t => d.upChain t.job t.instr (fun c => { c with redeal := c.redeal ++ [({ t with redealt := true }, .next n)] })) d

/-- Steps 1 to 5 of Table 5-8; a reset in progress absorbs the trigger, and so does a Cold or Warm reset (R31, R154); a retired croft takes none. -/
def resetCroft (d : Device) (n : Nat) (injected quar : Bool) : Device :=
  let c := d.croft n
  if c.st = 0 ∨ d.resetUnderWay then d.setCroft n { c with quarReq := c.quarReq || quar }
  else if c.st = 4 then d
  else
    let w := d.rg 19 n 0x0A0
    let d := if injected ∨ field w 16 16 = 0xFFFF then d else d.setRg 19 n 0x0A0 (w + 2 ^ 16)
    let fi := d.rg 19 n 0x044
    let d := (d.resetPage 19 n [0x048, 0x04C, 0x050, 0x054, 0x0A0, 0x0A4]).setRg 19 n 0x044 (fi &&& 2 ^ 9)
    let stuck := c.deque.filter (fun t => t.glean = 2 || t.ordered)
    let d := d.setCroft n { c with
      -- R34: a croft being retired completes its retirement
      st := 0, gen := c.gen + 1, deque := c.deque.filter (fun t => ¬ (t.glean = 2 || t.ordered)), strips := [], utlb := {}, locals := []
      quarReq := quar, selfTest := true, was := if c.retiring then 4 else c.st, ran := false, upset := none }
    (d.giveBack n (.avoid n) c.strips).withdraw n stuck

/-- A spare entered service (R469). -/
def spareIn (d : Device) (unit new kind reason : Nat) : Device := ((d.count 11 0 0x060).event 11 0 0).logSpare unit new kind reason

/-- CROFT_SELF_TEST_DONE: step 7 of Table 5-8, and the end of a swap (R469). -/
def selfTestDone (d : Device) (n : Nat) (pass : Bool) : Device :=
  let c := d.croft n
  if c.st ≠ 0 ∨ ¬ c.selfTest then d
  else
    let done (st : Nat) (d : Device) : Device :=
      d.upCroft n (fun c => { c with st := st, selfTest := false, quarReq := false, swapFor := none })
    match c.swapFor with
    | some (w, reason) =>
      if pass then (((done 1 d).upCroft w (fun c => { c with st := 4, retiring := false })).event 11 0 1).spareIn w n 0 reason
      else (((done 4 d).upCroft w (fun c => { c with retiring := false })).event 11 0 1).logSpare n 0x1FF 0 2
    | none =>
      if c.was = 4 then done 4 d
      else if ¬ pass then (done 3 d).wornCroft n 2
      else done (if c.quarReq then 3 else c.was) d

/-- CROFT_STALL_TIMEOUT (R151, Table 18-2): a croft that has stalled, or whose control logic has met a duplicate-compare mismatch. -/
def croftStall (d : Device) (n : Nat) (mismatch : Bool) : Device :=
  let c := d.croft n
  if mismatch then d.resetCroft n false false
  else if (c.st = 1 ∨ c.st = 3) ∧ ¬ d.resetUnderWay ∧ c.strips.any (fun s => ¬ s.parked) then
    let (k, d) := d.noteWear 2 n 0 3600
    let d := d.resetCroft n false false
    if k ≥ 3 then d.wornCroft n 1 else d
  else d

/-- R155: a value written to CRF_CMD through the control matrix. -/
def crfCmd (d : Device) (n v : Nat) : Device :=
  let c := d.croft n
  if field v 1 1 = 1 then d.resetCroft n false true
  else if field v 0 1 = 1 then d.resetCroft n false (c.st = 3)
  else if field v 2 1 = 1 ∧ c.st = 3 then (d.resetCroft n false false).upCroft n (fun c => { c with was := if c.was = 4 then 4 else 1 })
  else d

/-- A strip with a failed check at its element: its checkpoint is that element, or the first that it holds results of (R145, R147). -/
def failedAt (c : Chain) (s : Strip) : Strip :=
  if s.tk.held ∧ ¬ s.released ∧ storeBits c.members ≠ 0 then clearElement s else { clearElement s with ckE := s.e, ck := s.base }

/-- A check failure of a croft at a strip's current element (R127, R128, R145, R156): dealt again once, then the job's failure; the flags of
the failed attempt go (R113). -/
def checkFails (d : Device) (n : Nat) (x : Cur) (site : Nat) (injected : Bool) : Device :=
  let s := failedAt x.c (d.stripOf n x)
  let t := s.tk
  let info := site + ofBool injected * 2 ^ 3 + x.m % 8 * 2 ^ 4 + (s.e - t.strip) % 2 ^ 16 * 2 ^ 8
  let d := (d.setRg 19 n 0x048 ((d.rg 19 n 0x048 + 1) % 2 ^ 32)).setRg 19 n 0x04C info
  let d := (d.setRg 19 n 0x050 (d.bellNow % 2 ^ 32)).setRg 19 n 0x054 (d.bellNow / 2 ^ 32)
  let d := d.logErr 19 n x.j.ch 0x01 info x.j.seq injected
  let d := if injected then d else d.wearCheck n
  let d := d.dropStrip n x.ix
  let d :=
    if t.attempt ≥ 1 then
      (d.dropCopies t).reportStrip n t {} (some { status := stCheckFail, instr := (x.c.first + x.m) % 65536, element := s.e })
    else
      d.upChain t.job x.c.first (fun c => { c with
        redeal := c.redeal ++ [({ againTicket s with attempt := 1, shun := some n }, .avoid n)]
        held := c.held.filter (fun h => ¬ (h.strip = t.strip ∧ h.croft = n)) })
  d.resetCroft n injected false

/-- HAMLET_FAULT (R453, R472): the hamlet's crofts quarantined, and its strips and tickets dealt again from their first elements; a serial
chain's image goes back to what it was before its open strip. -/
def hamletFault (d : Device) (h : Nat) : Device :=
  let ns := span (17 * h) 17
  let before := ns.map (fun n => (n, (d.croft n).st))
  let strips := ns.flatMap (fun n => (d.croft n).strips)
  let tickets := ns.flatMap (fun n => (d.croft n).deque)
  -- a PAIRED strip is dealt again as a new pair (Table 17-7)
  let all := (strips.map (fun s => { s.tk with first := s.tk.strip, count := s.tk.first + s.tk.count - s.tk.strip })) ++ tickets
  let whole (t : Ticket) : Ticket := { t with redealt := false, held := false, paired := false, copyB := false, third := false, owed := [] }
  let d := all.foldl (fun d t => if t.paired then d.dropCopies t else d) d
  let d := ns.foldl (fun d n => d.upCroft n (fun c => { c with strips := [], deque := [] })) d
  let d := all.foldl (fun d t => d.upChain t.job t.instr (fun c =>
    let t := if t.first = t.strip then whole t else { t with redealt := true }
    if c.redeal.any (fun r => r.1.strip = t.strip) then c
    else { c with redeal := c.redeal ++ [(t, .any)], held := c.held.filter (fun k => k.strip ≠ t.strip)
                  image := if t.first = t.strip ∧ isSerial c then c.imageBase else c.image })) d
  let d := ns.foldl (fun d n => d.resetCroft n false true) d
  let d := { d with spare := { d.spare with hamletFaults := d.spare.hamletFaults.set h (d.spare.hamletFaults.get 0 h + 1)
                                            hamletBefore := d.spare.hamletBefore.set h before } }
  ((d.count 10 0 0x070).logErr 10 h 0xFFF 0x06 2 0).event 10 0 2

/-! ## Elements started (R109, R149) -/

/-- The load with its value and its code in error: `err` holds 256 bits of the value, then 14 of the code. -/
def struckLoad (l : Load) (err : Nat) : Load := { l with val := l.val ^^^ err % 2 ^ 256, code := l.code ^^^ err / 2 ^ 256 % 2 ^ 14 }

/-- The first load of an element struck. -/
def strikeLoad (e err : Nat) : List Load → List Load
  | [] => []
  | l :: ls => if l.element = e then struckLoad l err :: ls else l :: strikeLoad e err ls

/-- An upset after LOAD_RESPONSE, by the rest of its operand: in a LOCAL entry (1), an operand buffer (2), the staging region (3), the control
logic (4), the Sower's combine unit (5), or a result, at a site of CRF_FI (8 and on) or in the temporary that it writes (13); then the bits it
strikes (DESIGN CHOICE, log entry 98). -/
def setUpset (d : Device) (n k : Nat) : Device :=
  if k = 0 then d
  else if k % 16 = 5 then { d with sower := { d.sower with upset := some (k / 16) } }
  else d.upCroft n (fun c => { c with upset := some (k % 16, k / 16) })

/-- What follows where the upset of a croft, if it is of one of these kinds, is met: what it is, and the croft without it. -/
def withUpset (d : Device) (n : Nat) (kinds : List Nat) (k : Nat × Nat → Device → Device) : Device :=
  match (d.croft n).upset with
  | some u => if kinds.contains u.1 then k u (d.upCroft n (fun c => { c with upset := none })) else k (0, 0) d
  | none => k (0, 0) d

/-- ELEMENT_START: the strip's element enters the pipes once its operands are in the croft and all it needs is translated (R141, R149); `ue` is
an uncorrectable error in a LOCAL entry that it reads, handled as a check failure (R201), `err` an error in an operand buffer. -/
def startElement (d : Device) (n : Nat) (ue : Bool) (err : Nat) : Device :=
  match d.cur n with
  | none => d
  | some x =>
    let cr := d.croft n
    if x.s.entered ∨ x.s.storing ∨ x.copies cr ≠ [] ∨ x.wants cr ≠ [] then d
    else
      match d.touchAll n x (x.touches cr) with
      | (.ok, d) =>
        let locals := x.views.find? (fun y => (List.range y.i.nsrc).any (fun no => (y.i.slot no).kind = kLocal))
        -- the loads' own errors, in the order in which their operands were asked for (R149, R206)
        let bads := x.views.filterMap (fun y => (x.s.loads.find? (fun l => l.member = y.m && l.element = x.s.e && l.bad ≠ 0)).map (fun l => (y, l.bad)))
        match bads.head?, (if ue then locals else none) with
        | some (y, st), _ => d.stopHere n y st
        | none, some y => d.checkFails n y ((pipesOf y.i.opcode).headD 4) false
        | none, none =>
          let s := d.stripOf n x
          d.putStrip n x.ix { s with entered := true, loads := strikeLoad s.e err s.loads }
      | (_, d) => d

/-! ## Results checked and delivered (R142, R144, R147, R149) -/

/-- CRF_FI armed at one of the sites of a result: the injection fires (R156). -/
def firedSite (d : Device) (n : Nat) (sites : List Nat) : Option Nat :=
  let fi := d.rg 19 n 0x044
  if field fi 8 1 = 1 ∧ sites.contains (field fi 0 3) then some (field fi 0 3) else none

/-- The page after an injection has fired. -/
def fiFired (d : Device) (n : Nat) : Device := (d.setFld 19 n 0x044 8 1 0).setFld 19 n 0x044 9 1 1

/-- A destination of the current result prepared: its stores, or what stops it. -/
inductive Dest where
  | ok (ss : List Store) | miss | cause (c va : Nat) | fail (status : Nat)
  deriving DecidableEq, Repr

/-- SCATTER_ADD: the contribution of the active lanes; an inactive lane adds nothing (R67, R103). -/
def contribution (i : SInstr) (act v : Nat) : Nat :=
  ofLanes i.w ((List.range i.lanes).map (fun k => if act.testBit k then laneOf i.w v k else 0))

/-- Stores of one destination of the current result, translated (R149: the Fence comes after every check of the element). -/
def destOf (d : Device) (n : Nat) (x : Cur) (r : Result) (no : Nat) : Dest × Device :=
  match x.pieces r no with
  | none => (.ok [], d)
  | some p =>
    match d.croftXlates n x no (storeAccess x.i) (noSideSlot (x.i.slot no)) p.parts with
    | (.miss, d) => (.miss, d)
    | (.lost, d) => (.fail stMemoryLost, d)
    | (.cause c v, d) => (.cause c v, d)
    | (.ok ps se, d) =>
      let add := if x.i.opcode = 0x52 then x.i.w else 0
      let bytes := if x.i.opcode = 0x52 then laneBytes x.i.w x.i.allLanes (contribution x.i r.active r.d0) 16 else p.bytes
      (.ok ((cutSlots (placeCells p.va bytes ps)).map (fun c => { member := x.m, slot := no, element := x.s.e, cells := c, add := add, se := se })), d)

/-- Bytes at their places cut into runs of neighbours. -/
def placeRuns : List (Nat × Byte) → List (Nat × List Byte)
  | [] => []
  | (a, b) :: rest =>
    match placeRuns rest with
    | (a', bs) :: more => if a + 1 = a' then (a, b :: bs) :: more else (a, [b]) :: (a', bs) :: more
    | [] => [(a, [b])]

/-- Runs written one after another to a slot, each joined to the one that it continues so that a burst they cover whole loses its poison (R131,
R205); `false` where one reaches a LOST stack. -/
def writeRuns (d : Device) (base : Nat) : Map (Nat × Nat) → List (Nat × List Byte) → Bool × Map (Nat × Nat) × Device
  | runs, [] => (true, runs, d)
  | runs, (a, bs) :: rest =>
    let pa := base + a
    match d.writePa pa bs with
    | (.ok _, d) =>
      let mine := List.find? (fun (r : Nat × Nat × Nat) => r.2.2 = pa) runs
      let lo := (mine.map (fun r => r.2.1)).getD pa
      writeRuns (d.clearPoison lo (pa + bs.length - lo)) base (List.filter (fun (r : Nat × Nat × Nat) => r.2.2 ≠ pa) runs ++ [(pa + bs.length, (lo, pa + bs.length))]) rest
    | (_, d) => (false, runs, d)

/-- Copy A's results of an element written to its overflow slot: none where each lay within the slot dealt and could be written, else the status of
what stops the strip (R139, R206, R456). -/
def writeSlot (d : Device) (n : Nat) (x : Cur) (ss : List Store) : Option Nat × Device :=
  match d.slotOf x.s.tk with
  | none => (none, d)
  | some k =>
    let cells := slotCells x.c x.s.tk ss
    if cells.any (fun c => c.1 ≥ 0x20000) then (some stFenceViolation, d)
    else
      match d.writeRuns (slotBase k) (d.stripOf n x).runs (placeRuns cells) with
      | (true, runs, d) => (none, d.putStrip n x.ix { d.stripOf n x with runs := runs })
      | (false, _, d) => (some stMemoryLost, d)

/-- A strip whose last element is done: reported, or its digest delivered (R138, R150, R182). -/
def finishStrip (d : Device) (n : Nat) (x : Cur) (s : Strip) : Device :=
  if s.tk.held ∧ ¬ s.released then
    (d.putStrip n x.ix { s with waiting := true, digest := storeDigest s.staged }).upChain s.tk.job x.c.first
      (fun c => { c with held := c.held ++ [heldCopy n s s.base none] })
  else ((d.count 19 n 0x090).dropStrip n x.ix).reportStrip n s.tk (endState s.base s.fail) s.fail

/-- Whether a strip's checkpoint moves past an element (R147): at the ends of 256-element blocks in a REDUCE, and not over results that are
held. -/
def ckMoves (c : Chain) (s : Strip) (e : Nat) : Bool :=
  (!isReduce c || e % 256 = 0 || e = s.tk.first + s.tk.count) && (!s.tk.held || s.released || storeBits c.members = 0)

/-- An element all of whose stores are made or staged: the next one is due, and the checkpoint moves (R147). -/
def finishElement (d : Device) (n : Nat) (x : Cur) (s : Strip) : Device :=
  let held : Bool := s.tk.held && !s.released
  let s' := passElement s
  let s' := if held then { s' with staged := s.staged ++ s.stores, marks := s.marks ++ [(s'.e, s'.base)] } else s'
  let s' := if ckMoves x.c s s'.e then s' else { s' with ckE := s.ckE, ck := s.ck }
  if s'.e = s.tk.first + s.tk.count then (d.putStrip n x.ix s').finishStrip n x s' else d.putStrip n x.ix s'

/-- Temporaries that a result writes, with their codes; `err` strikes the first entry as it is stored: 256 bits of its value, 14 of its
code. -/
def newTemps (x : Cur) (r : Result) (err : Nat) : List Temp :=
  let ts : List Temp := (if x.i.d0.kind = kTemp then [{ k := x.i.d0.base, lo := r.d0, hi := r.hi, code := r.code }] else []) ++
    (if x.i.d1.kind = kTemp then [{ k := x.i.d1.base, lo := r.d1, hi := 0, code := r.code1 }] else [])
  match ts with
  | [] => []
  | t :: rest => { t with lo := t.lo ^^^ err % 2 ^ 128, hi := t.hi ^^^ err / 2 ^ 128 % 2 ^ 128, code := t.code ^^^ err / 2 ^ 256 % 2 ^ 14 } :: rest

/-- First store of a list that the Fence refuses: its member and address (R133, R456). -/
def refusedStore (d : Device) (ch : Nat) (ss : List Store) : Option (Nat × Nat) :=
  ss.findSome? (fun st =>
    let pa := (st.cells.map (·.pa)).headD 0
    let n := (st.cells.getLast?.map (fun c => c.pa + 1 - pa)).getD 0
    if d.fenceOk ch pa n then none else some (st.member, pa))

/-- First store of a list into a LOST stack, by member. -/
def lostStore (d : Device) (ss : List Store) : Option Nat :=
  ss.findSome? (fun st => if st.cells.any (fun c => regionOf (d.ownPa c.pa) = .hbm ∧ d.stackLost (d.ownPa c.pa)) then some st.member else none)

/-- The stores of a strip's element at the Fence, D0 before D1 and member after member (R133, R149): refused, or lost, they stop the strip;
passed, they are on their way. -/
def fenceElement (d : Device) (n slice : Nat) (x : Cur) (ss : List Store) (k : Device → Device) : Device :=
  match d.refusedStore x.j.ch ss with
  | some (m, pa) => (d.refuseFence x.j.ch slice pa false).stopHere n { x with m := m } stFenceViolation
  | none =>
    match (if x.c.journaled then none else d.lostStore ss) with
    | some m => d.stopHere n { x with m := m } stMemoryLost
    | none => k d

/-- The last member of an element delivered: its stores meet the Fence, or are staged; those staged in an overflow slot meet it now, for the slot
and for the destinations (R139). -/
def endElement (d : Device) (n : Nat) (x : Cur) (s : Strip) : Device :=
  let d := d.putStrip n x.ix s
  if s.tk.held then
    if needsSlot x.c then
      d.fenceElement n (hamletOf n) x s.stores (fun d =>
        match (if s.tk.follows then (none, d) else d.writeSlot n x s.stores) with
        | (none, d) => (d.count 19 n 0x060).finishElement n x { s with runs := (d.stripOf n x).runs }
        | (some st, d) =>
          (if st = stFenceViolation then d.refuseFence x.j.ch (hamletOf n) (slotBase ((d.slotOf s.tk).getD 0)) false else d).stopHere n x st)
    else (d.count 19 n 0x060).finishElement n x s
  else
    d.fenceElement n (hamletOf n) x s.stores (fun d =>
      let d := d.count 19 n 0x060
      if s.stores = [] then d.finishElement n x s else d.putStrip n x.ix { s with storing := true })

/-- A checked result handed to the next member or to the store port. -/
def deliver (d : Device) (n : Nat) (x : Cur) (r : Result) (ss : List Store) (err : Nat) : Device :=
  let s := d.stripOf n x
  let w := r.next.getD s.work
  let s := { s with work := { w with flags := s.work.flags ||| r.flags }, temps := newTemps x r err ++ s.temps, stores := s.stores ++ ss
                    result := none, member := x.m + 1 }
  if s.member < x.c.members.length then d.putStrip n x.ix s else d.endElement n x s

/-- Whether a held copy A still waits for its overflow slot (R139). -/
def waitsSlot (d : Device) (x : Cur) : Bool := x.s.tk.held && !x.s.tk.copyB && d.sower.overflowWait.contains (x.s.tk.job, x.c.first, x.s.tk.strip)

/-- PIPE_RESULT: the current member's result checked and delivered; at one element translation comes before the checks, and these before the
Fence (R149). `site` and `err` are an error that strikes it: in a pipe (0 to 3), at the store port (4), or in the temporary it writes (5). -/
def pipeResult (d : Device) (n site err : Nat) : Device :=
  match d.cur n with
  | none => d
  | some x =>
    match x.s.result with
    | none => d
    | some r =>
      if d.waitsSlot x then d
      else
        let sites := pipesOf x.i.opcode
        let r' := if sites.contains site then r.struckIn x.i site err else r
        match d.firedSite n sites with
        | some k => (d.fiFired n).checkFails n x k true
        | none =>
          if ¬ x.passes (d.croft n) site r r' then d.checkFails n x (if sites.contains site then site else sites.headD 4) false
          else
            let r := x.checked r'
            let r' := if site = 4 then r.struck x.i err else r
            match d.destOf n x r' 3 with
            | (.miss, d) => d
            | (.cause c v, d) => d.faultStrip n x c v (storeAccess x.i)
            | (.fail st, d) => d.stopHere n x st
            | (.ok a, d) =>
              match d.destOf n x r' 4 with
              | (.miss, d) => d
              | (.cause c v, d) => d.faultStrip n x c v .write
              | (.fail st, d) => d.stopHere n x st
              | (.ok b, d) =>
                -- the residue check of the store port is for what leaves by it (Table 5-5)
                let leaves : Bool := (x.pieces r 3).isSome || (x.pieces r 4).isSome
                match (if leaves then d.firedSite n [4] else none) with
                | some k => (d.fiFired n).checkFails n x k true
                | none =>
                  if leaves ∧ ¬ r'.codesOk then d.checkFails n x 4 false
                  else d.deliver n x r (a ++ b) (if site = 5 then err else 0)

/-- Store coalescing (Table 5-1, R131): a store of whole bytes that goes on where the run of its member and slot ended, in the same
128-byte block, is one write with it, so that a burst the run covers whole loses its poison (R205). -/
def joinRun (d : Device) (runs : Map (Nat × Nat)) (st : Store) : Map (Nat × Nat) × Device :=
  match st.cells with
  | [] => (runs, d)
  | c :: _ =>
    if st.add ≠ 0 ∨ st.cells.any (fun k => k.m ≠ 255) then (runs, d)
    else
      let key := st.member * 8 + st.slot
      let pa := d.ownPa c.pa
      let old := runs.get (pa, pa) key
      let lo := if old.2 = pa ∧ pa % 128 ≠ 0 then old.1 else pa
      let hi := pa + st.cells.length
      (runs.set key (lo, hi), if regionOf pa = .hbm then d.clearPoison lo (hi - lo) else d)

/-- How a store past the Fence ends: made or staged, to be waited for, or failed. -/
inductive Acked where
  | made | wait | fail (status : Nat)
  deriving DecidableEq, Repr

/-- A store of a strip made in memory, or in the staged image of a journaled chain (R264). -/
def ackStore (d : Device) (n : Nat) (x : Cur) (st : Store) : Acked × Device :=
  let tag := x.s.tk.job
  if x.c.journaled then
    match d.stageStores x.j.ch (hamletOf n) x.c.image [st] with
    | (.ok image, d) => (.made, d.upChain tag x.c.first (fun c => { c with image := image }))
    | (.wait, d) => (.wait, d)
    | (.fail s, d) => (.fail s, d)
  else
    match (if st.se then d.oweSide x.j tag else none) with
    | some d => (.wait, d)
    | none =>
      match d.makeStore tag st with
      | (.ok _, d) =>
        let (runs, d) := d.joinRun x.s.runs st
        (.made, d.putStrip n x.ix { d.stripOf n x with runs := runs })
      | (.wait, d) => (.wait, d)
      | (.poison, d) => (.fail (if st.add ≠ 0 then stPoison else stMemoryLost), d)
      | (_, d) => (.fail stMemoryLost, d)

/-- The head store of a strip acknowledged; after an element's last the next element is due, and after a strip's last the strip is done. -/
def ackHead (d : Device) (n : Nat) (x : Cur) (st : Store) (rest : List Store) : Device :=
  match d.ackStore n x st with
  | (.wait, d) => d
  | (.fail status, d) => d.stopStrip n x { status := status, instr := (x.c.first + st.member) % 65536, element := st.element }
  | (.made, d) =>
    let s := { d.stripOf n x with stores := rest, entered := true }
    if s.released then
      let s := if (rest.head?.map (·.element)) = some st.element then s else toNext (isReduce x.c) s
      if rest = [] then (d.putStrip n x.ix s).finishStrip n x s else d.putStrip n x.ix s
    else if rest ≠ [] then d.putStrip n x.ix s
    else if st.element < s.e then
      -- the last store that was owed for the elements below
      let s := { s with storing := false, entered := false }
      if s.e = s.tk.first + s.tk.count then (d.putStrip n x.ix s).finishStrip n x s else d.putStrip n x.ix s
    else d.finishElement n x { s with stores := [] }

/-- STORE_ACK: the head store of the oldest strip acknowledged, in element order, D0 before D1 (R133). The stores of a released strip meet the
Fence element by element, those from an overflow slot the Green's slice (R138, R139). `ue` is an uncorrectable error of a
staged result in the croft, handled as a check failure (R201). -/
def storeAck (d : Device) (n : Nat) (ue : Bool) : Device :=
  match d.cur n with
  | none => d
  | some x =>
    if ¬ x.s.storing then d
    else
      match x.s.stores with
      | [] => if x.s.released then d.finishStrip n x x.s else d.finishElement n x x.s
      | st :: rest =>
        let x := { x with m := st.member }
        if x.s.released ∧ ¬ needsSlot x.c ∧ ue then d.checkFails n x 4 false
        else
          if x.s.released ∧ ¬ x.s.entered then
            d.fenceElement n (if needsSlot x.c then greenSlice else hamletOf n) x (x.s.stores.filter (fun k => k.element = st.element))
              (fun d => (d.putStrip n x.ix { d.stripOf n x with entered := true }).ackHead n x st rest)
          else d.ackHead n x st rest

/-! ## Commit (R172) -/

/-- The failure that a job's failed strip gives it: of several translation faults the lowest by instruction, then element (R72). -/
def reportedFail (j : Job) (f : Fail) : Fail :=
  if Fail.ofXlt f then
    let fs := (j.chains.flatMap (fun c => c.ready.filterMap (·.fail))).filter (fun g => Fail.ofXlt g)
    (argmin (fun (g : Fail) => g.instr * 2 ^ 40 + g.element) fs).getD f
  else f

/-- STRIP_COMMIT: the next strip of the job's first chain that has one left, its flags ORed into the job's. A failed strip fixes the job's
failure once every earlier chain is complete, so that these hold their results (R74). -/
def commitStrip (d : Device) (tag : Nat) : Device :=
  match d.job? tag with
  | none => d
  | some j =>
    match (aheadOf j.chains).head? with
    | none => d
    | some c =>
      match (if d.power.standClass ≥ 2 then none else c.ready.find? (fun r => r.strip = c.committed)) with
      | none => d
      | some r =>
        let flagged (d : Device) : Device := d.upJob tag (fun j => { j with flags := j.flags ||| r.flags, sownFlags := j.sownFlags ||| r.flags })
        match r.fail with
        | some f => if (j.chains.head?.map (·.first)) = some c.first then (flagged d).failJob tag (reportedFail j f) else d
        | none => ((flagged d).upChain tag c.first (fun c => { c with ready := c.ready.erase r, committed := c.committed + r.count })).capture 2 (some j.ch) r.croft r.body

/-! ## The combine unit (R68, R173) -/

/-- PARTIAL_COMBINE: one step of the first chain of the job that has one. -/
def combine (d : Device) (tag err : Nat) : Device :=
  match d.job? tag with
  | none => d
  | some j =>
    match j.chains.findSome? (fun c => match c.members.getLast? with
        | some i => (combineStep i c.len err c.nodes).map (fun r => (c.first, r))
        | none => none) with
    | some (first, ns, f) =>
      d.upChain tag first (fun c => { c with nodes := ns, treeFlags := c.treeFlags ||| f })
    | none => d

/-! ## Final writes (R65, R99, R104, R555) -/

/-- Value of D0 of a REDUCE, and the positions of D1. -/
def reduceValue (i : SInstr) (acc : LaneAcc) : Nat × Nat :=
  let lanes := (List.range i.lanes).map (fun k => (acc[k]?).getD none)
  let c := foldCtx i
  let vs := lanes.map (fun o => (o.map (·.1)).getD (foldIdentity c (foldFunc i)))
  let lo := ofLanes i.w (vs.map (fun v => v % 2 ^ i.w))
  let hi := ofLanes i.w (vs.map (fun v => v / 2 ^ i.w))
  (lo + (if i.wide then hi * 2 ^ 128 else 0), ofLanes 128 (lanes.map (fun o => (o.map (·.2)).getD (2 ^ 128 - 1))))

/-- Final pieces of a chain's last member, once its nodes are one: none where no final write is due. -/
def finalPieces (c : Chain) : Option (List Piece) :=
  match c.members.getLast? with
  | none => some []
  | some i =>
    if i.opcode = 0x60 then
      match c.nodes with
      | [n] =>
        if n.level = clog2 64 (ceilDiv c.len 256) then
          let (v, p) := reduceValue i n.acc
          some ([{ slot := 3, va := i.d0.base, bytes := laneBytes 8 0xFFFF v (if i.wide then 32 else 16) }] ++
            (if i.pos then [{ slot := 4, va := i.d1.base, bytes := laneBytes 8 0xFFFF p (16 * i.lanes) }] else []))
        else none
      | _ => none
    else if i.opcode = 0x45 ∧ i.d1.kind ≠ kNone then
      some [{ slot := 4, va := i.d1.base, bytes := laneBytes 8 0xFFFF (c.carry.packs.get 0 (c.members.length - 1)) 16 }]
    else some []

/-- How a write of the Sower ends. -/
inductive SWrite where
  | ok (ss : List Store) | wait | cause (c va : Nat) | fail (status : Nat)
  deriving DecidableEq, Repr

/-- Parts of a range translated for the Sower (Table 10-4: a User write); `held` marks a page that is translated already (R554). -/
def sowerXlates (d : Device) (ch : Nat) (acc : Access) (held : Bool) : List (Nat × Nat) → CXs × Device
  | [] => (.ok [] false, d)
  | (va, k) :: rest =>
    let away : Bool := (d.chan ch).origin.isSome
    match d.xlate (entSpace (d.entry ch)) va acc { user := true } away held with
    | (.wait, d) => (.miss, d)
    | (.lost, d) => (.lost, d)
    | (.cause c, d) => (.cause c va, d)
    | (.pa a se, d) =>
      let a := d.ownPa a
      if d.awayLost ch a then (.lost, d)
      else
        match sowerXlates d ch acc held rest with
        | (.ok ps s, d) => (.ok ((va, a, k) :: ps) (se || s), d)
        | r => r

/-- Runs of a write, each through the Green's slice; stores are made unless the chain is journaled. -/
def greenRuns (d : Device) (ch tag : Nat) (make : Bool) (member slot element : Nat) : List (List SCell) → SWrite × Device
  | [] => (.ok [], d)
  | c :: rest =>
    let pa := (c.map (·.pa)).headD 0
    if ¬ d.fenceOk ch pa ((c.getLast?.map (fun k => k.pa + 1 - pa)).getD 0) then (.fail stFenceViolation, d.refuseFence ch greenSlice pa false)
    else
      let st : Store := { member := member, slot := slot, element := element, cells := c }
      match (if make then d.makeStore tag st else (.ok 0, d)) with
      | (.ok _, d) =>
        match greenRuns d ch tag make member slot element rest with
        | (.ok ss, d) => (.ok (st :: ss), d)
        | r => r
      | (.wait, d) => (.wait, d)
      | (_, d) => (.fail stMemoryLost, d)

/-- Step 3 of Table 9-2 for a job's write to a side-effect page, where it is still to come (R296). -/
def sideFirst (d : Device) (tag : Nat) (se : Bool) : Option Device :=
  if se then (d.job? tag).bind (fun j => d.oweSide j tag) else none

/-- One piece written by the Sower. -/
def sowerPiece (d : Device) (ch tag : Nat) (make held : Bool) (member element : Nat) (p : Piece) : SWrite × Device :=
  match d.sowerXlates ch .write held p.parts with
  | (.miss, d) => (.wait, d)
  | (.lost, d) => (.fail stMemoryLost, d)
  | (.cause c v, d) => (.cause c v, d)
  | (.ok ps se, d) =>
    match d.sideFirst tag (make && se) with
    | some d => (.wait, d)
    | none => d.greenRuns ch tag make member p.slot element (cutSlots (placeCells p.va p.bytes ps))

/-- Stores of a chain's final writes made one by one, or staged, each counted, so that none is made twice (R65, R555). -/
def finalRuns (d : Device) (ch tag first : Nat) (make : Bool) (member slot element : Nat) : List (List SCell) → SWrite × Device
  | [] => (.ok [], d)
  | g :: rest =>
    match d.greenRuns ch tag make member slot element [g] with
    | (.ok ss, d) =>
      let runs := (d.chainOf tag first).elim [] (·.runs)
      let (runs, d) := if make then ss.foldl (fun p s => p.2.joinRun p.1 s) (runs, d) else (runs, d)
      finalRuns (d.upChain tag first (fun c => { c with finalAt := c.finalAt + 1, runs := runs, image := if make then c.image else c.image ++ ss }))
        ch tag first make member slot element rest
    | r => r

/-- A chain's final pieces written, in order, from the first store that is still to come; `k` stores belong to the pieces before. -/
def finalWrites (d : Device) (ch tag : Nat) (c : Chain) (member : Nat) : Nat → List Piece → SWrite × Device
  | _, [] => (.ok [], d)
  | k, p :: ps =>
    let n := (p.va + p.bytes.length - 1) / 16 - p.va / 16 + 1
    if k + n ≤ c.finalAt then finalWrites d ch tag c member (k + n) ps
    else
      match d.sowerXlates ch .write false p.parts with
      | (.miss, d) => (.wait, d)
      | (.lost, d) => (.fail stMemoryLost, d)
      | (.cause x v, d) => (.cause x v, d)
      | (.ok parts se, d) =>
        match d.sideFirst tag (!c.journaled && se) with
        | some d => (.wait, d)
        | none =>
          match d.finalRuns ch tag c.first (!c.journaled) member p.slot c.len ((cutSlots (placeCells p.va p.bytes parts)).drop (c.finalAt - k)) with
          | (.ok _, d) => finalWrites d ch tag c member (k + n) ps
          | r => r

/-- Bytes of a destination as they stand, for the parts that an image does not write; none while they have to be waited for, and zeros where they
cannot be read, for then nothing can be written there either (log entry 28). -/
def oldBytes (d : Device) (ch va n : Nat) : Option Nat × Device :=
  match d.sowerXlates ch .read false (pageParts va n) with
  | (.miss, d) => (none, d)
  | (.ok ps _, d) =>
    match d.readParts ch greenSlice [] va ps with
    | (.ok v, d) => (some v, d)
    | (.wait, d) => (none, d)
    | (_, d) => (some 0, d)
  | (_, d) => (some 0, d)

/-- One unit of an image laid out in the journal at a base. -/
def writeUnit (d : Device) (ch base : Nat) (c : Chain) (u : Nat × Nat × Nat × Nat × Nat) : Option Device :=
  let (m, no, off, va, n) := u
  let full : Bool := (List.range n).all (fun k => (imageByte c.image (va + k) 0).2 = 255)
  match (if full then (some 0, d) else d.oldBytes ch va n) with
  | (none, _) => none
  | (some old, d) =>
    let bytes := (List.range n).map (fun k => BitVec.ofNat 8 (imageByte c.image (va + k) (field old (8 * k) 8)).1)
    let index : List Byte := match c.members[m]? with
      | some i => if (i.slot no).kind = kIndexed then bytesOf 16 ((va - i.d0.base) / 16) else []
      | none => []
    some { d with mem := (d.mem.writeBytes (base + off) bytes).writeBytes (base + off - index.length) index }

/-- R265: a chain's staged image laid out in its journal extent: every byte of its destinations as the chain leaves it, and the entries that a
scatter leaves over with an index outside its window. None while an old value has to be waited for. -/
def writeImage (d : Device) (ch joff : Nat) (c : Chain) : Option Device :=
  let pa := d.journalBase ch + joff * 65536
  let (units, empty) := imageUnits c
  (units.foldl (fun r u => r.bind (fun d => writeUnit d ch (windowBase + pa) c u)) (some d)).map (fun d =>
    ({ d with mem := empty.foldl (fun m off => m.writeBytes (windowBase + pa + off) (bytesOf 16 (2 ^ 128 - 1))) d.mem } : Device).clearPoison pa
      (ceilDiv (imageBytes c.members c.len) 32 * 32))

/-- CHAIN_COMPLETE: the final write, then the journal's steps, then the end of the chain (R172, R264). -/
def chainComplete (d : Device) (tag : Nat) : Device :=
  match d.job? tag with
  | none => d
  | some j =>
    match j.chains with
    | [] => d
    | c :: rest =>
      if c.committed < c.len ∨ j.stop.isSome ∨ ¬ (d.chan j.ch).st.live ∨ j.faults.any (fun f => f.place = .finalWrite c.first) then d
      else if ¬ c.finalMade then
        match finalPieces c with
        | none => d
        | some ps =>
          let member := c.members.length - 1
          match d.finalWrites j.ch tag c member 0 ps with
          | (.ok _, d) => d.upChain tag c.first (fun c => { c with finalMade := true })
          | (.wait, d) => d
          | (.cause x va, d) => d.sowerFault tag x va ((c.first + member) % 65536) c.len .write (.finalWrite c.first)
          | (.fail st, d) => d.failJob tag { status := st, instr := (c.first + member) % 65536, element := c.len }
      else if c.journaled ∧ ¬ (j.jphase = .committed ∧ j.jchain = c.first % 65536) then
        if c.commitLeft.isSome ∨ ¬ d.hasExtent tag ∨ ¬ d.placesServe (d.entry j.ch) then d
        else
          match (d.upChain tag c.first (fun c => { c with commitLeft := some c.image })).writeImage j.ch j.joff c with
          | none => d
          | some d =>
          let d : Device := { d with ledger := { d.ledger with images := d.ledger.images.filter (fun x => ¬ (x.1 = j.ch ∧ x.2.1 = j.joff)) ++ [(j.ch, j.joff, c)] } }
          d.oweLedger tag 5 (c.first % 65536) j.joff
      else
        let d := if c.journaled then d.freeExtent tag else d
        -- the flags of the tree's combines count with the chain (R112, R114)
        (d.upJob tag (fun j => { j with chains := rest, flags := j.flags ||| c.treeFlags, sownFlags := j.sownFlags ||| c.treeFlags })).settle tag

/-! ## Journal commit (R264, R557) -/

/-- ELEMENT of a commit write: the element of the destination that is written, which is a scatter's target and a COMPRESS's place in its packed
stream (R557). -/
def commitElement (c : Chain) (st : Store) : Nat :=
  match c.members[st.member]? with
  | some i =>
    if i.opcode = 0x51 ∨ i.opcode = 0x52 ∨ (i.opcode = 0x45 ∧ st.slot = 3) then ((st.cells.map (·.va)).headD 0 - i.d0.base) / 16 else st.element
  | none => st.element

/-- The bytes of a staged store as the journal holds them, with the bits that are written (R249, R557). -/
def stagedBytes (d : Device) (ch joff : Nat) (c : Chain) (st : Store) : Read × Device :=
  let n := (storeBytes st.cells).length
  match d.readPa (d.journalBase ch + joff * 65536 + imagePlace c st ((st.cells.map (·.va)).headD 0)) n with
  | (.ok v, d) => (.ok v, d)
  | (.wait, d) => (.wait, d)
  | (.poison, d) => (.fail stPoison, d)
  | (_, d) => (.fail stMemoryLost, d)

/-- Up to `n` staged stores copied onto their destinations; the answer is what is left, or what stopped the copy. -/
def commitStores (d : Device) (ch tag joff : Nat) (c : Chain) :
    Nat → Map (Nat × Nat) → List Store → (Map (Nat × Nat) × List Store × Option (Store × SWrite)) × Device
  | 0, runs, ss => ((runs, ss, none), d)
  | _, runs, [] => ((runs, [], none), d)
  | n + 1, runs, st :: rest =>
    let va := (st.cells.map (·.va)).headD 0
    match d.stagedBytes ch joff c st with
    | (.wait, d) => ((runs, st :: rest, some (st, .wait)), d)
    | (.fail s, d) => ((runs, st :: rest, some (st, .fail s)), d)
    | (.ok v, d) =>
      let bytes := (storeBytes st.cells).zipIdx.map (fun k => (field v (8 * k.2) 8, k.1.2))
      match d.sowerPiece ch tag true false st.member st.element { slot := st.slot, va := va, bytes := bytes } with
      | (.ok ss, d) =>
        let (runs, d) := ss.foldl (fun p s => p.2.joinRun p.1 s) (runs, d)
        commitStores d ch tag joff c n runs rest
      | (r, d) => ((runs, st :: rest, some (st, r)), d)

/-- JOURNAL_COMMIT: a piece of the image copied after STAGED is durable; when all is copied step 6 is owed. -/
def journalCommit (d : Device) (tag : Nat) : Device :=
  match d.job? tag with
  | none => d
  | some j =>
    match j.chains with
    | [] => d
    | c :: _ =>
      match c.commitLeft with
      | none => d
      | some left =>
        if ¬ (j.jphase = .staged ∧ j.jchain = c.first % 65536) ∨ j.stop.isSome ∨ ¬ (d.chan j.ch).st.live ∨ d.stoodDown ∨
            j.faults.any (fun f => f.place = .commit c.first) ∨ (d.chan j.ch).ledgerQ.any (fun w => w.tag = tag && w.step = 6) then d
        else
          let ((runs, left, stop), d) := d.commitStores j.ch tag j.joff c 4096 c.runs left
          let d := d.upChain tag c.first (fun c => { c with commitLeft := some left, runs := runs })
          match stop with
          | none => if left = [] then d.oweLedger tag 6 (c.first % 65536) j.joff else d
          | some (st, r) =>
            let instr := (c.first + st.member) % 65536
            match r with
            | .cause x va => d.sowerFault tag x va instr (commitElement c st) .write (.commit c.first)
            | .fail s => d.failJob tag { status := s, instr := instr, element := commitElement c st }
            | _ => d

/-! ## Witness (R182, R183) -/

/-- A held copy released: it stores from staging, or from its overflow slot (R139, R182), into memory or the image of a journaled chain. -/
def releaseCopy (d : Device) (tag first : Nat) (h : HeldCopy) : Device :=
  match (d.croft h.croft).strips.findIdx? (fun s => s.tk.job = tag && s.tk.instr = first && s.tk.strip = h.strip), d.chainOf tag first with
  | some k, some c =>
    match (d.croft h.croft).strips[k]? with
    | none => d
    | some s =>
      let (got, d) := if needsSlot c ∧ ¬ s.tk.follows then d.readSlot c s.tk s.staged else (.ok s.staged, d)
      let lost (st : Nat) : Option Fail := some { status := st, instr := c.first % 65536, element := s.tk.first }
      let s := { s with waiting := false, released := true, storing := true, staged := [], runs := []
                        stores := match got with
                          | .ok ss => ss
                          | _ => []
                        fail := match got with
                          | .fail st => lost st
                          | _ => s.fail }
      let s := toNext (isReduce c) s
      if s.stores = [] then ((d.count 19 h.croft 0x090).dropStrip h.croft k).reportStrip h.croft s.tk (endState s.base s.fail) s.fail
      else d.putStrip h.croft k s
  | _, _ => d

/-- Held copies of a strip but one taken off their crofts. -/
def discardOthers (d : Device) (tag first : Nat) (keep : HeldCopy) (hs : List HeldCopy) : Device :=
  hs.foldl (fun d h =>
    if h.croft = keep.croft then d
    else d.upCroft h.croft (fun c => { c with strips := c.strips.filter (fun s => ¬ (s.tk.job = tag ∧ s.tk.instr = first ∧ s.tk.strip = h.strip)) })) d

/-- Whether two copies agree on values, flags and partials. -/
def copiesAgree (a b : HeldCopy) : Bool := a.digest = b.digest && a.ck = b.ck && a.fail = b.fail

/-- The first strip of a chain whose copies are ready to be compared: two, or three after a mismatch. -/
def comparable (d : Device) (tag : Nat) (c : Chain) : Option (List HeldCopy) :=
  c.held.findSome? (fun h =>
    let hs := c.held.filter (fun k => k.strip = h.strip)
    let thirdOut : Bool := c.redeal.any (fun r => r.1.third && r.1.strip = h.strip) ||
      d.crofts.any (fun (e : Nat × Croft) => e.2.deque.any (fun t => t.job = tag && t.instr = c.first && t.strip = h.strip && t.third) ||
        e.2.strips.any (fun s => s.tk.job = tag && s.tk.instr = c.first && s.tk.strip = h.strip && s.tk.third))
    if (hs.length = 2 ∧ ¬ thirdOut) ∨ hs.length ≥ 3 then some hs else none)

/-- Copies of a strip that has been decided are no longer kept for comparison. -/
def clearHeld (d : Device) (tag first strip : Nat) : Device :=
  d.upChain tag first (fun c => { c with held := c.held.filter (fun h => h.strip ≠ strip) })

/-- WITNESS_COMPARE: the digests of a strip compared. -/
def witness (d : Device) (tag : Nat) : Device :=
  match d.job? tag with
  | none => d
  | some j =>
    match j.chains.findSome? (fun c => (d.comparable tag c).map (fun hs => (c, hs))) with
    | none => d
    | some (c, hs) =>
      match hs.find? (fun h => h.third), hs.filter (fun h => ¬ h.third) with
      | none, [a, b] =>
        if copiesAgree a b then
          let keep := if a.copyB then b else a
          ((d.discardOthers tag c.first keep [a, b]).releaseCopy tag c.first keep).clearHeld tag c.first a.strip
        else
          -- from where the longer of the two copies began
          let h := if a.first ≤ b.first then a else b
          -- Table 6-1 is silent on a third copy's PAIRED and COPY: they read 1 and 0 (DESIGN CHOICE, log entry 119)
          let t : Ticket := { d.freshTicket j.ch (d.gov j) tag c h.first h.count h.strip h.start false with held := true, paired := true, third := true }
          ((d.homeLookup j.ch c.members h.strip).count 2 0 0x090).upChain tag c.first (fun c => { c with redeal := c.redeal ++ [(t, .any)] })
      | some k, [a, b] =>
        let lone (x : HeldCopy) (d : Device) : Device := (d.wearCheck x.croft).resetCroft x.croft false false
        if copiesAgree k a then lone b (((d.discardOthers tag c.first a [a, b, k]).releaseCopy tag c.first a).clearHeld tag c.first a.strip)
        else if copiesAgree k b then lone a (((d.discardOthers tag c.first b [a, b, k]).releaseCopy tag c.first b).clearHeld tag c.first a.strip)
        else
          let t : Ticket := { job := tag, channel := j.ch, instr := c.first, members := c.members.length, first := a.first, count := a.count, strip := a.strip }
          (d.dropCopies t).reportStrip k.croft t {} (some { status := stCheckFail, instr := c.first % 65536, element := a.strip })
      | _, _ => d

/-! ## COPY and FILL jobs (R226) -/

/-- What reading a COPY job's source gives: the bytes of the unit at an offset, or what stops it. -/
inductive Source where
  | ok (v : Nat) | wait | cause (c va : Nat) | fail (status : Nat)
  deriving DecidableEq, Repr

/-- Whether a 64 KiB piece has translated the page of an address before, at an offset of its job (R554). -/
def pieceHolds (off va : Nat) : Bool := off % 65536 ≠ 0 && va % 4096 ≥ 16

/-- The 16 bytes of a COPY/FILL job's source at an offset. Off the module the rest of their 128-byte block, as far as the piece goes, is read with
them and kept, so that one request brings each block and no byte is read twice (R226, R294); a block that cannot be read whole is read unit by
unit. -/
def copySource (d : Device) (tag : Nat) (j : Job) (off : Nat) : Source × Device :=
  if dsFill j.desc then (.ok (dsPattern j.desc), d)
  else
    let kept : Option Nat := j.copyBuf.bind (fun b => if b.1 ≤ off ∧ off + 16 ≤ b.1 + b.2.1 then some (field b.2.2 (8 * (off - b.1)) 128) else none)
    match kept with
    | some v => (.ok v, d)
    | none =>
      let va := dsProgram j.desc + off
      match d.sowerXlates j.ch .read (pieceHolds off va) [(va, 16)] with
      | (.cause c v, d) => (.cause c v, d)
      | (.lost, d) => (.fail stMemoryLost, d)
      | (.miss, d) => (.wait, d)
      | (.ok ps se, d) =>
        let pa := (ps.map (fun p => p.2.1)).headD 0
        let left := min (dsBytes j.desc - off) (65536 - off % 65536)
        let n := min (128 - va % 128 / 16 * 16) left / 16 * 16
        let r := regionOf (d.ownPa pa)
        let keep (n v : Nat) (d : Device) : Device := d.upJob tag (fun j => { j with copyBuf := some (off, n, v) })
        let alone (d : Device) : Source × Device :=
          match d.readParts j.ch greenSlice [] va ps with
          | (.ok v, d) => (.ok v, if se then keep 16 v d else d)
          | (.wait, d) => (.wait, d)
          | (.fail st, d) => (.fail st, d)
        if r = .hbm ∨ r = .granary ∨ n ≤ 16 ∨ va % 16 ≠ 0 then alone d
        else
          match d.readPa pa n with
          | (.ok v, d) => (.ok (v % 2 ^ 128), keep n v d)
          | (.wait, d) => (.wait, d)
          | (_, d) => alone d

/-- One 16-byte unit of a COPY/FILL job at an offset. -/
def copyUnit (d : Device) (tag : Nat) (j : Job) (off : Nat) : SWrite × Access × Device :=
  match d.copySource tag j off with
  | (.cause c v, d) => (.cause c v, .read, d)
  | (.wait, d) => (.wait, .read, d)
  | (.fail st, d) => (.fail st, .read, d)
  | (.ok v, d) =>
    match d.sowerPiece j.ch tag true (pieceHolds off (dsDst j.desc + off)) 0 0 { slot := 3, va := dsDst j.desc + off, bytes := (bytesOf 16 v).map (fun b => (b.toNat, 255)) } with
    | (r, d) => (r, .write, d)

/-- Units of a piece from an offset: how far it came, its run of stores, and what stopped it. -/
def copyUnits (d : Device) (tag : Nat) (j : Job) : Nat → Map (Nat × Nat) → Nat → Nat × Map (Nat × Nat) × Option (SWrite × Access) × Device
  | 0, runs, off => (off, runs, none, d)
  | n + 1, runs, off =>
    if off ≥ dsBytes j.desc then (off, runs, none, d)
    else
      match d.copyUnit tag ((d.job? tag).getD j) off with
      | (.ok ss, _, d) =>
        let (runs, d) := ss.foldl (fun p s => p.2.joinRun p.1 s) (runs, d)
        copyUnits d tag j n runs (off + 16)
      | (r, a, d) => (off, runs, some (r, a), d)

/-- R233, R251: whether a COPY/FILL job's current piece waits for earlier jobs of its channel. -/
def pieceWaits (d : Device) (j : Job) : Bool :=
  let n := min (dsBytes j.desc - j.copied) (65536 - j.copied % 65536)
  let at_ (base : Nat) : List (Nat × Nat) := [(base + j.copied, base + j.copied + n - 1)]
  d.jobWaits j (if dsFill j.desc then [] else at_ (dsProgram j.desc)) (at_ (dsDst j.desc))

/-- COPY_JOB and FILL_JOB: the job starts, or moves the rest of its current 64 KiB piece. -/
def copyJob (d : Device) (tag : Nat) (fill : Bool) : Device :=
  match d.job? tag with
  | none => d
  | some j =>
    if dsKind j.desc ≠ 2 ∨ dsFill j.desc ≠ fill then d
    else if j.st = .waiting then (if d.mayStart j then d.startJob tag else d)
    else if (j.st ≠ .running) ∨ ¬ j.startedDurable ∨ j.workDone ∨ j.stop.isSome ∨ d.stoodDown ∨ ¬ (d.chan j.ch).st.live then d
    else if j.copied ≥ dsBytes j.desc then d.upJob tag (fun j => { j with workDone := true })
    else if j.copied % 65536 = 0 ∧ (d.chan j.ch).quota ≠ 0 ∧ (d.chan j.ch).budget = 0 then d
    else if d.pieceWaits j then d
    else
      let (off, runs, stop, d) := d.copyUnits tag j (4096 - j.copied % 65536 / 16) j.runs j.copied
      -- a piece costs its unit when its first bytes move (R174)
      let d := if j.copied % 65536 = 0 ∧ off ≠ j.copied then d.spendBudget j.ch else d
      let d := d.upJob tag (fun j => { j with copied := off, runs := runs, workDone := off ≥ dsBytes j.desc })
      match stop with
      | some (.cause c v, a) => d.sowerFault tag c v 0xFFFF (off / 16) a .copy
      | some (.fail st, _) => d.failJob tag { status := st, element := off / 16 }
      | _ => d

/-! ## Mode changes (R176 to R181) -/

/-- GLB_MODE_CMD (R177): ARM wins over CANCEL. A reserved encoding is ignored and recorded. -/
def modeValueOk (v : Nat) : Bool :=
  field v 0 2 ≠ 3 && field v 2 2 ≠ 3 && field v 6 2 ≠ 3 && (field v 8 7 = 0 || (30 ≤ field v 8 7 && field v 8 7 ≤ 90))

/-- R178: whether the ledger ceiling of a request suits every enabled channel and every mirror setup held here. -/
def modeLedgerOk (d : Device) (v : Nat) : Bool :=
  d.chans.all (fun e => e.2.st = .off || (d.entryNow e.1).all (fun x => ledgerPermits (field v 6 2) (entLedger x))) &&
  d.ledger.setups.all (fun s => ledgerPermits (field v 6 2) (entLedger s.entry))

/-- A ticket that waits to be dealt again, under a witness mode: what was dealt under the other one is dealt afresh from where it is to begin
(R178). -/
def underMode (paired : Bool) (t : Ticket) : Ticket :=
  if t.paired = paired ∨ t.third then t else { t with redealt := false, held := false, paired := false, copyB := false }

/-- Tickets that are to be dealt afresh, one for each strip. -/
def oneFresh (rs : List (Ticket × Redeal)) : List (Ticket × Redeal) :=
  rs.foldl (fun acc r => if ¬ r.1.redealt ∧ ¬ r.1.third ∧ acc.any (fun q => q.1.strip = r.1.strip) then acc else acc ++ [r]) []

/-- Steps 1 and 2 of Table 6-3: queued tickets withdrawn, and dealt again under the new mode with those that wait for that already; a copy whose
other copy is active stays a copy. -/
def withdrawAll (d : Device) : Device :=
  let ts := d.crofts.flatMap (fun (e : Nat × Croft) => e.2.deque)
  let d := { d with crofts := d.crofts.map (fun (e : Nat × Croft) => (e.1, { e.2 with deque := [] })) }
  let active (t : Ticket) : Bool := t.paired && d.crofts.any (fun (e : Nat × Croft) => e.2.strips.any (fun s => s.tk.job = t.job && s.tk.instr = t.instr && s.tk.strip = t.strip))
  let fresh (t : Ticket) : Ticket := if t.first = t.strip ∧ t.attempt = 0 ∧ ¬ t.third then { t with redealt := false, held := false, paired := false, copyB := false } else { t with redealt := true }
  { d with jobs := d.jobs.map (fun (e : Nat × Job) =>
      let p := d.effPaired (d.gov e.2)
      (e.1, { e.2 with chains := e.2.chains.map (fun (c : Chain) =>
        let mine := ts.filter (fun t => t.job = e.1 && t.instr = c.first)
        let again := c.redeal ++ mine.map (fun t => (if active t then { t with redealt := true } else fresh t, Redeal.any))
        { c with redeal := oneFresh (again.map (fun r => if active r.1 then r else (underMode p r.1, r.2))) }) })) }

/-- GLB_MODE_CANCEL: the pending request discarded. -/
def modeCancel (d : Device) : Device := ({ d with sower := { d.sower with modeReq := none } } : Device).setFld 1 0 0x050 0 1 0

/-- The request applied at the first cycle of its stroke (Table 6-3), or discarded. -/
def modeApply (d : Device) (v : Nat) : Device :=
  let d := d.modeCancel
  if ¬ d.modeLedgerOk v then d.event 1 0 2
  else
    let d := (d.setRg 1 0 0x040 v).withdrawAll
    let d := { d with jobs := d.jobs.map (fun (e : Nat × Job) =>
      let p := d.effPaired (d.gov e.2)
      (e.1, { e.2 with chains := e.2.chains.map (fun (c : Chain) => { c with size := heldSize p c.members c.base }) })) }
    let d := d.jobs.foldl (fun (d : Device) (e : Nat × Job) => if e.2.over then d else d.countClamp e.1) d
    let d : Device := { d with sower := { d.sower with paceOwed := [0, 1] } }
    d.event 1 0 1

/-- GLB_MODE_ARM: the request sampled; for a stroke that has begun it applies at once. -/
def modeArm (d : Device) : Device :=
  let v := d.rg 1 0 0x044
  let at_ := d.rg 1 0 0x048 + field (d.rg 1 0 0x04C) 0 8 * 2 ^ 32
  if ¬ modeValueOk v then d.err 1 0 0x01 0x050 0
  else if at_ ≤ d.stroke then d.modeApply v
  else ({ d with sower := { d.sower with modeReq := some (v, at_) } } : Device).setFld 1 0 0x050 0 1 1

/-- Croft clock of a die in MHz set. -/
def setClock (d : Device) (die mhz : Nat) : Device :=
  { d with sower := { d.sower with clock := if die = 0 then (mhz, d.sower.clock.2) else (d.sower.clock.1, mhz) } }

/-- Pace clock of the mode in force (R180): under LEAN a 50 MHz step from 600 to 1,800 that the spec fixes by power alone, a free value. -/
def paceClock (d : Device) : Nat × Device :=
  match d.fld 1 0 0x040 0 2 with
  | 0 => (1800, d)
  | 1 => (1500, d)
  | _ =>
    let (v, d) := d.takeFree 32
    (600 + 50 * (v % 25), d)

def clockOf (d : Device) (die : Nat) : Nat := if die = 0 then d.sower.clock.1 else d.sower.clock.2

/-- PACE_CLOCK_MOVE: a die's owed move made: at once where the clock falls, and owed to the module's stagger slot where it rises or where a
cap decides it (R178, R445). -/
def paceMove (d : Device) (die : Nat) : Device :=
  if d.sower.paceOwed.contains die then
    let d : Device := { d with sower := { d.sower with paceOwed := d.sower.paceOwed.erase die } }
    let pace := d.fld 1 0 0x040 0 2
    let target := if pace = 0 then 1800 else 1500
    if pace = 2 then { d with power := { d.power with capOwed := true } }
    else if target < d.clockOf die then (d.setClock die target).count 9 0 0x068
    else if target > d.clockOf die then { d with power := { d.power with stepUp := d.power.stepUp.erase die ++ [die] } }
    else d
  else d

end Device

end Sys2Proof.Machine
end

