-- ==== Sys2Proof/Machine/Faults.lean ====
section
/-! DEFINITION. The fault queue's answers: entries resolved, parked strips resumed or failed, and the index writes that wait for a
channel's entry (R71, R72, R178, R219, R243). -/
namespace Sys2Proof.Machine
namespace Device

/-! ## RETRY (R72, R178, R243) -/

/-- Whether a strip is a parked one of a job that was dealt under the other witness mode: it is dealt again under the mode in force, unless its
results are being stored, or it is a third copy, whose comparison has begun (R178). -/
def overtaken (p : Bool) (tag : Nat) (s : Strip) : Bool := s.tk.job = tag && s.parked && !s.released && !s.tk.third && (s.tk.paired != p)

/-- A parked strip taken off its croft, with its copies, and dealt again from its checkpoint under the witness mode in force. -/
def againUnder (d : Device) (p : Bool) (s : Strip) : Device :=
  let t := s.tk
  ((d.dropCopies t).freeSlot t.job t.instr t.strip).upChain t.job t.instr (fun c =>
    if c.redeal.any (fun r => r.1.strip = t.strip) then c
    else { c with redeal := c.redeal ++ [(underMode p (againTicket s), .any)], held := c.held.filter (fun h => h.strip ≠ t.strip) })

/-- The parked strips of a job resumed under the modes in force (Table 6-3, step 3). -/
def unpark (d : Device) (tag : Nat) (j : Job) : Device :=
  let p := d.effPaired (d.gov j)
  let g := d.effGlean (d.gov j)
  let old := d.crofts.flatMap (fun (e : Nat × Croft) => e.2.strips.filter (overtaken p tag))
  let d := old.foldl (fun d s => d.againUnder p s) d
  { d with crofts := d.crofts.map (fun (e : Nat × Croft) => (e.1, { e.2 with strips := e.2.strips.map (fun s =>
      if s.tk.job = tag ∧ s.parked then { s with parked := false, tk := { s.tk with glean := g } } else s) })) }

/-! ## FAIL (R72, R74, R243) -/

/-- The lowest fault of a job by instruction, then element (R72). -/
def lowestFault (fs : List JobFault) : Option JobFault := argmin (fun f => f.instr * 2 ^ 40 + f.element) fs

/-- The failure that a fault becomes. -/
def faultFail (f : JobFault) : Fail := { status := stFaultXlt, detail := f.cause, instr := f.instr, element := f.element }

/-- The fault that parks a strip. -/
def faultOf (fs : List JobFault) (first strip : Nat) : Option JobFault := fs.find? (fun f => f.place = .strip first strip)

/-- The strips of one croft that a list of faults parks, from place `k` down, stopped for good. -/
def failShelf (d : Device) (fs : List JobFault) (tag n : Nat) : Nat → Device
  | 0 => d
  | k + 1 =>
    let d := match (d.croft n).strips[k]? with
      | some s =>
        match (if s.tk.job = tag ∧ s.parked then faultOf fs s.tk.instr s.tk.strip else none) with
        | some f => d.failStrip n k s (faultFail f)
        | none => d
      | none => d
    failShelf d fs tag n k

/-- Every parked strip of a job stopped for good, those that wait to be dealt again among them. -/
def failParked (d : Device) (tag : Nat) (j : Job) : Device :=
  let d := d.crofts.foldl (fun d (e : Nat × Croft) => d.failShelf j.faults tag e.1 e.2.strips.length) d
  let queued := j.chains.flatMap (fun c => c.redeal.filterMap (fun r => (faultOf j.faults c.first r.1.strip).map (fun f => (r.1, faultFail f))))
  queued.foldl (fun d x =>
    (((d.upChain tag x.1.instr (fun c => { c with redeal := c.redeal.filter (fun r => r.1.strip ≠ x.1.strip) })).dropCopies x.1).reportStrip 0x1FF
      x.1 (endState x.1.ck (some x.2)) (some x.2))) d

/-- A job whose faults have been answered, but for one of its reeve's own: it stays PARKED until it is FINISHED (Table 8-6). -/
def onlyReeve (j : Job) : Job := { j with faults := j.faults.filter (fun g => g.place = .reeve), st := .parked }

/-- FAIL of a fault of the reeve's own: at a SOW's read it refuses that sown instruction (R336), else it fixes the job's status (Table 11-2). -/
def failReeve (d : Device) (tag : Nat) (j : Job) (f : JobFault) : Device :=
  if j.reeve.any (fun n => (d.reeve n).sow.isSome) then
    let fs := j.faults.filter (fun g => g.place ≠ .reeve)
    d.setJob tag { j with faults := fs, st := if fs = [] then .running else .parked
                          sown := j.sown ++ [sownStop stFaultXlt f.cause], sownCount := j.sownCount + 1 }
  else d.setJob tag { j with stop := some (stopping j (faultFail f)) }

/-- FAIL: the lowest fault fixes the job's FAULT_XLT at its place in the program order, so that every earlier instruction completes (R72,
R74): a strip's at its commit turn, a program read's once the chains before it are complete, any other at once. -/
def failFaults (d : Device) (tag : Nat) (j : Job) : Device :=
  match lowestFault j.faults with
  | none => d
  | some f =>
    match f.place with
    | .strip _ _ =>
      let d := ((d.failParked tag j).upJob tag onlyReeve).unpark tag j
      (match j.faults.find? (fun g => g.place = .program) with
       | some g => d.refuseAt tag (faultFail g)
       | none => d)
    | .program => (d.upJob tag onlyReeve).refuseAt tag (faultFail f)
    | .reeve => d.failReeve tag j f
    | _ => d.failJob tag (faultFail f)

/-- One posted entry resolved (R243): RETRY takes it away, and the last one resumes the job. -/
def resolveFault (d : Device) (ch ix : Nat) (act : Nat) : Device :=
  match (d.jobsOf ch).find? (fun e => e.2.faults.any (fun f => f.slot = some ix)) with
  | none => d
  | some (tag, j) =>
    if act = 0 then
      let fs := j.faults.filter (fun f => f.slot ≠ some ix)
      if fs = [] then (d.setJob tag { j with faults := [], st := .running }).unpark tag j
      else d.setJob tag { j with faults := fs }
    else if j.stop.isSome then d
    else d.failFaults tag j

/-! ## CHN_DB_FQ_HEAD (R243) -/

/-- The ACTIONs of `k` entries from an index, FAIL for one that cannot be read; none while one has to be waited for. After HLK_LINK_WAIT has ended
for one of them, it has ended for the others (R397). -/
def readActions (d : Device) (ch : Nat) (ended : Bool) : Nat → Nat → Option (List (Nat × Nat)) × Device
  | 0, _ => (some [], d)
  | k + 1, ix =>
    let read := d.readHigh (fqPa (d.entry ch) ix + 2) 1
    if read.1 = .wait ∧ ¬ ended then (none, read.2)
    else
      let (r, d) := read
      let act := match r with
        | .ok v => v
        | _ => 1
      match readActions d ch (ended || r = .err) k (ixAdvance (2 ^ entFqLog2 (d.entry ch)) ix 1) with
      | (some acts, d) => (some ((ix, act) :: acts), d)
      | (none, d) => (none, d)

/-- R243: resolved entries taken or refused against the entry in force; none while an ACTION has to be waited for. -/
def takeFqHead (d : Device) (ch v : Nat) : Option Device :=
  let c := d.chan ch
  let n := 2 ^ entFqLog2 (d.entry ch)
  if ixOk n v ∧ ixDist n c.fqHead v ≤ ixDist n c.fqHead c.fqTail then
    match d.readActions ch false (ixDist n c.fqHead v) c.fqHead with
    | (some acts, d) => some (acts.foldl (fun d a => d.resolveFault ch a.1 a.2) (d.upChan ch (fun c => { c with fqHead := v })))
    | (none, _) => none
  else some (d.refuseIndex ch false)

/-- R243, R223: a write of CHN_DB_FQ_HEAD. -/
def fqHeadWrite (d : Device) (ch v : Nat) : Device :=
  if shutState (d.chan ch).st then d.refuseIndex ch true
  else if mustHold (d.chan ch) 0x014 then d.holdWrite ch 0x014 v
  else (d.takeFqHead ch v).getD (d.holdWrite ch 0x014 v)

/-! ## Index writes that wait (R219) -/

/-- One waiting index write made, or put back behind those of its register that still wait. -/
def retryWrite (d : Device) (ch : Nat) (w : Nat × Nat) : Device :=
  if w.1 = 0x000 then d.takeTail ch w.2
  else if w.1 = 0x00C then d.takeCrHead ch w.2
  else d.fqHeadWrite ch w.2

/-- The index writes that wait for a channel's entry made, in their order, once it is cached; refused in a state that takes none. -/
def applyWaits (d : Device) (ch : Nat) : Device :=
  let c := d.chan ch
  if shutState c.st then c.waits.foldl (fun d _ => d.refuseIndex ch true) (d.setChan ch { c with waits := [] })
  else if c.entry.isNone then d
  else c.waits.foldl (fun d w => d.retryWrite ch w) (d.setChan ch { c with waits := [] })

end Device

end Sys2Proof.Machine
end

