-- ==== Sys2Proof/Machine/Recovery.lean ====
section
/-! DEFINITION. The ledger after a reset and away from home: recovery (R268 to R271), ENABLE's claim (R276), leases and yields (R274),
mirror setups, mirrored writes and their acknowledgements (R272, R273, R423), adoption (R275 to R279), hand-off (R280), CLEAR. -/
namespace Sys2Proof.Machine

/-- How reading a channel's header ends: not yet, no valid copy, or the winning copy (R269, R271). -/
inductive HdrRead where
  | wait | lost | ok (h : Nat)
  deriving DecidableEq, Repr

/-- The winning one of two valid headers: the later retirement point. -/
def hdrWinner (a b : Nat) : Nat := if hdrRseq a ≥ hdrRseq b ∧ a ≠ 0 then a else b

/-- Record of a sequence number furthest along Table 9-2 (R252). -/
def bestRec (rs : List Rec) (seq : Nat) : Option Rec :=
  rs.foldl (fun b r =>
    if r.seq ≠ seq then b
    else
      match b with
      | some x => if r.rank > x.rank then some r else b
      | none => some r) none

/-- Index of a sequence number from the base point of a header (R260), on a ring of `n` slots. -/
def ixFrom (n i0 seq0 seq : Nat) : Nat := ixAdvance n i0 ((seq + 2 * n * 2 ^ 64 - seq0) % (2 * n))

namespace Device

/-! ## Reading the ledger -/

/-- Valid directory copies of a channel. -/
def dirCopies (d : Device) (ch : Nat) : List Nat :=
  [0, 1].filterMap (fun k => match d.readPa (dirPa ch k) 64 with
    | (.ok v, _) => if hdrValid v then some v else none
    | _ => none)

/-- The winning header of a channel: the far header first where there is one (R276, R556), else the directory copy with the later RSEQ (DESIGN
CHOICE, log entry 94). -/
def readHeader (d : Device) (ch : Nat) : HdrRead :=
  let e := d.entry ch
  let near := match d.dirCopies ch with
    | [] => HdrRead.lost
    | a :: rest => .ok (rest.foldl hdrWinner a)
  if hasFar e then
    match (d.readPa (farBase e) 64).1 with
    | .wait => .wait
    | .ok v => if hdrValid v then .ok v else if hasNear e then near else .lost
    | _ => if hasNear e then near else .lost
  else near

/-- Valid records among 128-byte slots at the addresses given. -/
def recsAt (d : Device) (pas : List Nat) : List Rec :=
  pas.filterMap (fun pa => match d.readPa pa 128 with
    | (.ok v, _) => if recValid v then some (Rec.ofNat v) else none
    | _ => none)

/-- Slots of `size` bytes from a physical base that hold a nonzero byte, within `n` bytes. -/
def touched (d : Device) (base n size : Nat) : List Nat :=
  (d.mem.filterMap (fun c => if windowBase + base ≤ c.1 ∧ c.1 < windowBase + base + n then some ((c.1 - windowBase - base) / size) else none)).eraseDups

/-- Open and finished records that a channel's places hold at or above RSEQ; at adoption the mirror store's in place of near ones. A header of zeros starts from nothing (R556). -/
def recsOf (d : Device) (ch h : Nat) (mirror : Option (List Rec)) : List Rec :=
  let e := d.entry ch
  let near := if hasNear e ∧ mirror.isNone then
      (d.recsAt ((d.touched 0x47F8000000 0x4000000 128).map (fun k => 0x47F8000000 + 128 * k))).filter (fun r => r.chan = ch)
    else []
  let far := if hasFar e then d.recsAt ((d.touched (farBase e + 0x1000) (2 ^ farRecLog2 e * 128) 128).map (fun k => farBase e + 0x1000 + 128 * k)) else []
  if h = 0 then []
  else (near ++ far ++ mirror.getD []).filter (fun r => r.seq ≥ hdrRseq h && (r.state = 1 || r.state = 2))

/-! ## Recovery (R269) -/

/-- Whether the completion slot of some finished record cannot be read yet, so that recovery waits for it (R397). -/
def recordsWait (d : Device) (e : Nat) (recs : List Rec) : Bool :=
  recs.any (fun r => decide (r.state = 2) && decide ((d.readPa (crPa e r.cidx) 32).1 = .wait))

/-- record_written of R269; a slot that cannot be read is written again. -/
def recordWritten (d : Device) (ch : Nat) (r : Rec) : Bool :=
  match (d.readPa (crPa (d.entry ch) r.cidx) 32).1 with
  | .ok v => (field v 64 64 = r.seq && field v 24 1 ≠ field r.cidx 31 1) || field v 64 64 > r.seq
  | _ => false

/-- RECORD_LOST raised and logged (R271). -/
def recordLost (d : Device) (ch seq : Nat) : Device := (d.logErr 3 0 ch 0x0A 0 seq).event 3 0 0

/-- How the program of a recovered CONTROL job had ended, whose staged stores are to be committed again: its INSTR tells its record from that of
a sown chain (R267, log entry 93). -/
def exitOf (r : Rec) : Option (Option Fail) :=
  if dsKind r.desc = 1 ∧ r.state = 1 ∧ r.jstate = 2 ∧ r.instr = 0xFFFF then
    some (if r.status = 0 then none else some { status := r.status, detail := r.detail })
  else none

/-- The job of a recovered record, under a tag. -/
def jobOf (ch : Nat) (adopted : Bool) (r : Rec) : Job :=
  let replay := r.state = 1 ∧ r.started
  { ch := ch, seq := r.seq, jidx := r.jidx, cidx := r.cidx, desc := r.desc, acceptBell := r.acceptBell
    adopted := r.adopted || adopted, replayed := r.replayed || decide replay, flags := r.flags
    side := r.side, startedDurable := r.started, jchain := r.jchain, joff := r.joff
    jphase := if r.jstate = 1 then .staging else if r.jstate = 2 then .staged else if r.jstate = 3 then .committed else .none
    exitWith := exitOf r
    resume := if r.jstate = 0 then 0 else r.jchain, skipAt := r.jstate = 3, redo := r.jstate = 2 }

/-- A record that was finished: its completion record is written, or queued to be written again. -/
def finishedJob (ch : Nat) (adopted written : Bool) (r : Rec) : Job :=
  { jobOf ch adopted r with
    st := if written then .complete else .finished, status := r.status, detail := r.detail, instr := r.instr, element := r.element
    finishBell := r.finishBell, finishFree := r.bellFree, finishDurable := true, rewrite := !written
    jphase := .none, started := true }

/-- One sequence number recovered. -/
def recoverSeq (d : Device) (ch h : Nat) (adopted : Bool) (recs : List Rec) (seq : Nat) : Device :=
  let e := d.entry ch
  match bestRec recs seq with
  | none =>
    let tag := lowestTag d.usedTags d.usedTags.length 0
    let j : Job := { ch := ch, seq := seq, jidx := ixFrom (2 ^ entJrLog2 e) (hdrJidx0 h) (hdrSeq0 h) seq
                     cidx := ixFrom (2 ^ entCrLog2 e) (hdrCidx0 h) (hdrSeq0 h) seq, desc := 0, adopted := adopted }
    ((d.setJob tag j).finishJob tag { status := stMemoryLost }).recordLost ch seq
  | some r =>
    let tag := if adopted ∨ d.usedTags.contains r.tag then lowestTag d.usedTags d.usedTags.length 0 else r.tag
    if r.state = 2 then d.setJob tag (finishedJob ch adopted (d.recordWritten ch r) r)
    else
      let d := d.setJob tag (jobOf ch adopted r)
      if dsDeadline r.desc ≠ 0 ∧ dsDeadline r.desc ≤ d.stroke then (d.finishJob tag { status := stDeadline }).missDeadline (jobOf ch adopted r)
      else if r.side ∧ dsKind r.desc = 1 then d.finishJob tag { status := stAborted, detail := 0x01 }
      else if r.started then d.count 3 0 0x080 else d

/-- Lowest sequence number without a written record. -/
def firstUnwritten (d : Device) (ch : Nat) : List Nat → Nat → Nat
  | [], next => next
  | s :: rest, next => if (d.jobsOf ch).any (fun e => e.2.seq = s && e.2.st = .complete) then firstUnwritten d ch rest next else s

/-- A header claimed for a channel of this module (R277): owner, channel, epoch and lease. -/
def claimed (d : Device) (ch h : Nat) : Nat :=
  let h := putField (putField (putField (putField h 0 12 d.moduleId) 12 1 1) 14 1 0) 32 12 ch
  putField (putField (putField h 64 32 (hdrEpoch h + 1)) 128 40 (d.stroke + 8)) 13 1 (ofBool d.bellFree)

/-- The header of a claim written to the far region and read back: whether this module holds it now; none where it cannot be written yet. -/
def claimHdr (d : Device) (e h : Nat) : Option Bool × Device :=
  match d.writeHigh (farBase e) (bytesOf 64 (hdrSeal h)) with
  | (.ok _, d) =>
    match d.readPa (farBase e) 64 with
    | (.ok v, d) => (some (v = hdrSeal h), d)
    | (_, d) => (some false, d)
  | (_, d) => (none, d)

/-- The header that ENABLE, recovery or an adoption writes (R260). -/
def ownHeader (d : Device) (ch h next accept : Nat) : Nat :=
  let n := 2 ^ entCrLog2 (d.entry ch)
  let far := hasFar (d.entry ch)
  let c0 := ixFrom n (hdrCidx0 h) (hdrSeq0 h) next
  let h := putField (putField (putField h 0 12 d.moduleId) 12 1 1) 14 1 0
  let h := putField h 32 12 ch
  let h := if far then putField (putField h 128 40 (d.stroke + 8)) 13 1 (ofBool d.bellFree) else h
  putField (putField (putField h 192 64 next) 256 32 accept) 288 32 c0

/-- Of the journal extents of a channel's kept records, those that recovery copies out again (step 5 reached) stay; the rest are free, and their images go. -/
def keepExtents (d : Device) (ch : Nat) (recs : List Rec) : Device :=
  let mine := (d.chan ch).kept ++ (d.jobsOf ch).map (·.1)
  let redone (t : Nat) : Bool := recs.any (fun r => r.tag = t && r.state = 1 && r.jstate = 2)
  let left := d.ledger.extents.filter (fun x => !mine.contains x.2.1 || redone x.2.1)
  let gone := d.ledger.extents.filter (fun x => mine.contains x.2.1 && !redone x.2.1)
  { d with ledger := { d.ledger with extents := left, images := d.ledger.images.filter (fun x => !(x.1 = ch && gone.any (fun e => e.2.2.1 = x.2.1))) } }

/-- R269 for a channel whose entry is in force, from a header and the records found. -/
def restore (d : Device) (ch h : Nat) (adopted : Bool) (mirror : Option (List Rec)) : Device :=
  let e := d.entry ch
  let recs := d.recsOf ch h mirror
  let next := recs.foldl (fun m r => max m (r.seq + 1)) (hdrRseq h)
  let accept := ixFrom (2 ^ entJrLog2 e) (hdrJidx0 h) (hdrSeq0 h) next
  let seqs := span (hdrRseq h) (next - hdrRseq h)
  let d := d.keepExtents ch recs
  let d := { d with jobs := d.jobs.filter (fun x => x.2.ch ≠ ch) }
  let d := d.upChan ch (fun c => { c with ledgerQ := [], fetched := [], mirror := .none, hdrSent := false, kept := [], headTag := none, mirrorOut := [], setupDue := false, resync := false })
  let d := seqs.foldl (fun d s => d.recoverSeq ch h adopted recs s) d
  let done := ixFrom (2 ^ entCrLog2 e) (hdrCidx0 h) (hdrSeq0 h) (d.firstUnwritten ch seqs next)
  let d := d.upChan ch (fun c => { c with
    st := if hdrPaused h then .paused else .run, cmdBusy := false, recovering := false, recoverAll := false, wasBroken := false
    waits := [], pauseOwed := none, retiring := []
    tail := accept, accept := accept, seq := next, done := done, crHead := ixAdvance (2 ^ entCrLog2 e) done (2 ^ entCrLog2 e)
    fqTail := hdrFqTail h, fqHead := hdrFqTail h, quota := entQuota e, budget := entQuota e, leaseHeld := hasFar e, lease := d.stroke + 8
    leaseUnread := none, leaseFor := if hasFar e then some e else none, yielded := false, acceptStopped := false, handing := false, adopting := none })
  let d := d.writeHdr ch (d.ownHeader ch h next accept)
  let d := d.sendSetup ch
  if (d.chan ch).abortAfter then (d.upChan ch (fun c => { c with abortAfter := false, st := .run })).abortChan ch else d

/-- A channel that recovery after a reset does not cover (R268): BROKEN if it was so, else OFF, its doorbell page zero. An adopted channel is one no more from
here on; DRAIN, OFF and a new ENABLE leave it one (DESIGN CHOICE, log entry 114). -/
def leaveOff (d : Device) (ch : Nat) : Device :=
  let c := d.chan ch
  d.setChan ch { kept := c.kept, st := if c.wasBroken then .broken else .off, hdr := c.hdr, refused := c.refused, deadlines := c.deadlines, fqWaits := c.fqWaits }

/-- R275: whether an understudy, or ENABLE on another module, may claim on the lease. -/
def leaseOver (d : Device) (h : Nat) : Bool := !d.bellFree && !hdrLeaseFree h && d.stroke ≥ hdrLease h + 2

/-- CHANNEL_RECOVERY, the ledger part of ENABLE too (R268, R276, R556); after a Warm reset it is step 7 of Table 16-4. -/
def recoverChan (d : Device) (ch : Nat) : Device :=
  let c := d.chan ch
  if ¬ c.recovering ∨ c.st ≠ .enabling ∨ c.entry.isNone ∨ c.hold.isSome ∨ (c.recoverAll ∧ d.power.step < 6) then d
  else
    match d.readHeader ch with
    | .wait => d
    | .lost => (((d.stopChannel ch).breakChan ch 0x03).recordLost ch 0).chanMessage ch
    | .ok h =>
      let mine : Bool := hdrOwned h && hdrOwner h = d.moduleId
      if d.recordsWait (d.entry ch) (d.recsOf ch h none) then d
      else if mine ∨ (¬ c.recoverAll ∧ ¬ hasFar (d.entry ch)) then d.restore ch h c.origin.isSome none
      else if c.recoverAll then d.leaveOff ch
      else
        -- R276: another module owns it; Table 19-12 gives this reason no code (log entry 29)
        let theirs (d : Device) : Device :=
          let (code, d) := d.takeFree 8
          (d.breakChan ch code).chanMessage ch
        if ¬ hdrOwned h ∨ d.leaseOver h then
          match d.claimHdr (d.entry ch) (d.claimed ch h) with
          | (some true, d) => d.restore ch (hdrSeal (d.claimed ch h)) c.origin.isSome none
          | (some false, d) => theirs d
          | (none, d) => d
        else theirs d

/-- Whether a read gave an entry with VALID = 0. -/
def invalidEntry : Res → Bool
  | .ok e => ent e 0 0 1 = 0
  | _ => false

/-- Channels that hold an entry of nonzero bytes in the channel table. -/
def tableChannels (d : Device) : List Nat := (d.touched (d.entryPa 0) (4096 * 128) 128).filter (· < 4096)

/-- A channel waits for recovery after a reset, its state of before noted (R268). -/
def awaitRecovery (d : Device) (ch : Nat) (hold : Option (Nat × Nat)) : Device :=
  let c := d.chan ch
  let d := d.dropJobs ch
  d.setChan ch { kept := (d.chan ch).kept, st := .enabling, recovering := true, recoverAll := true, hold := hold, wasBroken := c.st = .broken || (c.recovering && c.wasBroken)
                 -- a channel that a Port reset holds keeps its lease (R274)
                 leaseHeld := hold.isSome && c.leaseHeld, lease := if hold.isSome then c.lease else 0, leaseUnread := if hold.isSome then c.leaseUnread else none
                 leaseFor := if hold.isSome then c.leaseFor else none
                 origin := c.origin, hdr := c.hdr, refused := c.refused, deadlines := c.deadlines, fqWaits := c.fqWaits }

/-! ## The lease (R274) -/

/-- R274: a yield. -/
def yieldChan (d : Device) (ch : Nat) : Device :=
  let d := ((d.completeAll ch).stopChannel ch).upChan ch (fun c => { c with
    st := .broken, cmdBusy := false, leaseHeld := false, leaseUnread := none, leaseFor := none, yielded := true, recovering := false, recoverAll := false
    hold := none })
  ((d.count 3 0 0x098).event 3 0 4).chanMessage ch

/-- At a stroke's start: a lease near its end renewed, one not read back in time yielded; a channel whose entry is out of the cache goes by the entry that it took
the lease under. -/
def leaseStroke (d : Device) (ch : Nat) : Device :=
  let c := d.chan ch
  let e := c.leaseFor.getD (d.entry ch)
  if ¬ c.leaseHeld then d
  else if d.stroke + 1 ≥ c.lease then d.yieldChan ch
  else if c.lease ≤ d.stroke + 4 ∧ c.leaseUnread.isNone ∧ d.farServes e then
    let h := putField (putField c.hdr 128 40 (d.stroke + 8)) 13 1 (ofBool d.bellFree)
    let d := if c.entry.isSome then d.writeHdr ch h
      else ((d.upChan ch (fun c => { c with hdr := hdrSeal h })).writeHigh (farBase e) (bytesOf 64 (hdrSeal h))).2
    d.upChan ch (fun c => { c with leaseUnread := some (d.stroke + 8) })
  else d

/-- LEASE_READBACK: the far header read back. -/
def leaseReadback (d : Device) (ch : Nat) : Device :=
  let c := d.chan ch
  match c.leaseUnread with
  | none => d
  | some l =>
    match (d.readPa (farBase (c.leaseFor.getD (d.entry ch))) 64).1 with
    | .ok v =>
      if hdrValid v ∧ hdrOwner v = d.moduleId ∧ hdrLease v = l then d.upChan ch (fun c => { c with lease := l, leaseUnread := none }) else d
    | _ => d

/-! ## Mirror at the origin (R273) -/

/-- A setup of a channel accepted, or refused. -/
def mirrorSetupAck (d : Device) (ch : Nat) (accepted : Bool) : Device :=
  let d := d.upChan ch (fun c => { c with setupDue := false })
  if (d.chan ch).entry.isNone ∨ ¬ entUnderstudyEn (d.entry ch) then d
  else if accepted then d.upChan ch (fun c => { c with mirror := .mirrored, missed := 0 })
  else (d.upChan ch (fun c => { c with mirror := .refused })).event 3 0 6

/-- Offset of a sequence number's record in the mirrored region (R423). -/
def mirrorSlot (e seq : Nat) : Nat := 0x1000 + seq % 2 ^ farRecLog2 e * 128

/-- The sequence number of the job that a ledger write is of: one not accepted yet is next. -/
def writeSeq (d : Device) (ch tag : Nat) : Nat := ((d.job? tag).map (·.seq)).getD (d.chan ch).seq

/-- A mirrored write acknowledged, by its offset, in the order in which they were sent: the header, a RETIRED record, or the oldest write that waits (R273, R423),
unless a later write of the same place is still to be acknowledged. A mirror brought up again is one once all that was sent to it is acknowledged. -/
def mirrorWriteAck (d : Device) (ch off : Nat) : Device :=
  let d := d.upChan ch (fun c => { c with missed := 0, mirrorOut := c.mirrorOut.erase off })
  let d := if (d.chan ch).resync ∧ (d.chan ch).mirrorOut = [] then d.upChan ch (fun c => { c with mirror := .mirrored, resync := false }) else d
  let c := d.chan ch
  if c.mirrorOut.contains off then d
  else if off = 0 then (d.upChan ch (fun c => { c with hdrSent := false })).settlePause ch
  else
    match c.retiring.find? (fun t => mirrorSlot (d.entry ch) (d.writeSeq ch t) = off) with
    | some t => d.retiredAck ch t
    | none =>
      match c.ledgerQ with
      | w :: _ => if w.sent ∧ mirrorSlot (d.entry ch) (d.writeSeq ch w.tag) = off then d.ledgerDurable ch w else d
      | [] => d

/-- UNMIRRORED: two strokes without an acknowledgement (R273); writes that only the mirror held back are durable. -/
def unmirror (d : Device) (ch : Nat) : Device :=
  let c := d.chan ch
  if c.mirror = .mirrored ∧ c.missed ≥ 2 then
    let d := (d.upChan ch (fun c => { c with mirror := .unmirrored, mirrorOut := [], setupDue := false, resync := false })).mirrorGone ch
    (d.count 3 0 0x0A8).event 3 0 2
  else d

/-- MIRROR_RESEND: header and records at or above RSEQ sent again, the one of a descriptor not accepted yet among them; the channel is mirrored once more when they
are acknowledged (R273). -/
def mirrorResend (d : Device) (ch : Nat) : Device :=
  let c := d.chan ch
  if c.mirror ≠ .unmirrored ∨ c.resync ∨ (d.routeOf (entUnderstudy (d.entry ch))).isNone then d
  else
    let e := d.entry ch
    let d := d.sendMirror ch 0 (bytesOf 64 c.hdr)
    let d := (d.jobsOf ch).foldl (fun d x => d.sendMirror ch (0x1000 + x.2.seq % 2 ^ farRecLog2 e * 128) (recOf x.1 x.2).bytes) d
    let d := match c.fetched with
      | f :: _ => f.tag.elim d (fun t => d.sendMirror ch (0x1000 + c.seq % 2 ^ farRecLog2 e * 128) (d.openRec ch t f).bytes)
      | [] => d
    d.upChan ch (fun c => { c with resync := true, missed := 0 })

/-! ## Mirror at the understudy (R272, R423) -/

/-- Bytes of the mirror store that a setup takes, in units of 64 KiB. -/
def setupSize (e : Nat) : Nat := ceilDiv (0x1000 + 2 ^ farRecLog2 e * 128) 65536 * 65536

/-- R272: whether a setup is accepted. -/
def setupOk (d : Device) (origin ch e : Nat) : Bool :=
  let used := (d.ledger.setups.filter (fun s => ¬ (s.origin = origin ∧ s.channel = ch))).foldl (fun n s => n + setupSize s.entry) 0
  d.fld 3 0 0x04C 8 1 = 1 && hasFar e && entRingSpace e = 0 && used + setupSize e ≤ d.fld 3 0 0x040 8 8 * 0x10000000 &&
  ledgerPermits (d.fld 1 0 0x040 6 2) (entLedger e)

def setupOf (d : Device) (origin ch : Nat) : Option MirrorSetup := d.ledger.setups.find? (fun s => s.origin = origin && s.channel = ch)

def setSetup (d : Device) (s : MirrorSetup) : Device :=
  { d with ledger := { d.ledger with setups := d.ledger.setups.filter (fun x => ¬ (x.origin = s.origin ∧ x.channel = s.channel)) ++ [s] } }

def endSetup (d : Device) (origin ch : Nat) : Device :=
  { d with ledger := { d.ledger with setups := d.ledger.setups.filter (fun x => ¬ (x.origin = origin ∧ x.channel = ch)) } }

/-- MIRROR_SETUP: answered with a MIRROR_ACK whose status says whether it is accepted. -/
def mirrorSetup (d : Device) (origin ch e : Nat) : Device :=
  if d.setupOk origin ch e then
    (d.setSetup { origin := origin, channel := ch, entry := e }).sendFrame { kind := 8, dest := origin, src := 0, channel := ch }
  else d.sendFrame { kind := 8, dest := origin, src := 0, channel := ch, status := 3 }

/-- MIRROR_WRITE: a header or record applied if it is further along, then acknowledged (R423). -/
def mirrorWrite (d : Device) (origin ch off v : Nat) : Device :=
  match d.setupOf origin ch with
  | none => d
  | some s =>
    let s := if off = 0 then
        (if field v 480 32 = crc32c (bytesOf 60 v) ∧ (s.header = 0 ∨ hdrRseq v ≥ hdrRseq s.header) then { s with header := v } else s)
      else if recValid v then
        let r := Rec.ofNat v
        match s.records.find? r.seq with
        | some old => if r.rank ≥ (Rec.ofNat old).rank then { s with records := s.records.set r.seq v } else s
        | none =>
          -- the slot's earlier record makes room (R259)
          let n := 2 ^ farRecLog2 s.entry
          { s with records := Map.set (s.records.filter (fun x => x.1 % n ≠ r.seq % n)) r.seq v }
      else s
    (d.setSetup s).sendFrame { kind := 8, dest := origin, src := 0, channel := ch, addr := off }

/-! ## Adoption (R275, R277) -/

/-- Lowest free channel of the adoption pool. -/
def poolChannel (d : Device) : Option Nat :=
  (span (d.fld 3 0 0x048 0 12) (d.fld 3 0 0x048 12 13)).find? (fun n => (d.chan n).st = .off)

/-- R279: an entry of the adoption log, dropped and counted when 64 are held. -/
def logAdoption (d : Device) (n ch origin reason : Nat) : Device :=
  if d.ledger.adoptLog.length ≥ 64 then d.count 3 0 0x0B0
  else { d with ledger := { d.ledger with adoptLog := d.ledger.adoptLog ++ [(n + ch * 2 ^ 12 + 2 ^ 31, origin + reason * 2 ^ 12)] } }

/-- The adoption vector sent (LDG_ADOPT_FN). -/
def adoptVector (d : Device) : Device :=
  let v := d.rg 3 0 0x04C
  d.oweMsg (field v 7 1) (field v 0 7) (field v 16 11)

/-- Why a channel may be claimed now (R275), in the code of LDG_ADOPT_LOG_HI.REASON; none if it may not. `missed` counts the strokes begun
since a heartbeat, so that 3 mean two whole strokes without one (R423). -/
def claimReason (d : Device) (s : MirrorSetup) (h : Nat) : Option Nat :=
  if hdrHandoff h then some 1 else if s.command then some 2 else if s.missed ≥ 3 ∧ d.leaseOver h then some 0 else none

/-- LDG_ADOPT_CMD.GO falls once no claim of its origin is left. -/
def settleClaims (d : Device) : Device :=
  if d.ledger.setups.any (fun s => s.command) then d else d.setFld 3 0 0x050 31 1 0

/-- The end of an adoption: the log entry, the vector and the event (R277, R279). -/
def adopted (d : Device) (n ch origin reason : Nat) : Device := ((d.logAdoption n ch origin reason).adoptVector).event 3 0 3

/-- The entry of an adopted channel loaded, and the channel recovered from its far region and the mirrored records; a load that has to wait, for a
port or for room, is made again (R397; DESIGN CHOICE, log entry 115), and one that fails R218 leaves the channel BROKEN with its claim. -/
def adoptLoad (d : Device) (n : Nat) : Device :=
  match (d.chan n).adopting, (d.chan n).origin with
  | some (ch, reason, recs), some origin =>
    let d := d.loadEntry n
    let c := d.chan n
    if c.st = .broken then (d.upChan n (fun c => { c with adopting := none })).adopted n ch origin reason
    else if c.entry.isNone then d
    else
      match d.readHeader n with
      | .ok h => ((d.restore n h true (some (recs.map Rec.ofNat))).count 3 0 0x090).adopted n ch origin reason
      | _ => d
  | _, _ => d

/-- ADOPTION: one mirrored channel claimed, the claim read back, and its entry put into the pool. -/
def adopt (d : Device) (origin ch : Nat) : Device :=
  match d.setupOf origin ch with
  | none => d
  | some s =>
    let fn := d.fld 3 0 0x04C 0 8
    let e := putField s.entry 16 8 fn
    match (d.readPa (farBase e) 64).1 with
    | .ok v =>
      let h := if hdrValid v then v else s.header
      if ¬ hdrOwned h ∨ hdrOwner h ≠ origin then (d.endSetup origin ch).settleClaims
      else
        match d.claimReason s h with
        | none => d
        | some reason =>
          let recs := (s.records.map (fun r => Rec.ofNat r.2)).filter (fun r => r.seq ≥ hdrRseq h)
          if d.recordsWait e recs then d else
          match d.poolChannel with
          | none => d.event 3 0 5
          | some n =>
            match d.claimHdr e (d.claimed n h) with
            | (some true, d) =>
              let d := (d.endSetup origin ch).settleClaims
              let d := (d.writeFor 4 (d.entryPa n) (bytesOf 128 e)).2
              (d.setChan n { kept := (d.chan n).kept, st := .enabling, cmdBusy := true, origin := some origin
                             adopting := some (ch, reason, s.records.map (·.2)) }).adoptLoad n
            -- another module holds it, or the header cannot be written yet
            | (_, d) => d
    | _ => d

/-- CHANNEL_ENTRY_LOAD, which a channel held by a Port reset waits for (R396); one that a reset covers and whose entry fails is left
OFF unless its directory names this module (R268). -/
def entryLoad (d : Device) (ch : Nat) : Device :=
  let c := d.chan ch
  if c.hold.isSome ∨ (c.recoverAll ∧ d.power.step < 6) then d
  else if c.recoverAll ∧ c.entry.isNone ∧ c.st = .enabling ∧ invalidEntry (d.readPa (d.entryPa ch) 128).1 ∧ (d.dirCopies ch).all (fun h => ¬ (hdrOwned h && hdrOwner h = d.moduleId)) then d.leaveOff ch
  else if c.adopting.isSome then d.adoptLoad ch
  else d.loadEntry ch

/-- LDG_ADOPT_CMD.GO: every mirrored channel of the origin is to be claimed; GO clears at once where there is none. -/
def adoptCmd (d : Device) (origin : Nat) : Device :=
  let d : Device := { d with ledger := { d.ledger with
    setups := d.ledger.setups.map (fun (s : MirrorSetup) => if s.origin = origin then { s with command := true } else s) } }
  (d.setRg 3 0 0x050 (origin % 4096 + 2 ^ 31)).settleClaims

/-! ## Detach and CLEAR -/

/-- A hand-off ended: once every write past the Fence is acknowledged and the far region takes it, the header says so and the channel is OFF. -/
def settleHandOff (d : Device) (ch : Nat) : Device :=
  let c := d.chan ch
  let h := putField (putField c.hdr 14 1 1) 128 40 d.stroke
  if ¬ c.handing ∨ c.kept.any d.farOwed then d
  else
    match (d.writeHigh (farBase (d.entry ch)) (bytesOf 64 (hdrSeal h))).1 with
    | .ok _ => (d.writeHdr ch h).upChan ch (fun c => { c with
        st := .off, cmdBusy := false, leaseHeld := false, leaseUnread := none, leaseFor := none, yielded := true, handing := false })
    | _ => d

/-- Step 2 of Table 9-7: a mirrored channel handed to its understudy. -/
def handOff (d : Device) (ch : Nat) : Device :=
  let c := d.chan ch
  if c.mirror ≠ .mirrored ∨ c.entry.isNone then d
  else (((d.completeAll ch).dropJobs ch).upChan ch (fun c => { c with handing := true })).settleHandOff ch

/-- R261: both directory copies of a channel in OFF zeroed. -/
def clearDir (d : Device) (ch : Nat) : Device :=
  if (d.chan ch).st = .off then
    (d.writeNear (dirPa ch) (bytesOf 64 0)).upChan ch (fun c => { c with hdr := 0, kept := [] })
  else d

end Device

end Sys2Proof.Machine
end

