-- ==== Sys2Proof/Machine/ReeveIsa.lean ====
section
/-! DEFINITION. The reeve's instructions: their encodings (Tables 11-6 to 11-11, 12-9, 12-10) and the scalar arithmetic of R324. -/
namespace Sys2Proof.Machine

/-- The operations of a reeve, one per mnemonic of Tables 11-6 to 11-11 and 12-10. -/
inductive ROp where
  | setq | addq | ldq | stq | shlq | shrq | rorq | jzq | jnzq | decq | goq | callq | movq | addrq | subq | andq
  | jmpq | retq | nopq | brkq | sowq
  | add | sub | and | or | xor | andn | sll | srl | sra | rol | ror | slt | sltu | min | max | minu | maxu
  | clz | ctz | popc | slli | srli | srai | mul | mulh | mulhu | div | divu | rem | remu
  | addi | andi | ori | xori | slti | sltiu | ldhi | pcadd
  | ldb | ldbu | ldh | ldhu | ldw | ldwu | ldd | stb | sth | stw | std
  | beq | bne | blt | bge | bltu | bgeu | jmp | jmpr | call | callr | loop
  | bld | bldu | bst | ll | sc | aadd | aswp
  | ret | rete | trap | wfi | fence | brk | exit | sow | sowsync | csrr | csrw | csrs | csrc
  | lsize | ladd | lsub | lmul | land | lor | lxor | ltest | lget | lgets | lgath | lprobe | lput | lputs | lscat
  | lcopy | lfill | lsum
  deriving DecidableEq, Repr

/-- A decoded instruction: operation, register fields, immediate (a 64-bit pattern), the F10 field, and its length in bytes. -/
structure RInstr where
  op : ROp
  rd : Nat := 0
  ra : Nat := 0
  rb : Nat := 0
  imm : Nat := 0
  f10 : Nat := 0
  len : Nat := 4
  deriving DecidableEq, Repr

/-- R323, Table 11-6: a halfword whose bit 0 is 0. -/
def decode16 (h : Nat) : Option RInstr :=
  let r := field h 11 5
  let u := field h 5 6
  let s6 := signExtend 6 64 u
  let s11 := signExtend 11 64 (field h 5 11)
  let rs := field h 6 5
  let i (op : ROp) (imm : Nat) : Option RInstr := some { op := op, rd := r, ra := r, rb := r, imm := imm, len := 2 }
  match field h 1 4 with
  | 0x1 => i .setq s6
  | 0x2 => i .addq s6
  | 0x3 => i .ldq u
  | 0x4 => i .stq u
  | 0x5 => i .shlq u
  | 0x6 => i .shrq u
  | 0x7 => i .rorq u
  | 0x8 => i .jzq s6
  | 0x9 => i .jnzq s6
  | 0xA => i .decq s6
  | 0xB => some { op := .goq, imm := s11, len := 2 }
  | 0xC => some { op := .callq, imm := s11, len := 2 }
  | 0xD => some { op := if field h 5 1 = 0 then .movq else .addrq, rd := r, ra := r, rb := rs, len := 2 }
  | 0xE => some { op := if field h 5 1 = 0 then .subq else .andq, rd := r, ra := r, rb := rs, len := 2 }
  | 0xF =>
    match u with
    | 0 => i .jmpq 0
    | 1 => if r = 0 then i .retq 0 else none
    | 2 => if r = 0 then i .nopq 0 else none
    | 3 => if r = 0 then i .brkq 0 else none
    | 4 => i .sowq 0
    | _ => none
  | _ => none

/-- Table 11-9. -/
def aluOp (f10 rb : Nat) : Option ROp :=
  match f10 with
  | 0x000 => some .add
  | 0x001 => some .sub
  | 0x002 => some .and
  | 0x003 => some .or
  | 0x004 => some .xor
  | 0x005 => some .andn
  | 0x006 => some .sll
  | 0x007 => some .srl
  | 0x008 => some .sra
  | 0x009 => some .rol
  | 0x00A => some .ror
  | 0x00B => some .slt
  | 0x00C => some .sltu
  | 0x00D => some .min
  | 0x00E => some .max
  | 0x00F => some .minu
  | 0x010 => some .maxu
  | 0x011 => if rb = 0 then some .clz else none
  | 0x012 => if rb = 0 then some .ctz else none
  | 0x013 => if rb = 0 then some .popc else none
  | 0x014 => some .slli
  | 0x015 => some .slli
  | 0x016 => some .srli
  | 0x017 => some .srli
  | 0x018 => some .srai
  | 0x019 => some .srai
  | 0x020 => some .mul
  | 0x021 => some .mulh
  | 0x022 => some .mulhu
  | 0x028 => some .div
  | 0x029 => some .divu
  | 0x02A => some .rem
  | 0x02B => some .remu
  | _ => none

/-- Table 11-10: SUB, SIZE and the register fields; a register pair is named by its even register (R315). -/
def memxOp (f10 rd rb : Nat) : Option ROp :=
  let size := field f10 3 2
  if f10 / 32 ≠ 0 then none
  else
    match field f10 0 3 with
    | 0 => some .bld
    | 1 => if size ≤ 2 then some .bldu else none
    | 2 => if rd = 0 then some .bst else none
    | 3 => if size = 3 then some .ll else none
    | 4 => if size = 3 then some .sc else none
    | 5 => if size ≥ 2 ∧ rd % 2 = 0 ∧ rb % 2 = 0 then some .aadd else none
    | 6 => if size = 3 ∧ rd % 2 = 0 ∧ rb % 2 = 0 then some .aswp else none
    | _ => none

/-- Table 11-11: F10 and the fields that must be zero (log entry 30 for the fields no row names). -/
def sysOp (f10 rd ra rb : Nat) : Option ROp :=
  let z : Bool := rd = 0 && ra = 0 && rb = 0
  match f10 with
  | 0x000 => if z then some .ret else none
  | 0x001 => if z then some .rete else none
  | 0x002 => some .trap
  | 0x003 => if z then some .wfi else none
  | 0x004 => if z then some .fence else none
  | 0x005 => if z then some .brk else none
  | 0x006 => some .exit
  | 0x007 => some .sow
  | 0x008 => some .sowsync
  | 0x010 => some .csrr
  | 0x011 => some .csrw
  | 0x012 => some .csrs
  | 0x013 => some .csrc
  | _ => none

/-- Table 12-10: OP, and for LMISC the sub-operation in rb. -/
def longOp (f10 rb : Nat) : Option ROp :=
  match field f10 6 4 with
  | 0x0 => some .lsize
  | 0x1 => some .ladd
  | 0x2 => some .lsub
  | 0x3 => some .lmul
  | 0x4 => some .land
  | 0x5 => some .lor
  | 0x6 => some .lxor
  | 0x7 => some .ltest
  | 0x8 => some .lget
  | 0x9 => some .lgets
  | 0xA => some .lgath
  | 0xB => some .lprobe
  | 0xC => some .lput
  | 0xD => some .lputs
  | 0xE => some .lscat
  | _ =>
    match rb with
    | 0 => some .lcopy
    | 1 => some .lfill
    | 2 => some .lsum
    | _ => none

/-- R323, Tables 11-7 and 11-8: a 32-bit word whose bit 0 is 1. -/
def decode32 (w : Nat) : Option RInstr :=
  let a := field w 7 5
  let b := field w 12 5
  let c := field w 17 5
  let f := field w 22 10
  let imm15 := signExtend 15 64 (field w 17 15)
  let imm20 := signExtend 20 64 (field w 12 20)
  let formI (op : ROp) : Option RInstr := some { op := op, rd := a, ra := b, imm := imm15 }
  let formS (op : ROp) : Option RInstr := some { op := op, rb := a, ra := b, imm := imm15 }
  let formB (op : ROp) : Option RInstr := some { op := op, ra := a, rb := b, imm := imm15 }
  let formU (op : ROp) : Option RInstr := some { op := op, rd := a, imm := imm20 }
  let formR (o : Option ROp) : Option RInstr := o.map (fun op => { op := op, rd := a, ra := b, rb := c, f10 := f })
  match field w 1 6 with
  | 0x01 => formR (aluOp f c)
  | 0x02 => formI .addi
  | 0x03 => formI .andi
  | 0x04 => formI .ori
  | 0x05 => formI .xori
  | 0x06 => formI .slti
  | 0x07 => formI .sltiu
  | 0x08 => formU .ldhi
  | 0x09 => formU .pcadd
  | 0x0A => formI .ldb
  | 0x0B => formI .ldbu
  | 0x0C => formI .ldh
  | 0x0D => formI .ldhu
  | 0x0E => formI .ldw
  | 0x0F => formI .ldwu
  | 0x10 => formI .ldd
  | 0x11 => formS .stb
  | 0x12 => formS .sth
  | 0x13 => formS .stw
  | 0x14 => formS .std
  | 0x15 => formR (memxOp f a c)
  | 0x16 => formB .beq
  | 0x17 => formB .bne
  | 0x18 => formB .blt
  | 0x19 => formB .bge
  | 0x1A => formB .bltu
  | 0x1B => formB .bgeu
  | 0x1C => formU .jmp
  | 0x1D => formI .jmpr
  | 0x1E => if a = 0 then formU .call else none
  | 0x1F => if a = 0 then formI .callr else none
  | 0x20 => formR (sysOp f a b c)
  | 0x21 => if a = 0 then some { op := .loop, ra := b, imm := field w 17 15 } else none
  | 0x30 => formR (longOp f c)
  | _ => none

/-! ## Scalar arithmetic (R324) -/

def m64 : Nat := 2 ^ 64
def s64 (v : Nat) : Int := toSigned 64 v
def w64 (x : Int) : Nat := wrapInt 64 x

/-- Arithmetic right shift of a 64-bit pattern. -/
def sra64 (v n : Nat) : Nat := w64 (s64 v / (2 : Int) ^ n)

/-- Rotations of a 64-bit pattern. -/
def rol64 (v n : Nat) : Nat := (v * 2 ^ (n % 64) + v / 2 ^ ((64 - n % 64) % 64 + (if n % 64 = 0 then 64 else 0))) % m64
def ror64 (v n : Nat) : Nat := rol64 v ((64 - n % 64) % 64)

/-- DIV and REM: truncation toward zero, and the zero divisor. -/
def div64 (a b : Nat) : Nat := if b = 0 then m64 - 1 else w64 (Int.tdiv (s64 a) (s64 b))
def rem64 (a b : Nat) : Nat := if b = 0 then a else w64 (Int.tmod (s64 a) (s64 b))

/-- Table 11-9 and the immediates of Table 11-8: the result of an operation on two 64-bit values. -/
def alu (op : ROp) (a b : Nat) : Nat :=
  match op with
  | .add => (a + b) % m64
  | .addi => (a + b) % m64
  | .sub => (a + m64 - b) % m64
  | .and => a &&& b
  | .andi => a &&& b
  | .or => a ||| b
  | .ori => a ||| b
  | .xor => a ^^^ b
  | .xori => a ^^^ b
  | .andn => a &&& (m64 - 1 - b)
  | .sll => a * 2 ^ (b % 64) % m64
  | .slli => a * 2 ^ (b % 64) % m64
  | .srl => a / 2 ^ (b % 64)
  | .srli => a / 2 ^ (b % 64)
  | .sra => sra64 a (b % 64)
  | .srai => sra64 a (b % 64)
  | .rol => rol64 a b
  | .ror => ror64 a b
  | .slt => ofBool (s64 a < s64 b)
  | .slti => ofBool (s64 a < s64 b)
  | .sltu => ofBool (a < b)
  | .sltiu => ofBool (a < b)
  | .min => if s64 a ≤ s64 b then a else b
  | .max => if s64 a ≤ s64 b then b else a
  | .minu => if a ≤ b then a else b
  | .maxu => if a ≤ b then b else a
  | .clz => leadingZeros 64 a
  | .ctz => trailingZeros 64 a
  | .popc => popcount 64 a
  | .mul => a * b % m64
  | .mulh => w64 (s64 a * s64 b / (2 : Int) ^ 64)
  | .mulhu => a * b / m64
  | .div => div64 a b
  | .divu => if b = 0 then m64 - 1 else a / b
  | .rem => rem64 a b
  | .remu => if b = 0 then a else a % b
  | _ => 0

/-- Branch conditions. -/
def branchTaken (op : ROp) (a b : Nat) : Bool :=
  match op with
  | .beq => a = b
  | .bne => a ≠ b
  | .blt => s64 a < s64 b
  | .bge => s64 b ≤ s64 a
  | .bltu => a < b
  | .bgeu => b ≤ a
  | _ => false

/-- Operations whose result arrives beside the pipe (R329). -/
def ROp.beside : ROp → Bool
  | .mul => true
  | .mulh => true
  | .mulhu => true
  | .div => true
  | .divu => true
  | .rem => true
  | .remu => true
  | _ => false

def ROp.divides : ROp → Bool
  | .div => true
  | .divu => true
  | .rem => true
  | .remu => true
  | _ => false

/-- Size in bytes and sign extension of the plain loads and stores of Table 11-8. -/
def ROp.access : ROp → Nat × Bool
  | .ldb => (1, true)
  | .ldbu => (1, false)
  | .ldh => (2, true)
  | .ldhu => (2, false)
  | .ldw => (4, true)
  | .ldwu => (4, false)
  | .stb => (1, false)
  | .sth => (2, false)
  | .stw => (4, false)
  | _ => (8, false)

/-! ## Long instructions (Table 12-9) -/

def RInstr.ewCode (i : RInstr) : Nat := field i.f10 0 3
/-- Element width: WIDTH of Table 2-2, 128 bits halved per step. -/
def RInstr.ew (i : RInstr) : Nat := 128 / 2 ^ i.ewCode
def RInstr.group (i : RInstr) : Nat := 2 ^ field i.f10 3 2
def RInstr.masked (i : RInstr) : Bool := field i.f10 5 1 = 1
/-- VLMAX of R350. -/
def RInstr.vlmax (i : RInstr) : Nat := i.group * 4096 / i.ew

/-- A group of long registers: whether the number is a multiple of G (R351). -/
def RInstr.groupOk (i : RInstr) (n : Nat) : Bool := n % i.group = 0

/-- Whether an operation is a long one (MAJOR 0x30). -/
def ROp.long : ROp → Bool
  | .lsize => true
  | .ladd => true
  | .lsub => true
  | .lmul => true
  | .land => true
  | .lor => true
  | .lxor => true
  | .ltest => true
  | .lget => true
  | .lgets => true
  | .lgath => true
  | .lprobe => true
  | .lput => true
  | .lputs => true
  | .lscat => true
  | .lcopy => true
  | .lfill => true
  | .lsum => true
  | _ => false

/-- R351: what makes a long instruction illegal, VL apart. -/
def RInstr.longOk (i : RInstr) : Bool :=
  let d := i.groupOk i.rd
  let a := i.groupOk i.ra
  let b := i.groupOk i.rb
  i.ewCode ≤ 4 &&
  (match i.op with
   | .lsize => i.rb = 0 && !i.masked
   | .ladd => d && a && b
   | .lsub => d && a && b
   | .lmul => d && a && b
   | .land => d && a && b
   | .lor => d && a && b
   | .lxor => d && a && b
   | .ltest => field i.rd 3 2 ≠ 3 && a && b
   | .lget => d && i.rb = 0
   | .lprobe => d && i.rb = 0
   | .lput => d && i.rb = 0
   | .lgets => d
   | .lputs => d
   | .lgath => d && b && i.rd ≠ i.rb
   | .lscat => d && b
   | .lcopy => d && a
   | .lfill => d
   | .lsum => a && i.ewCode ≠ 0
   | _ => false)

/-- Registers by number that an instruction reads or writes in the scalar file, for the scoreboard (R329). -/
def RInstr.scalars (i : RInstr) : List Nat :=
  match i.op with
  | .aadd => [i.rd, i.rd + 1, i.ra, i.rb, i.rb + 1]
  | .aswp => [i.rd, i.rd + 1, i.ra, i.rb, i.rb + 1]
  | .ldq => [i.rd, 7]
  | .stq => [i.rd, 7]
  | .lsize => [i.rd, i.ra]
  | .lget => [i.ra]
  | .lprobe => [i.ra]
  | .lput => [i.ra]
  | .lgath => [i.ra]
  | .lscat => [i.ra]
  | .lgets => [i.ra, i.rb]
  | .lputs => [i.ra, i.rb]
  | .lfill => [i.ra]
  | .lsum => [i.rd]
  | op => if op.long then [] else [i.rd, i.ra, i.rb]

end Sys2Proof.Machine
end

