-- ==== Sys2Proof/Machine/ReeveCore.lean ====
section
/-! DEFINITION. Registers and windows of a reeve, its interrupts, its binding to a CONTROL job, its reset and self-test
(chapters 11, 12 and 18). -/
namespace Sys2Proof.Machine

/-! ## Fields of STATUS and WINPTR (Tables 12-1, 11-4) -/

def Reeve.priv (r : Reeve) : Nat := field r.status 0 2
def Reeve.tr (r : Reeve) : Bool := field r.status 2 1 = 1
def Reeve.iml (r : Reeve) : Nat := field r.status 3 3
def Reeve.df (r : Reeve) : Bool := field r.status 6 1 = 1
def Reeve.le (r : Reeve) : Bool := field r.status 7 1 = 1
def Reeve.cur (r : Reeve) : Nat := field r.winptr 0 4
def Reeve.res (r : Reeve) : Nat := field r.winptr 4 5
def Reeve.spilled (r : Reeve) : Nat := field r.winptr 16 32

/-- WINPTR from its fields. -/
def winptrOf (cur res spilled : Nat) : Nat := cur % 16 + res % 32 * 2 ^ 4 + spilled % 2 ^ 32 * 2 ^ 16

/-- R315, R317: place in the register map of register number `n`. -/
def Reeve.place (r : Reeve) (n : Nat) : Nat := if n < 8 then n else 8 + (r.cur * 8 + (n - 8)) % 128

def Reeve.get (r : Reeve) (n : Nat) : Nat := r.regs.get 0 (r.place n) % 2 ^ 64
def Reeve.put (r : Reeve) (n v : Nat) : Reeve := { r with regs := r.regs.set (r.place n) (v % 2 ^ 64) }

/-- The eight registers of a group (0 to 15) as 64 bytes, and the group loaded from a number (R318, R319). -/
def Reeve.groupBytes (r : Reeve) (g : Nat) : List Byte := (List.range 8).flatMap (fun k => bytesOf 8 (r.regs.get 0 (8 + (g % 16) * 8 + k)))
def Reeve.loadGroup (r : Reeve) (g v : Nat) : Reeve :=
  { r with regs := (List.range 8).foldl (fun m k => Map.set m (8 + (g % 16) * 8 + k) (field v (64 * k) 64)) r.regs }

/-- Long and mask registers. -/
def Reeve.lreg (r : Reeve) (n : Nat) : Nat := r.lregs.get 0 (n % 32)
def Reeve.mreg (r : Reeve) (n : Nat) : Nat := r.mregs.get 0 (n % 8)

/-- Element `i` of the group at Ln (R350). -/
def Reeve.elem (r : Reeve) (ew n i : Nat) : Nat := field (r.lreg (n + i * ew / 4096)) (i * ew % 4096) ew
def Reeve.setElem (r : Reeve) (ew n i v : Nat) : Reeve :=
  let k := (n + i * ew / 4096) % 32
  { r with lregs := r.lregs.set k (putField (r.lreg k) (i * ew % 4096) ew v) }

/-- One result in flight written (R329). -/
def Reeve.land (r : Reeve) (w : PendWrite) : Reeve :=
  match w.bank with
  | 0 => { r with regs := r.regs.set w.ix w.val }
  | 1 => { r with lregs := r.lregs.set w.ix w.val }
  | _ => { r with mregs := r.mregs.set w.ix w.val }

/-- Every result in flight written, oldest first (R330). -/
def Reeve.drain (r : Reeve) : Reeve := { r.flight.foldl Reeve.land r with flight := [] }

/-- Registers that long instructions read or write, as (bank, index). -/
def RInstr.longRegs (i : RInstr) : List (Nat × Nat) :=
  let grp (n : Nat) : List (Nat × Nat) := (span n i.group).map (fun k => (1, k % 32))
  let m0 : List (Nat × Nat) := if i.masked then [(2, 0)] else []
  match i.op with
  | .lsize => []
  | .ltest => [(2, i.rd % 8)] ++ grp i.ra ++ grp i.rb ++ m0
  | .lget => grp i.rd ++ m0
  | .lprobe => grp i.rd ++ m0
  | .lput => grp i.rd ++ m0
  | .lgets => grp i.rd ++ m0
  | .lputs => grp i.rd ++ m0
  | .lgath => grp i.rd ++ grp i.rb ++ m0
  | .lscat => grp i.rd ++ grp i.rb ++ m0
  | .lcopy => grp i.rd ++ grp i.ra ++ m0
  | .lfill => grp i.rd ++ m0
  | .lsum => grp i.ra ++ m0
  | op => if op.long then grp i.rd ++ grp i.ra ++ grp i.rb ++ m0 else []

/-- R329: whether no result in flight is for a register the instruction reads or writes; the divider takes one at a time. -/
def Reeve.scoreboard (r : Reeve) (i : RInstr) : Bool :=
  let sc := i.scalars.map (fun n => (0, r.place n))
  !(r.flight.any (fun w => (sc ++ i.longRegs).contains (w.bank, w.ix))) && !(i.op.divides && r.flight.any (fun w => w.div))

namespace Device

/-! ## Binding (R309, R310) -/

/-- The CONTROL job that a reeve runs, with its tag. -/
def boundJob (d : Device) (n : Nat) : Option (Nat × Job) := List.find? (fun (e : Nat × Job) => e.2.reeve = some n && !e.2.over) d.jobs

/-- The channel of that job. -/
def boundChan (d : Device) (n : Nat) : Option Nat := (d.boundJob n).map (fun e => e.2.ch)

/-- Logical reeves that may run CONTROL jobs (R308): without the third once no seed is left, nor a reeve in a reset that may become one, and three
remain in service. -/
def controlReeves (d : Device) : List Nat :=
  let count (p : Reeve → Bool) : Nat := ((List.range 5).filter (fun n => p (d.reeve n))).length
  if count (fun r => r.st = 1 || r.st = 2) = 0 ∧ count (fun r => r.st = 0 && r.logical.isSome) ≤ 3 then [1, 2] else [1, 2, 3]

/-- A reeve free to run a CONTROL job: the lowest logical one that runs none and is in no handler that it entered from User (log entry 31). -/
def freeReeve (d : Device) : Option Nat :=
  d.controlReeves.findSome? (fun l => match d.servedBy l with
    | some n => if (d.boundJob n).isNone ∧ ¬ (d.reeve n).halted ∧ (d.reeve n).handler = 0 then some n else none
    | none => none)

/-! ## Interrupts (Table 12-4, R342, R343) -/

/-- Pending interrupt sources of a reeve, as (code, level). -/
def intSources (d : Device) (n : Nat) : List (Nat × Nat) :=
  let r := d.reeve n
  let zero : Bool := r.logical = some 0
  let mail : Bool := match r.logical with
    | some l => (d.box l).toReeve ≠ [] && d.fld kMbxReeve l 0x014 0 1 = 1
    | none => false
  let link : Bool := d.signals 6 0 || d.signals 6 1 || (List.range 4).any (fun p => d.signals 8 p)
  [(0x01, 3, mail), (0x02, 4, r.strokeInt), (0x03, 2, zero && d.signals 4 0), (0x04, 2, zero && d.signals 2 0),
   (0x05, 2, zero && d.signals 21 0), (0x06, 3, zero && link), (0x07, 1, zero && d.signals 11 0), (0x08, 6, d.signals 10 0),
   (0x09, 6, r.warn), (0x0A, 5, r.ipi)].filterMap (fun s => if s.2.2 then some (s.1, s.2.1) else none)

/-- The eligible interrupt that would be taken at a boundary: highest level, then lowest code. -/
def eligible (d : Device) (n : Nat) : Option (Nat × Nat) :=
  let r := d.reeve n
  if r.locked then none else argmin (fun s => (7 - s.2) * 256 + s.1) ((d.intSources n).filter (fun s => s.2 > r.iml))

/-! ## Resets (R344, R362, R470) -/

/-- A reeve that leaves a reset: address 0 in the state of R339; halted before its first fetch by RESET_CATCH or a pending halt (R521). -/
def startReeve (d : Device) (n : Nat) (logical : Option Nat) : Device :=
  let old := d.reeve n
  let caught : Bool := d.fld 14 0 0x044 (8 + n) 1 = 1
  let req : Bool := old.haltReq
  let d := d.setReeve n { logical := logical, halted := caught || req || old.halted
                          why := if caught then 4 else if req then 1 else if old.halted then old.why else 0 }
  if caught ∨ req then d.event 14 0 0 else d

/-- Whether a reeve is the seed, on its way into the place of one that is being reset (R34). -/
def takingOver (d : Device) (n : Nat) : Bool := (d.reeve n).st = 1 && (List.range 5).any (fun m => (d.reeve m).st = 2)

/-- R344: a Core reset: the reeve's job ends, its self-test begins. Of the seed that is taking over, it leaves four reeves in service and the
seed stock exhausted (R34); one in a Cold or Warm reset is absorbed (R31). -/
def coreReset (d : Device) (n : Nat) : Device :=
  let r := d.reeve n
  if d.resetUnderWay then d
  else if d.takingOver n then
    let (_, d) := d.noteWear 9 n 0 86400
    ((d.setReeve n { st := 2 }).event 11 0 2).logSpare n 0x1FF 2 6
  else if r.st ≠ 0 then d
  else
    let d := match d.boundJob n with
      | some (tag, j) => d.finishJob tag (stopping j { status := stAborted, detail := 0x03 })
      | none => d
    let (_, d) := d.noteWear 9 n 0 86400
    d.setReeve n { st := 2, logical := r.logical, haltReq := r.haltReq || r.halted }

/-- REEVE_SELF_TEST_DONE (R470, R473): the seed takes over, and the reset reeve becomes the seed or is RETIRED. -/
def reeveTested (d : Device) (n : Nat) (pass : Bool) : Device :=
  let r := d.reeve n
  if r.st ≠ 2 then d
  else
    let resets := (d.spare.wear.filter (fun e => e.1 = 9 && e.2.1 = n && e.2.2.2 + d.bellSpan 86400 ≥ d.bellNow)).length
    let good : Bool := pass && resets < 2
    let seed := (List.range 5).find? (fun m => (d.reeve m).st = 1)
    let d := d.setReeve n { r with st := if good then 1 else 3, logical := none }
    let d := if good then d else d.event 11 0 1
    if r.logical.isNone then d
    else
    match (match seed with
      | some m => some m
      | none => if good then some n else none) with
    | some m => (d.startReeve m r.logical).spareIn n m 2 (if pass then 4 else 2)
    | none => (d.event 11 0 2).logSpare n 0x1FF 2 6

end Device

end Sys2Proof.Machine
end

