-- ==== Sys2Proof/Machine/Snap.lean ====
section
/-! DEFINITION. Page snapshots and device-wide snapshots (R485 to R489). -/
namespace Sys2Proof.Machine

/-- Every page of BAR0, with the CMX page, as (kind, instance). -/
def allPages : List (Nat × Nat) :=
  [(1, 0), (2, 0), (3, 0), (4, 0), (5, 0), (6, 0), (6, 1), (7, 0), (8, 0), (8, 1), (8, 2), (8, 3), (9, 0), (10, 0), (11, 0), (12, 0),
   (13, 0), (13, 1), (13, 2), (13, 3), (14, 0), (15, 0), (17, 0), (20, 0), (21, 0)] ++
  (List.range 8).map (fun k => (16, k)) ++ (List.range 264).map (fun k => (18, k)) ++ (List.range 272).map (fun k => (19, k)) ++
  (List.range 4).map (fun k => (kMbxReeve, k))

/-- Key of an initiator's latch of a _HI register. -/
def latchKey (who key : Nat) : Nat := who * 2 ^ 27 + key

/-- Registers that show what no command carries, as (page kind, offset, bits): sensor readings and energy (Tables 16-10, 16-11, 17-10),
what the data link layer repairs (Table 14-6), and counters of cycles, stalls, bank conflicts and hours. -/
def measuredRegs : List (Nat × Nat × Nat) :=
  [(4, 0x088, 32), (4, 0x08C, 16), (6, 0x068, 32), (6, 0x06C, 16), (6, 0x070, 32), (6, 0x074, 16),
   (9, 0x050, 16), (9, 0x054, 16), (9, 0x058, 16), (9, 0x05C, 32), (9, 0x060, 32), (9, 0x064, 16),
   (10, 0x0A0, 16), (10, 0x0A4, 16), (10, 0x0A8, 32), (17, 0x060, 32), (17, 0x064, 16), (17, 0x068, 32), (17, 0x06C, 16),
   (19, 0x068, 32), (19, 0x06C, 16), (19, 0x070, 32), (19, 0x074, 16), (19, 0x078, 32), (19, 0x07C, 16), (19, 0x080, 32), (19, 0x084, 16),
   (19, 0x0A4, 32)]

/-- The counters among them, by page kind and offset of the _LO half. -/
def measuredPairs : List (Nat × Nat) :=
  [(4, 0x088), (6, 0x068), (6, 0x070), (9, 0x060), (17, 0x060), (17, 0x068), (19, 0x068), (19, 0x070), (19, 0x078), (19, 0x080)]

namespace Device

/-- CRF_WEAR_HOURS of a croft: hours in service added, a free number; it stays as it is out of service, and saturates (R158). -/
def wearHours (d : Device) (n : Nat) : Device :=
  if (d.croft n).st = 1 then
    let (v, d) := d.takeFree 32
    d.setRg 19 n 0x0A4 (min (2 ^ 32 - 1) (d.rg 19 n 0x0A4 + v))
  else d

/-- A measured register brought up to date (log entry 40): a counter grows by a free amount, but for a croft that has run nothing since its
reset (R157); a reading takes a free value; HBM_STATUS shows a free TEMP, and HOT from it (R189). -/
def refresh (d : Device) (kind inst off : Nat) : Device :=
  match measuredRegs.find? (fun m => m.1 = kind && m.2.1 = off) with
  | some (_, _, w) =>
    if kind = 19 ∧ off = 0x0A4 then d.wearHours inst
    else if measuredPairs.contains (kind, off) then
      if kind = 19 ∧ ¬ (d.croft inst).ran then d
      else
        let (v, d) := d.takeFree 48
        d.countBy kind inst off v
    else if measuredPairs.any (fun m => m.1 = kind && m.2 + 4 = off) then d
    else
      let (v, d) := d.takeFree w
      d.setRg kind inst off v
  | none =>
    if kind = 16 ∧ off = 0x00C then
      let (t, d) := d.takeFree 8
      d.setFld kind inst off 8 9 (t + ofBool (85 ≤ t) * 2 ^ 8)
    else d

/-- Whether the far side of a page's crossing is down: the pages of the compute dies while they are off (R26). -/
def pageDown (d : Device) (kind : Nat) : Bool := (kind = 16 || kind = 17 || kind = 18 || kind = 19) && d.computeOff

/-- Registers a snapshot copies: the counters and pairs of a row list. -/
def pairOffs (kind : Nat) : List Nat :=
  (pageRows (rowsKind kind)).flatMap (fun r => if r.lo then [r.off, r.off + 4] else if r.ctr then [r.off] else [])

/-- SNAP's status bits after a snapshot: STALE, STROKE and the next GEN. -/
def markSnap (d : Device) (kind inst : Nat) (stale timed : Bool) : Device :=
  let s := d.rg kind inst 0x020
  d.setRg kind inst 0x020 (field s 1 1 * 2 + ofBool stale * 2 ^ 2 + ofBool timed * 2 ^ 3 + (field s 8 8 + 1) % 256 * 2 ^ 8)

/-- A snapshot of one page (R486); bell time on the BEL page is copied as it stands, or at a given T. -/
def snapPage (d : Device) (kind inst : Nat) (timed : Bool) (t : Nat) : Device :=
  if d.pageDown kind then d.markSnap kind inst true timed
  else
    let copy (d : Device) (off : Nat) : Device :=
      let d := d.refresh kind inst off
      let v := if kind = 7 ∧ off = 0x044 then t % 2 ^ 32 else if kind = 7 ∧ off = 0x048 then t / 2 ^ 32 else d.rg kind inst off
      { d with snaps := d.snaps.set (regKey kind inst off) (BitVec.ofNat 32 v) }
    ((pairOffs kind ++ (if kind = 7 then [0x044, 0x048] else [])).foldl copy d).markSnap kind inst false timed

/-- The doorbell pages' counters copied (R486). -/
def snapDoorbells (d : Device) : Device :=
  { d with chans := d.chans.map (fun (e : Nat × Channel) => (e.1, { e.2 with snap := (e.2.refused, e.2.deadlines, e.2.fqWaits) })) }

/-- A device-wide snapshot at bell time T (R487, R488). -/
def snapDevice (d : Device) (timed : Bool) (t : Nat) : Device :=
  let d := (allPages.foldl (fun d p => d.snapPage p.1 p.2 timed t) d).snapDoorbells
  ((d.setRg 1 0 0x080 (t % 2 ^ 32)).setRg 1 0 0x084 (t / 2 ^ 32)).event 1 0 7

/-- DEVICE_SNAPSHOT_TAKE: T is the first phase step at least 2 µs ahead; a TAKE in progress absorbs it (R489). -/
def snapTake (d : Device) : Device :=
  if d.snapT.isSome then d
  else ({ d with snapT := some (d.bellNow + ceilDiv (2 * 2 ^ 24) (250 * 2 ^ d.bell.period)) } : Device).setFld 1 0 0x058 0 1 1

/-- DEVICE_SNAPSHOT_ARM: the stroke sampled; one that has begun gives a TAKE (R488). -/
def snapArm (d : Device) : Device :=
  let s := d.rg 1 0 0x078 + field (d.rg 1 0 0x07C) 0 8 * 2 ^ 32
  if s ≤ d.bell.stroke then ({ d with snapAt := none } : Device).setFld 1 0 0x058 1 1 0 |>.snapTake
  else ({ d with snapAt := some s } : Device).setFld 1 0 0x058 1 1 1

/-- DEVICE_SNAPSHOT_CANCEL. -/
def snapCancel (d : Device) : Device := ({ d with snapAt := none } : Device).setFld 1 0 0x058 1 1 0

/-- Action 1 of Table 15-4: the snapshot named for a stroke that has begun; it waits for a TAKE in progress to end (R489). -/
def snapStroke (d : Device) : Device :=
  match d.snapAt with
  | some s => if s ≤ d.bell.stroke ∧ d.snapT.isNone then d.snapCancel.snapDevice true (d.bell.stroke * 2 ^ 24) else d
  | none => d

/-- DEVICE_SNAPSHOT_AT_T: bell time has reached T. -/
def snapAtT (d : Device) : Device :=
  match d.snapT with
  | none => d
  | some t =>
    if t / 2 ^ 24 > d.bell.stroke then d
    else
      let d : Device := if t > d.bellNow then { d with bell := { d.bell with phase := t % 2 ^ 24 } } else d
      ((({ d with snapT := none } : Device).setFld 1 0 0x058 0 1 0).snapDevice false t).snapStroke

end Device

end Sys2Proof.Machine
end

