-- ==== Sys2Proof/Machine/Spares.lean ====
section
/-! DEFINITION. Patrol scrub (R207), LOST stacks (R208), atomics at their target (R198 to R200), arbitration windows (R211, R214), and
the sparing controller's swaps, log and hamlet retest (R469 to R474). -/
namespace Sys2Proof.Machine

/-- Granary address of a byte of a logical bank: the inverse of R194. -/
def grnAddr (l offset : Nat) : Nat :=
  let word := offset / 64
  granaryBase + l / 128 * 2 ^ 26 + word * 2 ^ 13 + (l % 128 ^^^ field word 0 7) * 64 + offset % 64

namespace Device

/-! ## Banks -/

/-- The logical bank a physical bank serves, if any (R194). -/
def logicalOf (d : Device) (b : Nat) : Option Nat := (List.range 256).find? (fun l => d.bankOf l = b)

/-- R195: every word of a logical bank poisoned. -/
def poisonBank (d : Device) (l : Nat) : Device :=
  let units := (List.range 32768).map (fun k => grnAddr l (16 * k))
  { d with poison := d.poison.filter (fun u => ¬ (granaryBase ≤ u ∧ (grnPlace u).1 = l)) ++ units }

/-! ## Scrub, LOST stacks and atomics -/

/-- A patrol pass counted when its last burst or word has been read; passes run in ascending order (log entry 37). -/
def scrubPass (d : Device) (pa : Nat) : Device :=
  if pa < hbmSize then
    let (k, pc, off) := hbmPlace pa
    if pc = 31 ∧ off / 32 = 0x48000000 / 32 - 1 then d.count 16 k 0x078 else d
  else if pa / 16 = (granaryBase + granarySize) / 16 - 1 then d.count 17 0 0x078
  else d

/-- A patrol read of the `n` bytes from an address: what its stored bits hold is found (R204, R205, R207). -/
def scrubUnits (d : Device) (pa n found : Nat) : Device := ((d.strike pa found).findErrors (unitsOf pa n) true).2

/-- What a patrol read of a burst or word finds: 0 nothing new, 1 a corrected error, 2 an uncorrectable one, 3 a bank that has failed outright,
whose words are all poisoned (R195). -/
def scrubFound (d : Device) (pa found : Nat) : Device :=
  match regionOf pa with
  | .hbm =>
    if d.fld 16 (hbmPlace pa).1 0x048 8 1 = 0 ∨ d.stackState (hbmPlace pa).1 ≠ 2 ∨ d.computeOff then d
    else (d.scrubUnits (pa / 32 * 32) 32 (min found 2)).scrubPass pa
  | .granary =>
    if d.fld 17 0 0x044 16 1 = 0 ∨ d.computeOff then d
    else
      let d := d.scrubUnits (pa / 64 * 64) 64 (min found 2)
      let l := (grnPlace pa).1
      (if found = 3 then (d.poisonBank l).wornBank (d.bankOf l) 4 else d).scrubPass pa
  | _ => d

/-- SCRUB_READ. Beside what it finds, `found` may say that an error of the stored bits falls there after it, to be met by the next read of any
kind: 4 a correctable one, 5 an uncorrectable one (R204 to R206; DESIGN CHOICE, log entry 98). An address from 2^56 on names a place of the
Green's own stores, which no patrol reads; there 6 is a flash line of 3 or more corrected bits (log entry 107). -/
def scrubRead (d : Device) (pa found : Nat) : Device :=
  if found < 4 then d.scrubFound pa found else (d.scrubFound pa 0).strike pa (min (found - 3) 3)

/-- STACK_LOST (R208): a stack that has stopped responding or passed its error threshold. -/
def stackLostNow (d : Device) (k : Nat) : Device := if k < 8 then d.loseStack k else d

/-- MEMORY_ATOMIC: one atomic of 16 bytes at its target; `code` is the lane width of Table 2-2 (R198). -/
def memoryAtomic (d : Device) (swap : Bool) (pa code v : Nat) : Device :=
  if pa % 16 = 0 ∧ code ≤ 4 then (d.atomicAt swap pa (128 / 2 ^ code) (v % 2 ^ 128)).2 else d

/-! ## Arbitration windows (R211, R214) -/

/-- Page number in `arbCfg` of an arbitration point: stacks 0 to 7, the Granary 8, the control matrix 9, the die-to-die links 10. Points
are the 256 pseudo-channels, the 256 logical banks from 256, the targets of the control matrix, 512 and 517 to 523, and the ends of the Green's
links, 513 to 516. -/
def arbPage (point : Nat) : Nat := if point < 256 then point / 32 else if point < 512 then 8 else if point = 512 ∨ point > 516 then 9 else 10

/-- Configuration of the windows of a page: its register, or the defaults of R211 at a link, which has none. -/
def arbReg (d : Device) (page : Nat) : Nat :=
  if page < 8 then d.rg 16 page 0x040 else if page = 8 then d.rg 17 0 0x040 else if page = 9 then d.rg 20 0 0x044 else 0x04000100

/-- HIGH_CLASS_WINDOW_END: the quota of the point's masked requesters is restored, and a changed configuration is in force, for every point of
its page from the first of their windows to end (DESIGN CHOICE, log entry 92). -/
def windowEnd (d : Device) (point : Nat) : Device :=
  if point ≤ 523 then
    { d with grants := d.grants.erase point, arbCfg := d.arbCfg.set (arbPage point) (d.arbReg (arbPage point)) }
  else d

/-- R211: whether a point's high-class requesters are masked until the window ends. -/
def masked (d : Device) (point : Nat) : Bool := d.grants.get 0 point ≥ field (d.arbCfg.get 0x04000100 (arbPage point)) 0 12

/-! ## Swaps (R469, R474) -/

/-- SPR_CMD_GO: the swap that SPR_CMD and SPR_CMD_AT name, or a refusal. -/
def sprCmd (d : Device) : Device :=
  let v := d.rg 11 0 0x044
  let kind := field v 0 2
  let unit := field v 4 9
  let at_ := d.rg 11 0 0x048 + field (d.rg 11 0 0x04C) 0 8 * 2 ^ 32
  let at_ := if at_ ≤ d.stroke then d.stroke + 1 else at_
  let spare : Bool := if kind = 0 then (d.seedCroft (hamletOf unit)).isSome else !(d.seedBanks (bankDie unit)).isEmpty
  let fit : Bool := if kind = 0 then decide (unit < 272) && !((d.croft unit).st = 2 || (d.croft unit).st = 4) && !(d.croft unit).retiring
    else decide (unit < 264) && decide (d.bankState unit = 1)
  if kind ≥ 2 then d
  else if ¬ fit ∨ ¬ spare then d.event 11 0 3
  else
    let d := d.setFld 11 0 0x044 31 1 1
    let others := d.spare.named.filter (fun e => ¬ (e.1 = kind ∧ e.2.1 = unit))
    { d with spare := { d.spare with named := others ++ [(kind, unit, at_, 5)] } }

/-- A swap named through SPR_CMD has run or been refused: GO reads 0. -/
def clearGo (d : Device) (reason : Nat) : Device := if reason = 5 then d.setFld 11 0 0x044 31 1 0 else d

/-- A worn croft's swap at its stroke: the seed croft starts its croft reset, or the worn croft is RETIRED. -/
def swapCroft (d : Device) (n reason : Nat) : Device :=
  let d := d.clearGo reason
  if (d.croft n).st = 4 ∨ (d.croft n).retiring then d
  else
    match d.seedCroft (hamletOf n) with
    | none => d.retireCroft n 6
    | some m =>
      let c := d.croft n
      let stuck := c.deque.filter (fun t => t.glean = 2 || t.ordered)
      let d := d.setCroft n { c with retiring := true, deque := c.deque.filter (fun t => ¬ (t.glean = 2 || t.ordered)) }
      ((d.withdraw n stuck).resetCroft m false false).upCroft m (fun c => { c with swapFor := some (n, reason) })

/-- A worn bank's swap at its stroke: the copy of R195 begins. -/
def swapBank (d : Device) (b reason : Nat) : Device :=
  let d := d.clearGo reason
  let free := (d.seedBanks (bankDie b)).filter (fun m => !(d.spare.copying.any (fun c => c.2.1 = m) || d.spare.copied.any (fun c => c.1.2.1 = m)))
  if d.bankState b ≠ 1 ∨ d.spare.copying.any (fun c => c.1 = b) ∨ d.spare.copied.any (fun c => c.1.1 = b) then d
  else
    match free with
    | [] => d.exhausted b 1
    | m :: _ => { d with spare := { d.spare with copying := d.spare.copying ++ [(b, m, reason)] } }

/-- Action 7 of Table 15-4: the swaps named for a stroke up to the one that begins, the lower physical number first (Table 18-3). -/
def swapsDue (d : Device) : Device :=
  if d.stoodDown then d
  else
    let due := sortBy (fun e => e.2.1) (d.spare.named.filter (fun e => e.2.2.1 ≤ d.stroke))
    let d : Device := { d with spare := { d.spare with named := d.spare.named.filter (fun e => ¬ (e.2.2.1 ≤ d.stroke)) } }
    due.foldl (fun d e => if e.1 = 0 then d.swapCroft e.2.1 e.2.2.2 else d.swapBank e.2.1 e.2.2.2) d

/-- GRN_MAP switched from a bank to its seed (R195). -/
def switchBank (d : Device) (old new reason : Nat) : Device :=
  match d.logicalOf old with
  | none => d
  | some l =>
    let d : Device := { d with spare := { d.spare with bankMap := d.spare.bankMap.set l new } }
    (((d.setBankState old 3).setBankState new 1).event 11 0 1).spareIn old new 1 reason

/-- The strips in the crofts' pipes, by croft, job, instruction and strip; a parked one is at a boundary (log entry 38). -/
def midStrip (d : Device) : List (Nat × Nat × Nat × Nat) :=
  d.crofts.flatMap (fun (e : Nat × Croft) => (e.2.strips.filter (fun s => !s.parked)).map (fun s => (e.1, s.tk.job, s.tk.instr, s.tk.strip)))

/-- GRN_MAP switched for the copies that have ended, once every croft has come to the end of the strip it was in (R195, R469). -/
def settleBanks (d : Device) : Device :=
  let now := d.midStrip
  let left := d.spare.copied.map (fun c => (c.1, c.2.filter (fun s => now.contains s)))
  let due := left.filter (fun c => c.2.isEmpty)
  due.foldl (fun d c => d.switchBank c.1.1 c.1.2.1 c.1.2.2)
    { d with spare := { d.spare with copied := left.filter (fun c => !c.2.isEmpty) } }

/-- Units of a logical bank whose stored bits are in error. -/
def bankErrors (d : Device) (l : Nat) : List Nat := (d.latent.map (·.1)).filter (fun u => decide (regionOf u = .granary) && decide ((grnPlace u).1 = l))

/-- BANK_COPY_COMPLETE: the oldest copy ends. It has read every word: those it could not read hold poison in the new bank, as do those that held
it before (R195, R205). The map switches at the next strip boundary. -/
def bankCopied (d : Device) : Device :=
  match d.spare.copying with
  | (old, new, reason) :: rest =>
    match d.logicalOf old with
    | none => { d with spare := { d.spare with copying := rest } }
    | some l =>
      let d := (d.findErrors (d.bankErrors l) false).2
      ({ d with spare := { d.spare with copying := rest, copied := d.spare.copied ++ [((old, new, reason), d.midStrip)] } } : Device).settleBanks
  | [] => d

/-- SPR_LOG_POP: the low word popped, its high half latched; an empty log reads zero. -/
def sprPop (d : Device) : Nat × Device :=
  match d.spare.log with
  | (lo, hi) :: rest => (lo, ({ d with spare := { d.spare with log := rest } } : Device).setRg 11 0 0x054 hi)
  | [] => (0, d)

/-- SPR_STATUS as the stock stands. -/
def sprStatus (d : Device) : Nat :=
  if d.power.step < 4 then 0
  else
    let crofts := ((List.range 272).filter (fun n => (d.croft n).st = 2)).length
    let banks := ((List.range 264).filter (fun b => d.bankState b = 2)).length
    let reeve := ofBool ((List.range 5).any (fun n => ((d.reeves.find? n).map (·.st)).getD (if n < 4 then 0 else 1) = 1))
    let phase (r : Nat) : Nat := 2 - min 2 (d.spare.phases.get 0 (2 + r) + d.spare.phases.get 0 (4 + r))
    let lanes := (List.range 4).foldl (fun n p => n + ofBool (!(d.spare.lanesUsed.any (fun k => k % 4 = p))) * 2 ^ p) 0
    crofts + banks * 2 ^ 5 + reeve * 2 ^ 9 + phase 0 * 2 ^ 10 + phase 1 * 2 ^ 12 + lanes * 2 ^ 14 + (64 - min 64 d.spare.flashUsed) * 2 ^ 18 +
      ofBool (!d.spare.named.isEmpty) * 2 ^ 25

/-! ## Hamlets (R472) -/

/-- HAMLET_RETEST of one hamlet, whose shelf and Fence slice a reset tests. -/
def retestHamlet (d : Device) (h : Nat) (pass : Bool) : Device :=
  match d.spare.hamletBefore.find? h with
  | none => d
  | some before =>
    let d : Device := { d with spare := { d.spare with hamletBefore := d.spare.hamletBefore.erase h } }
    if pass ∧ d.spare.hamletFaults.get 0 h < 2 then
      before.foldl (fun (d : Device) b => d.upCroft b.1 (fun c => { c with st := if c.st = 4 then 4 else b.2, selfTest := false, retiring := false })) d
    else
      let d := (span (17 * h) 17).foldl (fun (d : Device) n => d.upCroft n (fun c => { c with st := 4, selfTest := false, retiring := false })) d
      ((d.event 11 0 4).event 11 0 1).logSpare h 0x1FF 7 4

end Device

end Sys2Proof.Machine
end

