-- ==== Sys2Proof/Machine/Bell.lean ====
section
/-! DEFINITION. The Bell unit: marks, sources and strokes (R401 to R412), and the actions of a stroke (R413, Table 15-4). -/
namespace Sys2Proof.Machine

/-- Cycles of domain 2 (200 MHz) in a stroke of a period code (Table 15-1). -/
def periodCycles (code : Nat) : Nat := 50000 * 2 ^ code

/-- R402: the whole multiple of a period that an interval spans, if it lies within 0.1 % of one. -/
def wholePeriods (code interval : Nat) : Option Nat :=
  let p := periodCycles code
  let k := (interval + p / 2) / p
  if k ≥ 1 ∧ 1000 * interval ≤ 1001 * (k * p) ∧ 1000 * interval ≥ 999 * (k * p) then some k else none

/-- The last stroke (R548). -/
def lastStroke : Nat := 2 ^ 40 - 1

/-- A mark as its source gives it. -/
structure Mark where
  stroke : Nat
  period : Nat
  free : Bool
  hops : Nat
  origin : Nat
  deriving DecidableEq, Repr

namespace Device

/-! ## Stroke actions -/

/-- Whether a job misses its deadline at this stroke: in a channel that has not gone BROKEN (R559) it is not over, and no earlier event has fixed
its status (R234). -/
def missesDeadline (d : Device) (j : Job) : Bool :=
  (d.chan j.ch).st.live && !j.over && j.stop.isNone && dsDeadline j.desc ≠ 0 && dsDeadline j.desc ≤ d.stroke

/-- Action 2: the jobs whose DEADLINE stroke has begun end with DEADLINE (R228). -/
def deadlines (d : Device) : Device :=
  if d.stoodDown then d else
  (d.jobs.filter (fun e => d.missesDeadline e.2)).foldl (fun d e =>
    let d := d.stopJob e.1 { status := stDeadline }
    if e.2.sownFail.isSome then d else d.missDeadline e.2) d

/-- Action 3: a pending mode request whose stroke has begun (R178). -/
def modeStroke (d : Device) : Device :=
  match d.sower.modeReq with
  | some (v, at_) => if at_ ≤ d.stroke then d.modeApply v else d
  | none => d

/-- Action 4: strip budgets set to QUOTA (R174). -/
def quotas (d : Device) : Device :=
  { d with chans := d.chans.map (fun (e : Nat × Channel) => (e.1, { e.2 with quota := entQuota (e.2.entry.getD 0), budget := entQuota (e.2.entry.getD 0) })) }

/-- Action 6: heartbeats to the understudies, missed ones counted on both sides, leases renewed (R273 to R275, R423). In stand-down
the module sends and renews nothing (R462). -/
def leases (d : Device) : Device :=
  let mine := d.chans.filter (fun (e : Nat × Channel) => e.2.mirror = .mirrored || e.2.mirror = .unmirrored)
  let peers := (mine.map (fun e => entUnderstudy (d.entry e.1))).eraseDups
  let d := if d.stoodDown then d else peers.foldl (fun d m =>
    d.sendFrame { kind := 0xA, dest := m, src := 0, data := d.stroke + ofBool d.bellFree * 2 ^ 40 }) d
  let d : Device := { d with
    chans := d.chans.map (fun (e : Nat × Channel) => (e.1, if e.2.mirrorOut ≠ [] then { e.2 with missed := e.2.missed + 1 } else e.2))
    ledger := { d.ledger with setups := d.ledger.setups.map (fun s => { s with missed := s.missed + 1 }) } }
  d.chans.foldl (fun d e => if d.stoodDown ∧ ¬ (d.stroke + 1 ≥ (d.chan e.1).lease) then d else d.leaseStroke e.1) d

/-- The STROKE interrupt of every reeve in service. -/
def strokeInts (d : Device) : Device :=
  (List.range 5).foldl (fun d n => if (d.reeve n).st = 0 then d.upReeve n (fun r => { r with strokeInt := true }) else d) d

/-- R413: the actions of a stroke that has begun, in order; after a jump they are taken once, at the landing stroke. -/
def strokeActions (d : Device) : Device :=
  (((((((d.snapStroke).deadlines).modeStroke).quotas).leases).swapsDue).settleBanks).strokeInts

/-! ## Strokes and marks -/

/-- Whether the module follows its BELL input or its own oscillator, and so roots its marks (R412). -/
def rootsMarks (d : Device) : Bool := d.bell.source = 1 || d.bell.source = 2

/-- MARK_RELAY: a mark on every UP port with MARKS_OUT (R412). MARK_AGE is free: it runs to the start of a codeword, which is timing (log entry 125). -/
def relayMarks (d : Device) : Device :=
  let origin := if d.rootsMarks then d.moduleId else d.bell.origin
  let hops := if d.rootsMarks then 0 else d.bell.hops + 1
  (List.range 4).foldl (fun d p =>
    if d.alnUp p ∧ d.fld 8 p 0x040 2 1 = 1 then
      let (age, d) := d.takeFree 16
      d.emit (.mark p d.stroke d.bell.period (d.bell.state ≠ 2) origin hops age)
    else d) d

/-- A stroke begins at a phase; from the always-on island alone (STANDBY) it only counts (R406). -/
def beginStroke (d : Device) (s phase : Nat) : Device :=
  let d : Device := { d with bell := { d.bell with stroke := s, phase := phase } }
  if d.power.step < 3 then d else ((d.count 7 0 0x060).strokeActions).relayMarks

/-- A period code taken over (R403): the measured intervals are discarded. -/
def takePeriod (d : Device) (code : Nat) : Device :=
  if d.bell.period = code then d
  else ({ d with bell := { d.bell with period := code, intervals := [], measured := periodCycles code } } : Device).event 7 0 5

/-- R401: an interval between marks enters the mean of the last 16. -/
def measure (d : Device) (interval k : Nat) : Device :=
  let iv := (interval / k :: d.bell.intervals).take 16
  let m := iv.foldl (· + ·) 0 / iv.length
  { d with bell := { d.bell with intervals := iv, measured := m, holdover := some m } }

/-- R548: bell time at its end holds there, and the unit is HOLDING; `was` is its state before. -/
def holdEnd (d : Device) (was : Nat) : Device :=
  let d : Device := { d with bell := { d.bell with state := 3, phase := 2 ^ 24 - 1 } }
  if was = 3 then d else d.event 7 0 4

/-- Whether bell time has reached its end. -/
def timeOver (d : Device) : Bool := d.stroke = lastStroke && d.bell.phase = 2 ^ 24 - 1

/-- MARK_APPLY (R404): a valid mark of the followed source, the `run`th in a row that is not free with consecutive strokes. A unit that is
FREE locks at the third (Table 15-2). -/
def applyMark (d : Device) (m : Mark) (run : Nat) : Device :=
  let here := d.stroke
  let lock (d : Device) : Device :=
    let was := d.bell.state
    let goal := if m.free ∨ (was = 0 ∧ run < 3) then 0 else 2
    let d : Device := { d with bell := { d.bell with state := goal, hops := m.hops, origin := m.origin, behind := false } }
    if goal = 2 ∧ was ≠ 2 then d.event 7 0 0 else d
  if m.stroke = here + 1 then ((lock d).takePeriod m.period).beginStroke m.stroke 0
  else if m.stroke > here then
    if d.bell.state = 3 then d
    else ((((lock d).takePeriod m.period).countBy 7 0 0x068 (m.stroke - here - 1)).event 7 0 2).beginStroke m.stroke 0
  else if here - m.stroke < d.fld 7 0 0x040 8 8 then
    let d' : Device := { d with bell := { d.bell with state := 3, hops := m.hops, origin := m.origin } }
    if d.bell.state = 3 then d' else d'.event 7 0 4
  else ({ d with bell := { d.bell with state := 0, behind := true } } : Device).event 7 0 3

/-! ## Sources (R405 to R408) -/

/-- Rank of an offered source, the least best (R408). -/
def sourceRank (d : Device) (code : Nat) (s : BellSource) : Nat :=
  if ¬ s.free then (if code = 1 then 0 else 1 + s.hops * 8 + code)
  else 2 ^ 40 + (if code = 1 then d.moduleId else s.origin) * 2 ^ 20 + (if code = 1 then 0 else s.hops) * 16 + (if code = 1 then 0 else code)

/-- Whether a source is offered: an Alnar port only with MARKS_IN; one that is not free after 3 valid marks in a row, or while it is followed
and its marks are not refused. -/
def offered (d : Device) (code : Nat) (s : BellSource) : Bool :=
  (code < 4 || d.fld 8 (code - 4) 0x040 1 1 = 1) && (s.free || s.run ≥ 3 || (d.bell.source = code && !d.bell.behind))

/-- R408: the source to follow, 2 for the own oscillator. -/
def bestSource (d : Device) : Nat :=
  let cfg := d.fld 7 0 0x040 0 3
  let own := 2 ^ 40 + d.moduleId * 2 ^ 20 + 1
  let all := d.bell.sources.filter (fun e => d.offered e.1 e.2)
  if cfg = 2 then 2
  else if cfg ≠ 0 then (if all.any (fun e => e.1 = cfg) then cfg else 2)
  else
    match argmin (fun e => d.sourceRank e.1 e.2) all with
    | some e => if d.sourceRank e.1 e.2 < own then e.1 else 2
    | none => 2

/-- The unit selects its source again; one newly selected applies its marks from FREE (R407). -/
def reselect (d : Device) : Device :=
  let s := d.bestSource
  if s = d.bell.source then d else { d with bell := { d.bell with source := s, state := 0, behind := false } }

/-- A mark received from a source, with the interval since that source's last valid mark in cycles of domain 2 (R402). -/
def markFrom (d : Device) (code : Nat) (m : Mark) (interval : Nat) : Device :=
  let prev := d.bell.sources.find? code
  let k := match prev with
    | none => some 1
    | some p => wholePeriods p.period interval
  match k with
  | none => d.count 7 0 0x070
  | some k =>
    if m.period > 4 then d.count 7 0 0x070
    else if d.timeOver then d.event 7 0 3
    else
      let run := match prev with
        | some p => if ¬ p.free ∧ ¬ m.free ∧ m.stroke = p.stroke + 1 then p.run + 1 else 1
        | none => 1
      let src : BellSource := { stroke := m.stroke, period := m.period, free := m.free, hops := m.hops, origin := m.origin, run := run }
      let d : Device := { d with bell := { d.bell with sources := d.bell.sources.set code src } }
      let was := d.bell.source
      let best := d.bestSource
      if best ≠ code then (if was = code then d.reselect else d)
      else
        let d : Device := { d with bell := { d.bell with source := code } }
        -- the bell-lost comparator shows a source again (Table 16-6)
        let d := d.setFld 15 0 0x00C 6 1 0
        let d := d.applyMark m run
        -- the first mark after a change of period or source starts a fresh mean
        match prev with
        | some p => if was = code ∧ p.period = m.period then d.measure interval k else { d with bell := { d.bell with holdover := some d.bell.measured } }
        | none => { d with bell := { d.bell with holdover := some d.bell.measured } }

/-- BELL_FRAME: the fields of Table 15-3 checked, then the mark applied; its CRC is over bits [63:0]. -/
def bellFrame (d : Device) (v interval : Nat) : Device :=
  if ¬ d.power.vnw then d
  else if field v 0 8 = 0xD5 ∧ field v 52 12 = 0 ∧ field v 64 32 = crc32c (bytesOf 8 v) then
    d.markFrom 1 { stroke := field v 8 40, period := field v 48 3, free := field v 51 1 = 1, hops := 0, origin := d.moduleId } interval
  else d.count 7 0 0x070

/-- ALNAR_MARK: a mark in a checked link-control field of a port (R412). How long ago its stroke began, ALN_DELAY and MARK_AGE, is timing (log entry 125). -/
def alnarMark (d : Device) (p : Nat) (m : Mark) (interval : Nat) : Device :=
  if p < 4 ∧ d.alnUp p ∧ d.fld 8 p 0x040 1 1 = 1 then
    d.markFrom (4 + p) { m with stroke := m.stroke % 2 ^ 40, hops := m.hops % 4096, origin := m.origin % 4096 } interval
  else d

/-- FREE_STROKE (R406): while no source is followed, or the followed one was refused, a stroke begins at each free period. -/
def freeStroke (d : Device) : Device :=
  if ¬ d.power.vnw ∨ ¬ (d.bell.source = 2 ∨ d.bell.behind) then d
  else if d.stroke = lastStroke then d.holdEnd d.bell.state
  else
    let own : Bool := d.bell.holdover.isNone || d.fld 7 0 0x040 0 3 = 2
    let d := if own then d.takePeriod (d.fld 7 0 0x040 4 3) else d
    d.beginStroke (d.stroke + 1) 0

/-- SOURCE_LOST (R407): LOST, the bell-lost comparator, a new choice, and the missing stroke a sixteenth of a period in. A source that is selected and
whose marks are refused is not followed: where it falls silent the unit only selects again (DESIGN CHOICE, log entry 126). -/
def sourceLost (d : Device) : Device :=
  let b := d.bell
  if b.source = 2 then d
  else if b.behind then ({ d with bell := { b with sources := b.sources.erase b.source } } : Device).reselect
  else
    let d : Device := { d with bell := { b with sources := b.sources.erase b.source } }
    let d := ((d.count 7 0 0x078).event 7 0 1).reselect
    let d := (d.setRg 15 0 0x00C (d.rg 15 0 0x00C ||| 2 ^ 6)).event 15 0 6
    if d.stroke = lastStroke then d.holdEnd b.state
    else d.beginStroke (d.stroke + 1) 0x100000

/-- TIMING_EXCHANGE (R411): a port's one-way delay, averaged over 256 exchanges; times in units of 0.125 ns. -/
def timingExchange (d : Device) (p echo r2 : Nat) : Device :=
  if p < 4 ∧ d.alnUp p then
    let a := d.port p
    let sum := a.delaySum + (r2 + 65536 - echo % 65536) % 65536 / 2
    if a.delayN + 1 < 256 then d.setPort p { a with delaySum := sum, delayN := a.delayN + 1 }
    else (d.setPort p { a with delaySum := 0, delayN := 0 }).setRg 8 p 0x044 (sum / 256)
  else d

/-- BEL_STATUS as the unit stands. -/
def belStatus (d : Device) : Nat :=
  let b := d.bell
  b.state % 4 + b.source % 8 * 2 ^ 2 + b.period % 8 * 2 ^ 5 + (if d.rootsMarks then 0 else b.hops % 4096) * 2 ^ 8 +
    (if d.rootsMarks then 0 else b.origin % 4096) * 2 ^ 20

/-- One phase step of bell time while nothing else happens (log entry 33); at the end of the stroke the phase holds (R401), and at the
end of the last stroke the unit is HOLDING (R548). -/
def tick (d : Device) : Device :=
  if d.power.vnw ∧ d.bell.phase < 2 ^ 24 - 1 then
    let d : Device := { d with bell := { d.bell with phase := d.bell.phase + 1 } }
    if d.timeOver then d.holdEnd d.bell.state else d
  else d

end Device

end Sys2Proof.Machine
end

