-- ==== Sys2Proof/Machine/Ring.lean ====
section
/-! DEFINITION. The Alnar ring: routes (R419, R420), codewords and lanes (R414 to R418), frames that arrive (R418, R422, R423), far
requests served and answered (R422). -/
namespace Sys2Proof.Machine

/-! ## Routes (R419, R420) -/

/-- A link of the discovered topology: two module IDs, the lower one first where both are known, and its latency in ns. -/
structure Edge where
  a : Nat
  b : Nat
  lat : Nat
  deriving DecidableEq, Repr

/-- Links announced, each once: by its lower end, or by its only end that is known. -/
def edgesOf (links : Map (List (Nat × Nat))) : List Edge :=
  links.flatMap (fun m => m.2.filterMap (fun l =>
    if m.1 < l.1 ∨ (links.find? l.1).isNone then some { a := m.1, b := l.1, lat := l.2 } else none))

/-- Kruskal's step: the component of each module by a label, and the links taken so far. -/
def growTree (acc : Map Nat × List Edge) (e : Edge) : Map Nat × List Edge :=
  let la := acc.1.get e.a e.a
  let lb := acc.1.get e.b e.b
  if la = lb then acc
  else (((acc.1.set e.a la).set e.b lb).map (fun x => (x.1, if x.2 = lb then la else x.2)), acc.2 ++ [e])

/-- Spanning tree over the links of least latency (R420): the link of highest latency of each cycle is left out. -/
def spanningTree (es : List Edge) : List Edge := ((sortBy (fun e => e.lat) es).foldl growTree ([], [])).2

/-- Cycles of the topology: links beyond a spanning tree. -/
def cyclesOf (es : List Edge) : Nat := es.length - (spanningTree es).length

/-- R419: whether route `x` as (port, hops, latency) is better than `y`. -/
def betterRoute (x y : Nat × Nat × Nat) : Bool :=
  x.2.1 < y.2.1 || (x.2.1 = y.2.1 && (x.2.2 < y.2.2 || (x.2.2 = y.2.2 && x.1 < y.1)))

/-- A candidate route to a module kept if it is better than the one known. -/
def offerRoute (rs : Map (Nat × Nat × Nat)) (dest : Nat) (r : Nat × Nat × Nat) : Map (Nat × Nat × Nat) :=
  match rs.find? dest with
  | some old => if betterRoute r old then rs.set dest r else rs
  | none => rs.set dest r

/-- One round over every link in both directions. -/
def relaxRoutes (own : Nat) (es : List Edge) (rs : Map (Nat × Nat × Nat)) : Map (Nat × Nat × Nat) :=
  es.foldl (fun rs e =>
    let go (rs : Map (Nat × Nat × Nat)) (a b : Nat) : Map (Nat × Nat × Nat) :=
      match rs.find? a with
      | some (p, h, l) => if b = own then rs else offerRoute rs b (p, h + 1, l + e.lat)
      | none => rs
    go (go rs e.a e.b) e.b e.a) rs

/-- Rounds until every route has settled. -/
def settleRoutes (own : Nat) (es : List Edge) : Nat → Map (Nat × Nat × Nat) → Map (Nat × Nat × Nat)
  | 0, rs => rs
  | n + 1, rs => settleRoutes own es n (relaxRoutes own es rs)

namespace Device

/-- Whether MODULE_ID is in force (ALN_ID.ASSIGNED). -/
def assigned (d : Device) : Bool := d.fld 8 0 0x048 12 1 = 1

/-- This module in the discovered topology; one without an ID stands beyond every ID. -/
def ownNode (d : Device) : Nat := if d.assigned then d.moduleId else 4096

/-- Latency of a port's link in ns: ALN_DELAY + 400 ns. -/
def linkLatency (d : Device) (p : Nat) : Nat := d.fld 8 p 0x044 0 16 / 8 + 400

/-- Ports that are UP and know their peer, as (port, peer, latency). -/
def ownLinks (d : Device) : List (Nat × Nat × Nat) :=
  (List.range 4).filterMap (fun p => if d.alnUp p ∧ d.fld 8 p 0x00C 20 1 = 1 then some (p, d.fld 8 p 0x00C 8 12, d.linkLatency p) else none)

/-- Every link known, this module's own among them. -/
def allEdges (d : Device) : List Edge :=
  edgesOf ((Map.erase d.ring.links d.ownNode).set d.ownNode (d.ownLinks.map (fun l => l.2)))

/-- Whether a link is one of a list, in either direction. -/
def onTree (es : List Edge) (a b lat : Nat) : Bool := es.any (fun e => (e.a = a && e.b = b || e.a = b && e.b = a) && e.lat = lat)

/-- The routes of R419 from what is known; more than one cycle raises TOPOLOGY and leaves a spanning tree (R420). -/
def reroute (d : Device) : Device :=
  let es := d.allEdges
  let many : Bool := cyclesOf es > 1
  let use := if many then spanningTree es else es
  let first := d.ownLinks.foldl (fun rs l => if many ∧ ¬ onTree use d.ownNode l.2.1 l.2.2 then rs else offerRoute rs l.2.1 (l.1, 1, l.2.2)) []
  let rs := settleRoutes d.ownNode use (d.ring.links.length + 4) first
  let rs : Map (Nat × Nat × Nat) := rs.filter (fun r => r.1 ≠ d.ownNode)
  let d : Device := { d with ring := { d.ring with routes := rs } }
  if many then d.event 8 0 4 else d

/-- An announcement sent on every port that is UP but one. -/
def floodTo (d : Device) (src : Nat) (links : List (Nat × Nat)) (age : Nat) (but : Option Nat) : Device :=
  (List.range 4).foldl (fun d p =>
    if d.alnUp p ∧ but ≠ some p then (d.count 8 p 0x080).emit (.topology p src links age) else d) d

/-- This module's own announcement, flooded after a change of its ports; a module without an ID sends none. -/
def announce (d : Device) : Device :=
  let d := d.reroute
  if d.assigned then d.floodTo d.moduleId (d.ownLinks.map (fun l => l.2)) 0 none else d

/-- TOPOLOGY: an announcement of module `src` that arrived on a port after `age` hops. -/
def topology (d : Device) (p src : Nat) (links : List (Nat × Nat)) (age : Nat) : Device :=
  let src := src % 4096
  if ¬ (p < 4 ∧ d.alnUp p) then d
  else
    let fresh : Bool := age = 0 && !(d.fld 8 p 0x00C 20 1 = 1 && d.fld 8 p 0x00C 8 12 = src)
    let d := if age = 0 then (d.setFld 8 p 0x00C 8 12 src).setFld 8 p 0x00C 20 1 1 else d
    if d.assigned ∧ src = d.moduleId then
      -- its own announcement that came round, or another module with its ID
      if age ≠ 0 ∧ links = d.ownLinks.map (fun l => l.2) then d
      else (d.setFld 8 0 0x048 13 1 1).event 8 0 5
    else
      let new : Bool := d.ring.links.find? src ≠ some links
      let d : Device := { d with ring := { d.ring with links := d.ring.links.set src links } }
      let d := if new then d.floodTo src links (age + 1) (some p) else d
      if fresh then d.announce else if new then d.reroute else d

/-- ALN_ROUTE for the destination in ALN_ROUTE_SEL. -/
def alnRoute (d : Device) : Nat :=
  let dest := d.fld 8 0 0x04C 0 12
  if d.assigned ∧ dest = d.moduleId then 4
  else
    match d.routeOf dest with
    | some (p, h, l) => p + h % 4096 * 2 ^ 4 + min 0xFFFF (l / 64) * 2 ^ 16
    | none => 7

/-! ## Ports and lanes (R417) -/

/-- A report of a link in the error log (R464): KIND 0x0B, ARG0 the bit of ALN_EVENT. -/
def linkReport (d : Device) (p bit : Nat) : Device := (d.event 8 p bit).logErr 8 p 0xFFF 0x0B bit 0

/-- A port that has finished training: UP with nothing in flight, on its spare lane or on 4 lanes where a lane has failed before; its
module announces the change. -/
def portUp (d : Device) (p : Nat) : Device :=
  if p < 4 ∧ d.fld 8 p 0x040 0 1 = 1 ∧ (d.alnState p = 0 ∨ d.alnState p = 1) then
    let used := d.spare.lanesUsed.filter (fun k => k % 4 = p)
    let st := match used with
      | [] => 2
      | k :: _ => if used.any (fun k => k / 64 = 1) then 4 else 3 + k / 8 % 8 * 2 ^ 3
    (((d.setPort p {}).setRg 8 p 0x00C st).event 8 p 0).announce
  else d

/-- PORT_DOWN: the port goes DOWN and retrains. What its peer had not acknowledged is lost; mirror frames of this module take
another route, and far requests are sent again by their time limit (Table 15-10). -/
def portDown (d : Device) (p : Nat) : Device :=
  if p < 4 ∧ d.alnUp p then
    let a := d.port p
    let lost := a.unacked.map (·.2) ++ a.queue
    let d := ((d.setPort p {}).setRg 8 p 0x00C 0).linkReport p 1
    let d := d.announce
    (lost.filter (fun f => f.src = d.moduleId && (f.kind = 7 || f.kind = 9))).foldl (fun d f => d.sendFrame f) d
  else d

/-- EN = 0 leaves a port DISABLED; EN = 1 lets it train again. -/
def portEnable (d : Device) (p : Nat) (on : Bool) : Device :=
  if on then (if d.alnState p = 5 then d.setRg 8 p 0x00C 0 else d)
  else if d.alnState p = 5 then d
  else
    let up : Bool := d.alnUp p
    let d := (d.setPort p {}).setRg 8 p 0x00C 5
    if up then (d.event 8 p 1).announce else d

/-- Lane failures of a direction of a port: entries of `lanesUsed` are port + 4 × direction + 8 × lane, plus 64 beyond the spare. -/
def lanesLost (d : Device) (p : Nat) (sent : Bool) : Bool := d.spare.lanesUsed.any (fun k => k % 8 = p + 4 * ofBool sent)
def loseLane (d : Device) (p : Nat) (sent : Bool) (lane beyond : Nat) : Device :=
  { d with spare := { d.spare with lanesUsed := d.spare.lanesUsed ++ [p + 4 * ofBool sent + 8 * (lane % 8) + 64 * beyond] } }

/-- Number of a lane in the sparing log: port, direction (1 sent), lane. -/
def laneUnit (p : Nat) (sent : Bool) (lane : Nat) : Nat := 16 * p + 8 * ofBool sent + lane % 8

/-- LANE_SPARE: the spare lane of a direction takes over a data lane (R417, R467); `lost` for a loss of block lock. -/
def laneSpare (d : Device) (p : Nat) (sent lost : Bool) (lane : Nat) : Device :=
  if p < 4 ∧ (d.alnState p = 2 ∨ d.alnState p = 3) ∧ ¬ d.lanesLost p sent then
    let d := d.loseLane p sent lane 0
    let d := (d.setFld 8 p 0x00C 0 3 3).setFld 8 p 0x00C 3 4 (lane % 8)
    (d.linkReport p 2).spareIn (laneUnit p sent lane) 8 3 (if lost then 4 else 3)
  else d

/-- Frames that a peer has not acknowledged sent again (R416). -/
def resend (d : Device) (p : Nat) (fs : List (Nat × Frame)) : Device :=
  fs.foldl (fun d x => ((d.count 8 p 0x078).countBy 8 p 0x080 (flitsOf x.2)).emit (.frame p x.2)) d

/-- HALF_RETRAIN: a further lane failure with the spare in use; the port is UP on 4 lanes and what waited is sent again (R473). -/
def halfRetrain (d : Device) (p : Nat) (sent : Bool) (lane : Nat) : Device :=
  if p < 4 ∧ (d.alnState p = 2 ∨ d.alnState p = 3) ∧ d.lanesLost p sent then
    let d := (((d.loseLane p sent lane 1).setFld 8 p 0x00C 0 3 4).setFld 8 p 0x00C 3 4 0).linkReport p 3
    let d := (d.event 11 0 2).logSpare (laneUnit p sent lane) 0x1FF 3 6
    d.resend p (d.port p).unacked
  else d

/-! ## Codewords (R416, R418) -/

/-- Frames that waited are sent while their credits last, those of one class and set in order (R418). -/
def drainQueue (d : Device) (p : Nat) : List Frame → Device
  | [] => d
  | f :: rest => drainQueue (d.pushFrame p f) p rest

/-- The link-control field of a codeword that passed its checks: acknowledgement, credits, and a NAK's resend. -/
def linkControl (d : Device) (p : Nat) (w : Codeword) : Device :=
  let a := d.port p
  let acked := (a.unacked.findIdx? (fun x => x.1 = w.ack)).map (· + 1)
  let left := a.unacked.drop (acked.getD 0)
  let cr := (List.range 8).foldl (fun (m : Map Nat) k => m.set k (m.get 0 k + (w.credits[k]?).getD 0)) a.credits
  let naks := if ¬ w.nak then 0 else if acked.getD 0 = 0 then a.naks + 1 else 1
  let d := d.setPort p { a with unacked := left, credits := cr, naks := naks }
  if naks ≥ 64 then d.portDown p
  else
    let d := if w.nak then d.resend p left else d
    (d.setPort p { d.port p with queue := [] }).drainQueue p a.queue

/-- CODEWORD_RECEIVE. A codeword damaged or out of order is answered with NAK; one already received is dropped. -/
def codeword (d : Device) (p : Nat) (w : Codeword) : Device :=
  if ¬ (p < 4 ∧ d.alnUp p) then d
  else
    let nak (d : Device) : Device := d.emit (.nak p (d.port p).rxSeq)
    if w.uncorr then nak (d.count 8 p 0x068)
    else
      let d := d.countBy 8 p 0x060 w.symbols
      if w.crcBad then nak (d.count 8 p 0x070)
      else
        let a := d.port p
        let ahead := (w.seq + 4096 - a.rxSeq) % 4096
        let d :=
          if w.flits = 0 ∨ ahead = 0 ∨ ahead > 2048 then d
          else if ahead = 1 then
            ((d.setPort p { a with rxSeq := w.seq % 4096 }).countBy 8 p 0x088 w.flits).countBy 8 p 0x098 w.reserved
          else nak d
        d.linkControl p w

/-! ## Frames that arrive -/

/-- Kind of the frame that answers a request, if it is one. -/
def answerKind (kind : Nat) : Option Nat :=
  match kind with
  | 1 => some 4
  | 2 => some 5
  | 3 => some 6
  | 7 => some 8
  | 9 => some 8
  | _ => none

/-- A response to a request: its TAG copied, with a status and a payload. It goes out for the module the request named. -/
def answer (d : Device) (f : Frame) (status data : Nat) : Device :=
  match answerKind f.kind, d.routeOf f.src with
  | some k, some (p, _) =>
    d.pushFrame p { kind := k, dest := f.src, src := f.dest, tag := f.tag, status := status, units := if status = 0 ∧ k = 4 then f.units else 0
                    addr := if k = 8 then f.addr else 0, channel := if k = 8 then f.channel else 0, epoch := d.ring.epoch % 65536, data := data }
  | _, _ => d.count 8 0 0x098

/-- Whether this module has the lowest ID that is known (R418). -/
def lowestId (d : Device) : Bool := d.assigned && d.ring.links.all (fun m => d.moduleId ≤ m.1)

/-- A frame for another module forwarded, or answered UNREACHABLE by the module that finds it so (R420). -/
def forward (d : Device) (p : Nat) (f : Frame) : Device :=
  match d.routeOf f.dest with
  | some (q, _) => (d.countBy 8 q 0x090 (flitsOf f)).pushFrame q { f with set := if d.lowestId then 1 else f.set }
  | none => if (answerKind f.kind).isSome then d.answer f 4 0 else d.count 8 p 0x098

/-- A frame of a kind that arrived on a port: served here, refused while the ID is in conflict (R419), or forwarded. -/
def receive (d : Device) (p kind : Nat) (f : Frame) (serve : Device → Device) : Device :=
  if ¬ (p < 4 ∧ d.alnUp p ∧ f.kind = kind) then d
  else if ¬ d.assigned ∨ f.dest ≠ d.moduleId then d.forward p f
  else if d.fld 8 0 0x048 13 1 = 1 then (if (answerKind kind).isSome then d.answer f 3 0 else d.count 8 p 0x098)
  else serve d

/-! ## The target (R422, R462) -/

/-- An enabled ALN_OPEN window as (base, size, writes permitted). -/
def openWindow (d : Device) (n : Nat) : Option (Nat × Nat × Bool) :=
  let lo := d.rg 8 0 (0x0C0 + 8 * n)
  if field lo 0 1 = 1 then
    let size := 2 ^ field lo 1 6
    let base := field lo 12 20 * 2 ^ 12 + field (d.rg 8 0 (0x0C4 + 8 * n)) 0 8 * 2 ^ 32
    some (base / size * size, size, field lo 7 1 = 1)
  else none

/-- Whether a peer may reach a range: one enabled window holds it, none of it is reserved, and the memory is in service. -/
def peerMay (d : Device) (pa n : Nat) (write : Bool) : Bool :=
  (List.range 8).any (fun k => match d.openWindow k with
    | some (b, s, w) => b ≤ pa && pa + n ≤ b + s && (w || !write)
    | none => false) &&
  !d.inReserved pa n && (regionOf pa = .hbm || regionOf pa = .granary) && !d.computeOff && !d.stoodDown

/-- READ: a far read served. -/
def serveRead (d : Device) (f : Frame) : Device :=
  let n := 16 * (f.units % 16 + 1)
  if ¬ d.peerMay f.addr n false then d.answer f 3 0
  else
    match d.readPa f.addr n with
    | (.ok v, d) => d.answer f 0 v
    | (.poison, d) => d.answer f 1 0
    | (_, d) => d.answer f 2 0

/-- WRITE: a far write made, then acknowledged. -/
def serveWrite (d : Device) (f : Frame) : Device :=
  let n := 16 * (f.units % 16 + 1)
  if ¬ d.peerMay f.addr n true then d.answer f 3 0
  else
    match d.writePa f.addr (bytesOf n f.data) with
    | (.ok _, d) => d.answer f 0 0
    | (_, d) => d.answer f 2 0

/-- Address of the kept response of a source's TAG (R422, Table 9-4). -/
def keptPa (src tag : Nat) : Nat := 0x47FE000000 + (src % 4096 * 256 + tag % 256) * 32

/-- A kept response as 32 bytes: old value, TAG, EPOCH, STATUS, and a mark that it is one. -/
def keptWord (f : Frame) (status old : Nat) : Nat :=
  old % 2 ^ 128 + f.tag % 2 ^ 16 * 2 ^ 128 + f.epoch % 2 ^ 16 * 2 ^ 144 + status % 2 ^ 8 * 2 ^ 160 + 2 ^ 168

/-- ATOMIC: answered from its kept slot, or applied once and kept. -/
def serveAtomic (d : Device) (f : Frame) : Device :=
  let slot := keptPa f.src f.tag
  let kept := match d.readPa slot 32 with
    | (.ok v, _) => if field v 128 16 = f.tag % 2 ^ 16 ∧ field v 144 16 = f.epoch % 2 ^ 16 ∧ field v 168 1 = 1 then some v else none
    | _ => none
  match kept with
  | some v => d.answer f (field v 160 8) (field v 0 128)
  | none =>
    let bad : Bool := f.addr % 16 ≠ 0 || (f.op ≠ 1 && f.op ≠ 2) || f.width > 4
    let (status, old, d) :=
      if bad ∨ ¬ d.peerMay f.addr 16 true then (3, 0, d)
      else
        match d.atomicAt (f.op = 2) f.addr (128 / 2 ^ f.width) (f.data % 2 ^ 128) with
        | (.ok v, d) => (0, v, d)
        | (.poison, d) => (1, 0, d)
        | (_, d) => (2, 0, d)
    let d := if status = 3 then d else (d.writePa slot (bytesOf 32 (keptWord f status old))).2
    d.answer f status old

/-! ## The origin (R422) -/

/-- A response to a far request of a kind. -/
def farAnswer (d : Device) (kind : Nat) (f : Frame) : Device :=
  { d with ring := { d.ring with far := d.ring.far.map (fun r =>
      if r.frame.kind = kind ∧ r.frame.dest = f.src ∧ r.frame.tag = f.tag ∧ r.resp.isNone then { r with resp := some (f.status, f.data) } else r) } }

/-- FAR_REQUEST_TIMEOUT: a request without response sent again, or lost after its last retry. -/
def farTimeout (d : Device) (kind dest tag : Nat) : Device :=
  let mine (r : FarReq) : Bool := r.frame.kind = kind && r.frame.dest = dest && r.frame.tag = tag && r.resp.isNone
  match d.ring.far.find? mine with
  | none => d
  | some r =>
    let put (d : Device) (x : FarReq) : Device := { d with ring := { d.ring with far := d.ring.far.map (fun y => if mine y then x else y) } }
    if r.retries < d.fld 8 0 0x054 16 2 then
      ((put d { r with retries := r.retries + 1 }).count 8 0 0x0A0).sendFrame r.frame
    else put d { r with resp := some (2, 0) }

/-! ## Mirror frames (R272, R273, R423) -/

/-- MIRROR_ACK of a channel: of a mirrored write that is outstanding, else of its setup. -/
def mirrorAck (d : Device) (f : Frame) : Device :=
  let c := d.chan f.channel
  if c.entry.isNone ∨ entUnderstudy (d.entry f.channel) ≠ f.src then d
  else if c.mirrorOut.contains f.addr ∧ f.status = 0 then d.mirrorWriteAck f.channel f.addr
  else if c.setupDue ∧ c.mirrorOut = [] then d.mirrorSetupAck f.channel (f.status = 0)
  else d

/-- HEARTBEAT of an origin. -/
def heartbeat (d : Device) (f : Frame) : Device :=
  { d with ledger := { d.ledger with setups := d.ledger.setups.map (fun s => if s.origin = f.src then { s with missed := 0 } else s) } }

/-- Step 4 of Table 16-7: the leave notice on every port. -/
def leaveRing (d : Device) : Device :=
  (List.range 4).foldl (fun d p => if d.alnUp p then d.emit (.leave p) else d) d

end Device

end Sys2Proof.Machine
end

