-- ==== Sys2Proof/Machine/Debug.lean ====
section
/-! DEFINITION. The debug domain (chapter 21): authorisation, halts, steps and resumes, access to reeve registers, trace of reeves,
the Debug reset, and the check codes of Tally frames. -/
namespace Sys2Proof.Machine

/-! ## Control registers of a reeve (Table 11-3) -/

/-- A control register read by number; PC is the address of the instruction that reads it (R316). -/
def Reeve.cr (r : Reeve) (n : Nat) : Nat :=
  match n with
  | 0 => r.pc
  | 1 => r.status
  | 2 => r.cause
  | 3 => r.evbase
  | 4 => r.tsbp
  | 5 => r.tsbp2
  | 6 => r.faddr
  | 7 => r.vstart
  | 8 => r.vl
  | 9 => r.lcount
  | 10 => r.lend
  | 11 => r.winptr
  | _ => 0

/-- Whether a value may stand in STATUS (R340), the privilege of the writer apart. -/
def statusOk (v : Nat) : Bool := field v 8 56 = 0 && field v 0 2 ≠ 2 && (field v 2 1 = 1 || field v 0 2 = 3)

/-- Whether a value may stand in WINPTR (R317). -/
def winptrOk (v : Nat) : Bool :=
  let res := field v 4 5
  res % 2 = 1 && 3 ≤ res && res ≤ 15 && field v 16 1 = 0 && field v 9 7 = 0 && field v 48 16 = 0

/-- R360: LE cleared loses the long registers; LE set finds every one zero once the unit is up. -/
def Reeve.setStatus (r : Reeve) (v : Nat) : Reeve :=
  let v := putField v 6 1 (field r.status 6 1)
  if field v 7 1 = 0 ∧ r.le then { r.drain with status := v, lregs := [], mregs := [], longReady := false }
  else if field v 7 1 = 1 ∧ ¬ r.le then { r with status := v, lregs := [], mregs := [], longReady := false }
  else { r with status := v }

/-- A control register written, its checks passed; the low six bits of EVBASE, TSBP and TSBP2 read as zero (R346). -/
def Reeve.setCr (r : Reeve) (n v : Nat) : Reeve :=
  let v := v % 2 ^ 64
  let base := v / 64 * 64
  match n with
  | 0 => { r with pc := v }
  | 1 => r.setStatus v
  | 2 => { r with cause := v }
  | 3 => { r with evbase := base }
  | 4 => { r with tsbp := base }
  | 5 => { r with tsbp2 := base }
  | 6 => { r with faddr := v }
  | 7 => { r with vstart := v }
  | 8 => { r with vl := v }
  | 9 => { r with lcount := v }
  | 10 => { r with lend := v }
  | 11 => { r with winptr := v }
  | _ => r

/-- CRC-8 of a Tally frame over `n` bits, least significant first: polynomial 0x2F, initial value 0xFF (R513). -/
def crc8 (v : Nat) : Nat → Nat
  | 0 => 0xFF
  | n + 1 =>
    let c := crc8 v n
    let top := c / 128 ^^^ ofBool (v.testBit n)
    c * 2 % 256 ^^^ (if top = 1 then 0x2F else 0)

namespace Device

/-! ## Trace and halts -/

/-- A trace record of a reeve: halt, resume or exception entry (Table 21-6); it carries no channel, so the filter never leaves it out. -/
def traceReeve (d : Device) (n cause : Nat) : Device :=
  let r := d.reeve n
  d.capture 5 none n (r.pc + cause % 2 ^ 32 * 2 ^ 64 + r.why * 2 ^ 96)

/-- A long access stopped between elements: VSTART names the first one not done (R359). -/
def settleLong (r : Reeve) : Reeve :=
  { r with vstart := match r.longAt with
             | some (pc, e) => if pc = r.pc then e else r.vstart
             | none => r.vstart
           longAt := none, longFlight := false }

/-- A reeve halted at its boundary for a reason (R518, R519). -/
def haltReeve (d : Device) (n why : Nat) : Device :=
  let d := d.setReeve n { settleLong (d.reeve n).drain with halted := true, haltReq := false, stepping := false, wfi := false, why := why }
  (d.event 14 0 0).traceReeve n (d.reeve n).cause

/-- HALT_TAKES_EFFECT: a pending halt at an instruction boundary of a reeve in service, outside a locked sequence. -/
def haltEffect (d : Device) (n : Nat) : Device :=
  let r := d.reeve n
  if n < 5 ∧ r.haltReq ∧ r.st = 0 ∧ ¬ r.halted ∧ ¬ r.locked ∧ r.sow.isNone then d.haltReeve n 1 else d

/-- FORCED_HALT: a locked sequence still running after 256 cycles. -/
def forcedHalt (d : Device) (n : Nat) : Device :=
  let r := d.reeve n
  if n < 5 ∧ r.haltReq ∧ r.st = 0 ∧ ¬ r.halted ∧ r.locked then
    let d := d.upReeve n (fun r => { r with resv := none, locked := false, lockBroken := true })
    (d.haltReeve n 1).event 14 0 1
  else d

/-- DBG_RUN.RESUME of a reeve (R520). -/
def resumeReeve (d : Device) (n : Nat) : Device :=
  let r := d.reeve n
  if n < 5 ∧ r.halted then
    let d := d.upReeve n (fun r => { r with halted := false, stepping := false, lockBroken := false, why := 0 })
    d.traceReeve n 0
  else d

/-- Reeves whose bit of a 5-bit mask is set. -/
def reevesOf (mask : Nat) : List Nat := (List.range 5).filter (fun n => mask.testBit n)

/-- A write of DBG_RUN: HALT wins over RESUME (R518, R520, R527). -/
def dbgRun (d : Device) (v : Nat) : Device :=
  let halts := field v 0 5
  let d := (reevesOf halts).foldl (fun d n => if (d.reeve n).halted then d else d.upReeve n (fun r => { r with haltReq := true })) d
  let d := (reevesOf (field v 8 5)).foldl (fun d n => if halts.testBit n then d else d.resumeReeve n) d
  (reevesOf (field v 16 5)).foldl (fun d n =>
    if (d.reeve n).halted then d.upReeve n (fun r => { r with halted := false, stepping := true, lockBroken := false, why := 0 }) else d) d

/-- A STEP of a reeve that is not halted is refused (R527). -/
def stepRefused (d : Device) (v : Nat) : Bool := (reevesOf (field v 16 5)).any (fun n => !(d.reeve n).halted)

/-! ## Authorisation (R515 to R517) -/

/-- Highest level that a life-cycle state permits. -/
def maxLevel (lifecycle : Nat) : Nat := if lifecycle = 2 then 2 else if lifecycle = 4 then 0 else 3

/-- What follows a level below CONTROL, and below FULL (R517). -/
def belowLevel (d : Device) : Device :=
  let low : Bool := d.dbg.level < 2
  let d := if low then
      let d := (List.range 5).foldl (fun d n => (d.resumeReeve n).upReeve n (fun r => { r with haltReq := false, stepping := false })) d
      d.setRg 14 0 0x044 (d.rg 14 0 0x044 &&& 2 ^ 16)
    else d
  if d.dbg.level < 3 then d.setFld 14 0 0x044 17 1 0 else d

/-- The level set for a lifetime. -/
def setLevel (d : Device) (level lifetime : Nat) : Device :=
  let changed : Bool := d.dbg.level ≠ level
  let d := ({ d with dbg := { d.dbg with level := level, lifetime := lifetime } } : Device).belowLevel
  if changed then d.event 14 0 3 else d

/-- The level falls to FULL in BLANK and to LOCKED elsewhere (R516). -/
def dropLevel (d : Device) : Device := d.setLevel (if d.gate.lifecycle = 0 then 3 else 0) 0xFFFF

/-- AUTH_EXPIRY: the lifetime of a grant ends. -/
def authExpiry (d : Device) : Device := if d.dbg.lifetime ≠ 0xFFFF then d.dropLevel else d

/-- R526: a Debug reset. -/
def debugReset (d : Device) : Device :=
  let d := (List.range 5).foldl (fun d n => (d.resumeReeve n).upReeve n (fun r => { r with haltReq := false, stepping := false })) d
  let d : Device := { d.resetPage 14 0 [] with trace := [] }
  let d : Device := { d with dbg := { d.dbg with inStep := false, discard := d.dbg.access.isSome } }
  d.dropLevel

/-! ## Register access (R522) -/

/-- Where a register number of Table 21-4 leads. -/
inductive DbgReg where
  | scalar (n : Nat) | control (n : Nat) | windowed (n : Nat) | long (n k : Nat) | mask (n k : Nat)
  deriving DecidableEq, Repr

def dbgReg (num : Nat) : Option DbgReg :=
  if num < 0x20 then some (.scalar num)
  else if num < 0x2C then some (.control (num - 0x20))
  else if 0x40 ≤ num ∧ num < 0xC0 then some (.windowed (num - 0x40))
  else if 0x1000 ≤ num ∧ num < 0x1800 then some (.long ((num - 0x1000) / 64) (num % 64))
  else if 0x1800 ≤ num ∧ num < 0x1A00 then some (.mask ((num - 0x1800) / 64) (num % 64))
  else none

/-- The reeve and register that DBG_REG_SEL names, if access to it is not refused. -/
def dbgTarget (d : Device) : Option (Nat × DbgReg) :=
  let n := d.fld 14 0 0x050 16 3
  let r := d.reeve n
  if n ≥ 5 ∨ ¬ r.halted then none
  else
    match dbgReg (d.fld 14 0 0x050 0 16) with
    | some (.long a k) => if r.le then some (n, .long a k) else none
    | some (.mask a k) => if r.le then some (n, .mask a k) else none
    | some t => some (n, t)
    | none => none

def Reeve.dbgGet (r : Reeve) : DbgReg → Nat
  | .scalar n => r.get n
  | .control n => r.cr n
  | .windowed n => r.regs.get 0 (8 + n)
  | .long n k => field (r.lreg n) (64 * k) 64
  | .mask n k => field (r.mreg n) (64 * k) 64

def Reeve.dbgPut (r : Reeve) (t : DbgReg) (v : Nat) : Reeve :=
  match t with
  | .scalar n => r.put n v
  | .control n => r.setCr n v
  | .windowed n => { r with regs := r.regs.set (8 + n) (v % 2 ^ 64) }
  | .long n k => { r with lregs := r.lregs.set n (putField (r.lreg n) (64 * k) 64 v) }
  | .mask n k => { r with mregs := r.mregs.set n (putField (r.mreg n) (64 * k) 64 v) }

/-- DBG_REG_READ: the low half of the register, its high half latched; the refusal code where access is refused. -/
def dbgRegRead (d : Device) : Option Nat × Device :=
  match d.dbgTarget with
  | some (n, t) =>
    let v := Reeve.dbgGet (d.reeve n) t
    (some (v % 2 ^ 32), d.setRg 14 0 0x058 (v / 2 ^ 32))
  | none => (none, d)

/-- DBG_REG_WRITE: the register takes the written half below the held one; the refusal code otherwise. -/
def dbgRegWrite (d : Device) (lo : Nat) : Except Nat Device :=
  match d.dbgTarget with
  | some (n, t) =>
    let v := lo % 2 ^ 32 + d.rg 14 0 0x058 * 2 ^ 32
    if (t = .control 1 ∧ ¬ statusOk v) ∨ (t = .control 11 ∧ ¬ winptrOk v) then .error 1
    else .ok (d.upReeve n (fun r => Reeve.dbgPut r t v))
  | none => .error 3

/-- MARK: a marker record of a value. -/
def dbgMark (d : Device) (v : Nat) : Device := d.capture 6 none 0x1FF (v % 2 ^ 16)

/-- A write of DBG_CMD (R516, R525, R526). -/
def dbgCmd (d : Device) (v : Nat) : Device :=
  let d := if field v 2 1 = 1 then d.dbgMark (field v 16 16) else d
  let d := if field v 1 1 = 1 then d.dropLevel else d
  if field v 0 1 = 1 then d.debugReset else d

/-- TALLY_WAKE_SEQUENCE, and TALLY_DIO held low for 256 clocks (R512); the port needs the VNW rail. -/
def tallyWake (d : Device) : Device := if d.power.vnw then { d with dbg := { d.dbg with inStep := true } } else d
def tallyLow (d : Device) : Device := if d.power.vnw then d.debugReset else d

/-! ## Shown registers -/

def dbgStatus (d : Device) : Nat :=
  (List.range 5).foldl (fun v n => v + ofBool (d.reeve n).halted * 2 ^ n + ofBool (d.reeve n).lockBroken * 2 ^ (5 + n)) 0 +
    d.dbg.level % 4 * 2 ^ 10 + ofBool d.dbg.access.isSome * 2 ^ 12
def dbgRunReg (d : Device) : Nat := (List.range 5).foldl (fun v n => v + ofBool (d.reeve n).haltReq * 2 ^ n) 0
def dbgWhy (d : Device) : Nat := (List.range 5).foldl (fun v n => v + (d.reeve n).why % 8 * 2 ^ (3 * n)) 0
def dbgAuth (d : Device) : Nat := d.dbg.level % 4 + d.dbg.lifetime % 2 ^ 16 * 2 ^ 16

/-- DBG_TRACE_DATA k of the selected record, zero if it is not held. -/
def traceData (d : Device) (k : Nat) : Nat :=
  let r := d.rg 14 0 0x088
  match d.trace.find? (r % 2048) with
  | some v => if v / 2 ^ 256 = r then field v (32 * k) 32 else 0
  | none => 0

end Device

end Sys2Proof.Machine
end

