-- ==== Sys2Proof/Machine/Gate.lean ====
section
/-! DEFINITION. The session engine's state (chapter 20): Strongroom wipes, session closing, image banks and tamper. -/
namespace Sys2Proof.Machine
namespace Device

/-- Every word of the Strongroom zero, the wipe in progress (R203). -/
def wipeStrongroom (d : Device) : Device :=
  let whole (e : Nat × Nat) : Bool := greenUnit strongBase ≤ e.1 && e.1 < greenUnit (strongBase + 0x400000)
  { d with mem := d.mem.zero strongBase 0x400000, gate := { d.gate with wiping := true }, latent := d.latent.filter (fun e => !whole e) }

/-- WIPE_DONE. -/
def wipeDone (d : Device) : Device :=
  if d.gate.wiping ∧ d.power.step ≥ 3 then ({ d with gate := { d.gate with wiping := false } } : Device).event 12 0 4 else d

/-- A refused access to the Strongroom (R202). -/
def securityEvent (d : Device) : Device := (d.count 12 0 0x068).event 12 0 5

/-- The inactive image bank, and its replacement (R507). -/
def spareBank (d : Device) : FwBank := if d.gate.active = 0 then d.gate.bankB else d.gate.bankA
def setSpareBank (d : Device) (b : FwBank) : Device :=
  { d with gate := if d.gate.active = 0 then { d.gate with bankB := b } else { d.gate with bankA := b } }
def activeBank (d : Device) : FwBank := if d.gate.active = 0 then d.gate.bankA else d.gate.bankB

/-- R508: a transfer broken off marks the inactive bank invalid. -/
def dropTransfer (d : Device) : Device :=
  if d.gate.transfer then
    let d := d.setSpareBank { d.spareBank with valid := false }
    { d with gate := { d.gate with transfer := false } }
  else d

/-- The session closes (R496): staged deltas are lost and a transfer ends. -/
def closeSession (d : Device) : Device :=
  if d.gate.session.isSome then
    (({ d with gate := { d.gate with session := none, staged := [] } } : Device).dropTransfer).event 12 0 1
  else d

/-- A dropped message or a failed opening counted (R496, R497). -/
def authFail (d : Device) : Device := (d.count 12 0 0x060).event 12 0 2

/-- R504: a tamper acts; the KIND of its error-log entry is not stated and is free. -/
def tamperNow (d : Device) : Device :=
  let d := d.wipeStrongroom.closeSession
  let g := d.gate
  let d : Device := { d with gate := { g with opening := none, tamper := true, latched := false, unsealed := g.unsealed && decide (g.lifecycle ≠ 2) } }
  let (kind, d) := d.takeFree 8
  (((d.count 12 0 0x070).event 12 0 3).logErr 0xC 0 0xFFF kind 0 0).dropLevel

/-- TAMPER: an input open for 10 µs; `stays` if it is still open at the next Cold start. Without the main rails it is latched. -/
def tamperInput (d : Device) (stays : Bool) : Device :=
  if ¬ d.power.vnw then d
  else
    let d : Device := { d with gate := { d.gate with loopsOpen := stays } }
    if d.power.step ≥ 3 ∧ ¬ d.power.standby ∧ d.fld 9 0 0x00C 0 3 ≠ 5 then d.tamperNow
    else { d with gate := { d.gate with latched := true } }

end Device

end Sys2Proof.Machine
end

