-- ==== Sys2Proof/Machine/Resets.lean ====
section
/-! DEFINITION. The resets (R27 to R35, Tables 1-7 and 1-8): Cold, Warm, Port and FLR, and the notices of mailbox 0. -/
namespace Sys2Proof.Machine

/-- Whether a page lies in the always-on islands or the Constable's, which a loss of the main rails leaves: NWT, DBG, SAF. -/
def onIslands (key : Nat) : Bool :=
  match pageOf (key / 0x4000) with
  | some (k, _) => k = 15 || k = 14 || k = 10
  | none => false

/-- Registers that no reset changes: the wear counters of a croft (Table 1-8). -/
def wearKey (key : Nat) : Bool :=
  match pageOf (key / 0x4000) with
  | some (19, _) => key % 0x4000 = 0x0A0 || key % 0x4000 = 0x0A4
  | _ => false

/-- Registers that a Warm reset keeps (Table 1-8, R490, R491); the state of a stack is not software's to reset. -/
def warmKeeps (key : Nat) : Bool :=
  let off := key % 0x4000
  match pageOf (key / 0x4000) with
  | some (k, _) =>
    k = 15 || k = 14 || k = 10 || k = 11 || k = 12 ||
    (k = 1 && (off = 0x040 || (0x060 ≤ off && off < 0x078) || off = 0x080 || off = 0x084 || off = 0x094 || off = 0x098 || off = 0x09C)) ||
    (k = 4 && (off = 0x040 || off = 0x044 || off = 0x048)) ||
    (k = 3 && (off = 0x040 || off = 0x048 || off = 0x04C)) ||
    (k = 16 && off = 0x00C) ||
    wearKey key
  | none => false

/-- Seed banks at delivery (R194). -/
def seedBank (b : Nat) : Bool := b % 132 ≥ 128

namespace Device

/-- A notice to the host side of mailbox 0 (R431, R433, R441, R461). Its encoding is not stated, so its word is free; its sender is the
reeve that serves logical reeve 0. -/
def notice (d : Device) : Device :=
  let code := (d.servedBy 0).getD 0
  let held := (d.box 0).hold.get 0 code
  let (v, d) := d.takeFree 64
  ((d.mbxHold 0 code (v % 2 ^ 32)).mbxPush 0 false code (v / 2 ^ 32)).mbxHold 0 code held

/-! ## Loss of the main rails, and Cold reset -/

/-- Bank copies in progress, and those that wait for a strip boundary, end where a reset stops every strip and zeroes the Granary. -/
def endCopies (d : Device) : Device :=
  let d := (d.spare.copied.map (·.1) ++ d.spare.copying).foldl (fun d c => d.switchBank c.1 c.2.1 c.2.2) d
  { d with spare := { d.spare with copied := [], copying := [] } }

/-- Memory that outlives the main rails: flash, and what is not the module's own. -/
def lastingMemory (d : Device) : Memory :=
  d.mem.filter (fun c => (flashBase ≤ c.1 && c.1 < sramBase) || c.1 ≥ windowBase + 2 ^ 52)

/-- Reeves at a start (R308, R470): a retired one stays so, and the seed serves in its place. -/
def bootReeves (d : Device) : Map Reeve :=
  let gone (n : Nat) : Bool := (d.reeve n).st = 3
  (List.range 5).map (fun n =>
    (n, if gone n then { st := 3 }
        else if n < 4 then { logical := some n }
        else
          match (List.range 4).find? gone with
          | some k => { logical := some k }
          | none => { st := 1 }))

/-- The module without its main rails: what outlives them (Table 1-8: wear, retirement, flash, OTP and calibration), the islands, and
bell time counted on by the Nightwatch (R406). -/
def wipe (d : Device) : Device :=
  let d := d.endCopies
  { mem := d.lastingMemory
    latent := d.latent.filter (fun e => e.1 ≥ 2 ^ 56 && e.1 < greenUnit sramBase)
    regs := d.regs.filter (fun e => onIslands e.1 || wearKey e.1)
    snaps := d.snaps.filter (fun e => onIslands e.1)
    latches := d.latches.filter (fun e => onIslands (e.1 % 2 ^ 27))
    free := d.free, out := d.out
    bell := { stroke := d.bell.stroke, phase := d.bell.phase, period := d.bell.period, measured := periodCycles d.bell.period }
    crofts := d.crofts.map (fun (e : Nat × Croft) => (e.1, { st := if e.2.st = 4 then 4 else 0, gen := e.2.gen }))
    ring := { epoch := d.ring.epoch }
    spare := { wear := d.spare.wear, bankMap := d.spare.bankMap, bankSt := d.spare.bankSt.filter (fun e => e.2 = 3), phases := d.spare.phases
               hamletFaults := d.spare.hamletFaults, hamletBefore := d.spare.hamletBefore, flashUsed := d.spare.flashUsed
               lanesUsed := d.spare.lanesUsed }
    trace := d.trace
    reeves := d.bootReeves
    power := { vnw := d.power.vnw, vsaf := d.power.vsaf, present := d.power.present, switchFault := d.power.switchFault, slotPins := d.power.slotPins }
    gate := { d.gate with opening := none, session := none, slots := d.gate.slots.map (fun (e : Nat × KeySlot) => (e.1, { e.2 with backoff := 0, until_ := 0 }))
                          tamper := d.gate.tamper && d.gate.loopsOpen, unsealed := d.gate.unsealed || !d.gate.loopsOpen, staged := [], transfer := false, spdm := [], wiping := false
                          bankA := if d.gate.transfer ∧ d.gate.active = 1 then { d.gate.bankA with valid := false } else d.gate.bankA
                          bankB := if d.gate.transfer ∧ d.gate.active = 0 then { d.gate.bankB with valid := false } else d.gate.bankB }
    dbg := d.dbg }

/-- The islands off as well: NWT, DBG and SAF pages, trace, debug state and bell time are lost. -/
def wipeIslands (d : Device) : Device :=
  { d with regs := d.regs.filter (fun e => !onIslands e.1), snaps := [], latches := [], trace := [], dbg := { level := if d.gate.lifecycle = 0 then 3 else 0 }, bell := {} }

/-- Step 1 of Table 16-3: a Cold start after insertion (0), VIN recovery (1) or a wake (4, 5, 8; R440); a wake leaves the Nightwatch, the
debug domain and bell time as they are, and resets the Constable. -/
def coldStart (d : Device) (cause : Nat) (wake : Bool) : Device :=
  let held := d.rg 15 0 0x00C &&& 0x8F
  let d := d.wipe
  let d : Device := { d with ring := { d.ring with epoch := d.ring.epoch + 1 } }
  let constable (key : Nat) : Bool := (pageOf (key / 0x4000)).map (·.1) = some 10
  let d : Device :=
    if wake then { d with regs := d.regs.filter (fun e => !constable e.1), snaps := d.snaps.filter (fun e => !constable e.1)
                          latches := d.latches.filter (fun e => !constable (e.1 % 2 ^ 27)) }
    else d.wipeIslands
  let d : Device := { d with power := { d.power with vnw := true, vsaf := true, step := 1 }, gate := { d.gate with sids := [], wiping := true, slotId := if wake then d.gate.slotId else d.power.slotPins } }
  -- the comparators go on showing their inputs
  (d.setRg 15 0 0x00C held).setRg 15 0 0x04C cause

/-! ## Port reset and FLR (R396, R398) -/

/-- Channels of a port, one function's alone where it is given, with their function. -/
def portChannels (d : Device) (p : Nat) (fn : Option Nat) : List (Nat × Nat) :=
  d.chans.filterMap (fun e =>
    let open_ : Bool := e.2.st ≠ .off || (hdrOwned e.2.hdr && hdrOwner e.2.hdr = d.moduleId)
    match d.chanOwner e.1 with
    | some (q, f) => if open_ ∧ q = p ∧ (fn.isNone ∨ fn = some f) then some (e.1, f) else none
    | none => none)

/-- A port's entries in the channel cache invalidated (Table 1-8). -/
def dropEntries (d : Device) (p : Nat) : Device :=
  { d with chans := d.chans.map (fun (e : Nat × Channel) =>
      match e.2.entry with
      | some v => if entPort v = p then (e.1, { e.2 with entry := none, windows := [], wbPending := false }) else e
      | none => e) }

/-- A link that goes down while a Cold or Warm reset, the broader one, is in progress: the port retrains by itself, and no second reset follows
(R31, Table 14-5). -/
def linkGone (d : Device) (p : Nat) : Device := d.setHost p { perst := (d.host p).perst, resetting := true }

/-- The port's share of a Port reset: its channels stopped, its requests and pending messages dropped, its functions, its PF's holding registers
(R380) and HLK page reset; `keepLink` for an FLR of the PF. -/
def resetPort (d : Device) (p : Nat) (keepLink : Bool) : Device :=
  let d : Device := { d with boxes := d.boxes.map (fun (e : Nat × Mailbox) => (e.1, { e.2 with hold := e.2.hold.erase (0x10 + p) })) }
  let d := (((d.portChannels p none).foldl (fun d c => d.awaitRecovery c.1 (some (p, c.2))) d).dropEntries p).emptyXlt
  let h := d.host p
  let d := d.resetPage 6 p [0x060, 0x064, 0x068, 0x06C, 0x070, 0x074, 0x078, 0x07C, 0x080, 0x084, 0x088, 0x08C, 0x090, 0x094, 0x098, 0x09C, 0x0A0, 0x0A4]
  if keepLink then
    d.setHost p { perst := h.perst, up := h.up, speed := h.speed, width := h.width, flit256 := h.flit256, cacheEn := h.cacheEn, memEn := h.memEn
                  hdm := h.hdm, lines := h.lines, ideIo := h.ideIo, ideCm := h.ideCm }
  else d.setHost p { perst := h.perst, resetting := true }

/-- LINK_DOWN and HOT_RESET: a Port reset, absorbed by one in progress. -/
def portReset (d : Device) (p : Nat) : Device :=
  if p < 2 ∧ (d.host p).up then
    if d.resetUnderWay then d.linkGone p
    else (((d.resetPort p false).count 6 p 0x060).event 6 p 0).logErr 6 p 0xFFF 0x0B 0 0
  else d

/-- IDE_INTEGRITY_FAILURE (R395). -/
def ideFailure (d : Device) (p : Nat) : Device :=
  if p < 2 ∧ (d.host p).up then
    if d.resetUnderWay then (d.linkGone p).event 6 p 4 else ((d.resetPort p false).event 6 p 4).logErr 6 p 0xFFF 0x0B 4 0
  else if p < 2 ∧ (d.host p).resetting then d.event 6 p 4
  else d

/-- PORT_RECOVERY_START: the channels whose functions may master the bus again are recovered. -/
def portRecovery (d : Device) (p : Nat) : Device :=
  let h := d.host p
  if p < 2 ∧ h.up ∧ h.busMaster.contains 0 then
    { d with chans := d.chans.map (fun (e : Nat × Channel) =>
        match e.2.hold with
        | some (q, fn) => if q = p ∧ h.busMaster.contains fn ∧ d.fnEnabled p fn then (e.1, { e.2 with hold := none }) else e
        | none => e) }
  else d

/-- FLR_PF: absorbed by a Port reset of the port, and by a Cold or Warm reset (R31). -/
def flrPf (d : Device) (p : Nat) : Device :=
  if p < 2 ∧ (d.host p).up ∧ ¬ d.resetUnderWay then (d.resetPort p true).event 6 p 5 else d

/-- FLR_VF: the function's channels go to OFF with their ledgers intact; its MSI-X table and PBA reset, and nothing else of it (Table 1-7). -/
def flrVf (d : Device) (p fn : Nat) : Device :=
  let h := d.host p
  if p < 2 ∧ h.up ∧ fn ≠ 0 ∧ d.fnEnabled p fn ∧ ¬ d.resetUnderWay then
    let d := (d.portChannels p (some fn)).foldl (fun d c =>
      let d := d.dropJobs c.1
      let old := d.chan c.1
      d.setChan c.1 { kept := old.kept, hdr := old.hdr, origin := old.origin, refused := old.refused, deadlines := old.deadlines, fqWaits := old.fqWaits }) d
    let mine (k : Nat) : Bool := k / 2048 = fn
    let h := d.host p
    (d.setHost p { h with
      msix := h.msix.filter (fun e => !mine e.1), pba := h.pba.filter (fun k => !mine k), msgs := h.msgs.filter (fun m => m.1 ≠ fn) }).event 6 p 5
  else d

/-! ## Warm reset (R434, Table 16-4) -/

/-- Whether a croft's page or a reeve keeps its place in service over a Warm reset. -/
def warmCroft (c : Croft) : Croft :=
  { st := c.st, gen := c.gen + 1, quarReq := c.quarReq, retiring := c.retiring, selfTest := c.selfTest, swapFor := c.swapFor, was := c.was }

/-- A channel over a Warm reset: one that may be owned waits for recovery. -/
def warmChannel (d : Device) (ch : Nat) : Device :=
  let c := d.chan ch
  let d := if c.st ≠ .off ∨ (hdrOwned c.hdr && hdrOwner c.hdr = d.moduleId) then d.awaitRecovery ch none
    else d.setChan ch { kept := c.kept, hdr := c.hdr, origin := c.origin }
  d.upChan ch (fun c => { c with refused := 0, deadlines := 0, fqWaits := 0 })

/-- PWR_STATUS after a Warm reset of its page, from what it was: both FETs closed, LIMITING while a rail lacks phases (R471), and what the power-stage
control loop, which the reset leaves as it is (R28), holds down: LIMITING, THERM_W and THERM_E. -/
def pwrAfterReset (d : Device) (was : Nat) : Nat :=
  let lacks : Bool := [0, 1].any (fun r => d.spare.phases.get 0 r > d.spare.phases.get 0 (2 + r))
  0x18 + ofBool (lacks || was.testBit 5) * 2 ^ 5 + field was 6 2 * 2 ^ 6

/-- Steps 1 to 4 (when the reroute of die-to-die traffic through the Green ends is not stated: the model keeps it here, and a Cold reset ends
it; DESIGN CHOICE, log entry 96): READY clear, work stopped at its stop points, HBM in self-refresh, and the domains of Table 1-7 reset. -/
def warmReset (d : Device) : Device :=
  let d := d.chans.foldl (fun d e => d.warmChannel e.1) d
  let d := d.endCopies
  let sramEnd := strongBase
  let old := d
  let d : Device := { d with
    mem := d.mem.filter (fun c => !(sramBase ≤ c.1 && c.1 < sramEnd) && !(windowBase + granaryBase ≤ c.1 && c.1 < windowBase + granaryBase + granarySize))
    poison := d.poison.filter (fun u => u < hbmSize)
    latent := d.latent.filter (fun e => e.1 < hbmSize || e.1 ≥ 2 ^ 56 && (e.1 < greenUnit sramBase || e.1 ≥ greenUnit strongBase))
    regs := d.regs.filter (fun e => warmKeeps e.1)
    snaps := d.snaps.filter (fun e => warmKeeps e.1)
    latches := d.latches.filter (fun e => warmKeeps (e.1 % 2 ^ 27))
    hosts := d.hosts.map (fun (e : Nat × HostPort) => (e.1, { e.2 with lines := [], waitOver := false }))
    xlt := {}
    crofts := d.crofts.map (fun (e : Nat × Croft) => (e.1, warmCroft e.2))
    jobs := []
    sower := { clock := d.sower.clock, paceOwed := d.sower.paceOwed }
    ledger := { setups := d.ledger.setups, images := d.ledger.images, extents := d.ledger.extents }
    ring := { epoch := d.ring.epoch + 1 }
    ports := []
    boxes := []
    hkdTurn := 0
    snapT := none
    snapAt := none
    grants := []
    arbCfg := []
    power := { d.power with memActive := false, step := 3, warm := decide (d.power.step ≥ 5), warming := true, diesOff := false, mute := false, standClass := 0, causes := [], wdogKey := 0x5A, detach := 0 }
    gate := { d.gate with transfer := false
                          bankA := if d.gate.transfer ∧ d.gate.active = 1 then { d.gate.bankA with valid := false } else d.gate.bankA
                          bankB := if d.gate.transfer ∧ d.gate.active = 0 then { d.gate.bankB with valid := false } else d.gate.bankB } }
  let d := (List.range 8).foldl (fun d k => if d.stackState k = 4 then d else d.setFld 16 k 0x00C 0 3 3) d
  let d := (List.range 5).foldl (fun d n => if (old.reeve n).st = 0 then d.startReeve n (old.reeve n).logical else d) d
  let d := d.setRg 9 0 0x00C (d.pwrAfterReset (old.rg 9 0 0x00C))
  -- the stand-down in force is left (R463)
  d.setFld 10 0 0x00C 0 3 0 |>.setFld 10 0 0x00C 8 8 0

/-- A Warm reset requested: done, absorbed, ignored or refused, and counted (R32, R463, R490, Table 16-9). -/
def requestWarm (d : Device) : Device :=
  if d.power.warming then d.count 1 0 0x060
  else if d.power.step < 7 ∧ d.fld 1 0 0x00C 8 4 = 0 ∧ d.power.standClass = 0 then d
  else if d.fld 9 0 0x00C 0 3 = 3 then d.count 1 0 0x068
  else if d.power.standClass ≠ 0 ∧ (¬ d.power.causes.isEmpty ∨ d.power.standClass = 3) then d.count 10 0 0x078
  else d.warmReset

/-- GLB_RESET_WARM: the write of GLB_RESET judged. -/
def glbReset (d : Device) (v : Nat) : Device :=
  if field v 0 1 = 0 then d
  else if field v 8 8 ≠ 0xC3 then d.err 1 0 0x05 0x054 0
  else d.requestWarm

end Device

end Sys2Proof.Machine
end

