-- ==== Sys2Proof/Machine/Power.lean ====
section
/-! DEFINITION. Start-up (R431 to R433), stand-down and its causes (R448 to R465, R561), the Nightwatch (R439, R440), power states
(R436 to R438), detach and removal (R441 to R443), and the power steps (R180, R444, R445, R471). -/
namespace Sys2Proof.Machine

/-- Class of a stand-down cause (Table 17-4): 1 orderly, 2 datapath, 3 power path. -/
def causeClass (c : Nat) : Nat :=
  if c = 1 ∨ c = 2 ∨ c = 3 ∨ c = 4 ∨ c = 8 ∨ c = 0xE then 3 else if c = 9 ∨ c = 0xB then 2 else 1

/-- Causes that are events and release as soon as they are raised (R561). -/
def momentary (c : Nat) : Bool := c = 9 || c = 0xA || c = 0xB || c = 0xC

/-- Causes that release before a Cold start (R561). -/
def releasable (c : Nat) : Bool := c < 0xE

namespace Device

/-! ## Stand-down (R460 to R463) -/

/-- Strips stopped at their checkpoints, to be dealt again (Table 17-5 step 3). -/
def stopStrips (d : Device) : Device :=
  d.crofts.foldl (fun d e => (d.giveBack e.1 .any e.2.strips).upCroft e.1 (fun c => { c with strips := [] })) d

/-- Every stack that is not LOST in a state. -/
def setStacks (d : Device) (st : Nat) : Device :=
  (List.range 8).foldl (fun d k => if d.stackState k = 4 then d else d.setFld 16 k 0x00C 0 3 st) d

/-- Steps 3 to 7 of Table 17-5 for the datapath and orderly classes. -/
def standDownEnd (d : Device) : Device :=
  if d.power.diesOff then d
  else
    let d := (d.stopStrips).setStacks 3
    let d : Device := { d with power := { d.power with memActive := false, diesOff := true } }
    (d.event 1 0 3).notice

/-- Both FETs open: the main rails fall (R443), what the islands hold stays. -/
def openInput (d : Device) : Device := d.wipe

/-- A cause raised (R460): recorded, and a stand-down begun or raised to a higher class. With the input switch open there is nothing to
stand down, and the cause is only recorded (DEDUCED, log entry 48). -/
def raiseCause (d : Device) (c : Nat) : Device :=
  let d := d.setRg 10 0 0x040 (d.rg 10 0 0x040 ||| 2 ^ c)
  let cls := causeClass c
  let was := d.power.standClass
  let d : Device := { d with power := { d.power with
    causes := if momentary c ∨ d.power.causes.contains c then d.power.causes else d.power.causes ++ [c]
    mute := d.power.mute || c = 0xB, warm := d.power.warm && was ≠ 0, warming := d.power.warming && was ≠ 0 } }
  if cls ≤ was ∨ d.power.step < 2 then d
  else
    let d := if was ≠ 0 then d
      else (((d.setFld 10 0 0x00C 0 1 1).setFld 10 0 0x00C 8 8 c).count 10 0 0x060).logErr 10 0 0xFFF 0x05 c 0 |>.event 10 0 0
    let d : Device := { d with power := { d.power with standClass := cls } }
    let d := d.setFld 9 0 0x00C 0 3 4
    if cls = 3 then
      let p := d.power
      let d := (d.openInput).setFld 10 0 0x00C 1 1 1
      (({ d with power := { d.power with standClass := 3, causes := p.causes } } : Device).setFld 9 0 0x00C 0 3 4)
    else if cls = 2 then d.standDownEnd
    else d

/-- A cause that the Constable raises, while its island is up and it has not been lost. -/
def constable (d : Device) (c : Nat) : Device :=
  if d.power.vsaf ∧ d.fld 10 0 0x00C 4 1 = 0 then d.raiseCause c else d

/-- CONSTABLE_HEARTBEAT_LOST (R451). -/
def constableLost (d : Device) : Device :=
  if d.power.vsaf ∧ d.power.step ≥ 2 then (d.raiseCause 0xF).setFld 10 0 0x00C 4 1 1 else d

/-- STANDDOWN_STRIP_TIMEOUT: 200 µs into an orderly stand-down; the rest of Table 17-5 follows. -/
def standDownTimeout (d : Device) : Device := if d.power.standClass = 1 then d.standDownEnd else d

/-- CAUSE_RELEASE (R561): also the release of the Nightwatch's comparators for cause 0x0D. -/
def causeRelease (d : Device) (c : Nat) : Device :=
  if releasable c then
    let d : Device := { d with power := { d.power with causes := d.power.causes.erase c } }
    if c = 0xD then d.setRg 15 0 0x00C (d.rg 15 0 0x00C &&& (0xFF - 0x84)) else d
  else d

/-- Whether the Constable watchdog is frozen (R459). -/
def wdogFrozen (d : Device) : Bool := d.fld 14 0 0x044 17 1 = 1

/-- SAF_WDOG_KICK (R459, Table 17-7): the right key restarts the watchdog, whose period then is that of SAF_WDOG. -/
def wdogKick (d : Device) (key : Nat) : Device :=
  if key = d.power.wdogKey then
    { d with power := { d.power with wdogKey := if key = 0x5A then 0xA5 else 0x5A, wdogMs := d.fld 10 0 0x044 0 16 } }
  else d

/-- SAF_WDOG_EXPIRY. -/
def wdogExpiry (d : Device) : Device := if d.wdogFrozen then d else d.constable 0xA

/-- WEST_EAST_LINK_FAILURE (R16). -/
def linkFailure (d : Device) : Device :=
  if d.power.reroute ∨ d.power.step < 3 then d
  else (({ d with power := { d.power with reroute := true } } : Device).logErr 10 0 0xFFF 0x06 4 0).event 10 0 4

/-- CROSSING_TIMEOUT (R26): recorded in ERR_CODE of the page whose far side is down. -/
def crossingTimeout (d : Device) (kind inst off view : Nat) : Device :=
  if d.pageDown kind then d.err kind inst 4 off view else d

/-! ## Start-up (Tables 16-3 and 16-4) -/

/-- NWT_STATUS.CMP, and the comparators that block a start or a wake (Table 16-6). -/
def cmp (d : Device) : Nat := d.rg 15 0 0x00C
def blocking (d : Device) : Bool := d.cmp &&& 0x8F ≠ 0

/-- A comparator set, and latched in NWT_EVENT. -/
def setCmp (d : Device) (bit : Nat) : Device := (d.setRg 15 0 0x00C (d.cmp ||| 2 ^ bit)).event 15 0 bit
def clearCmp (d : Device) (bit : Nat) : Device := d.setRg 15 0 0x00C (d.cmp &&& (0xFF - 2 ^ bit))

/-- Whether the next step of a start may be taken. -/
def starting (d : Device) (step : Nat) : Bool := d.power.step = step && d.power.standClass = 0 && d.fld 9 0 0x00C 0 3 = 0

/-- SLOT_ID on its pins, SLOT_ID0 the lowest, as the slot straps them: a free value at each mating, which no command
carries (R533; DESIGN CHOICE, log entry 105). -/
def setPins (d : Device) : Device :=
  let (v, d) := d.takeFree 3
  { d with power := { d.power with slotPins := v } }

/-- The 7-bit SMBus address of the module (R492, R533). -/
def smbusAddress (d : Device) : Nat := 0x62 + d.gate.slotId

/-- POWER_UP_INSERTION, into a slot whose pins read SLOT_ID. -/
def insertion (d : Device) : Device := if d.power.vnw then d else d.setPins.coldStart 0 false

/-- INPUT_SWITCH_CLOSE: the switch test of R452, then the switch closes. -/
def switchClose (d : Device) (aShorted bShorted : Bool) : Device :=
  if ¬ d.starting 1 ∨ ¬ d.power.present ∨ d.blocking ∨ d.power.causes.contains 0x10 then d
  else if aShorted ∨ bShorted then
    { d with power := { d.power with switchFault := true, causes := d.power.causes ++ [0x10] } }
  else
    let d := if d.power.switchFault then d.setRg 10 0 0x040 (d.rg 10 0 0x040 ||| 2 ^ 0x10) else d
    let d : Device := { d with power := { d.power with switchFault := false, step := 2 } }
    d.setFld 9 0 0x00C 3 2 3

/-- PWRGD_ASSERT: the main rails are up; reeves leave reset, and a tamper latched before acts (R504). -/
def pwrgdAssert (d : Device) : Device :=
  if d.starting 2 then
    let d : Device := { d with power := { d.power with pwrgd := true, step := 3 } }
    let d := (List.range 5).foldl (fun d n => if (d.reeve n).st = 0 then d.startReeve n (d.reeve n).logical else d) d
    if d.gate.latched then d.tamperNow else d
  else d

/-- R508: the bank that firmware loads from: the pending one if its image is good, else the other, with FW_ROLLBACK. -/
def bootBank (d : Device) (bad : Bool) : Device :=
  let g := d.gate
  if ¬ g.pendingBank then d
  else
    let other := 1 - g.active
    let b := if other = 0 then g.bankA else g.bankB
    if b.valid ∧ ¬ bad then { d with gate := { g with active := other, pendingBank := false } }
    else
      let g := { g with pendingBank := false }
      ({ d with gate := if other = 0 then { g with bankA := { b with valid := false } } else { g with bankB := { b with valid := false } } } : Device).event 12 0 7

/-- Crofts and banks in service after a Cold start: seeds where none has been used, retired parts left out (R467). -/
def stockIn (d : Device) : Device :=
  let crofts : Map Croft := (List.range 272).map (fun n =>
    let c := d.croft n
    let used : Bool := (span (17 * (n / 17)) 16).any (fun m => (d.croft m).st = 4)
    (n, { c with st := if c.st = 4 then 4 else if n % 17 = 16 ∧ ¬ used then 2 else 1 }))
  let banks : Map Nat := (List.range 264).map (fun b =>
    (b, if d.bankState b = 3 then 3 else if (d.logicalOf b).isSome then 1 else 2))
  { d with crofts := crofts, spare := { d.spare with bankSt := banks } }

/-- Step 6 of Table 16-3 begins: the Alnar ports that are enabled train (R431, R434). -/
def trainPorts (d : Device) : Device :=
  (List.range 4).foldl (fun d p => if d.fld 8 p 0x040 0 1 = 1 ∧ d.alnState p = 0 then d.setRg 8 p 0x00C 1 else d) d

/-- FIRMWARE_LOADED: step 4 of a Cold start, step 5 of a Warm reset; `bad` if a pending image failed its signature or its bound,
`failed` the hamlets whose shelf or slice fails its test (R472). -/
def firmwareLoaded (d : Device) (bad : Bool) (failed : List Nat) : Device :=
  if ¬ d.starting 3 then d
  else
    let d := d.bootBank bad
    let hamlets := d.spare.hamletBefore.map (·.1)
    if d.power.warm then
      let d := hamlets.foldl (fun d h => d.retestHamlet h (!failed.contains h)) d
      (({ d with power := { d.power with memActive := true, step := 5 } } : Device).setStacks 2).trainPorts
    else
      let d := d.stockIn
      let d := hamlets.foldl (fun d h => d.retestHamlet h (!failed.contains h)) d
      { d with power := { d.power with step := 4 }, spare := { d.spare with hamletFaults := [] } }

/-- HBM_TRAINING_DONE: `failed` the stacks that failed training, which enter LOST (R433); row remaps are repaired for good (R471). -/
def hbmTrained (d : Device) (failed : List Nat) : Device :=
  if ¬ d.starting 4 then d
  else
    let d := failed.foldl (fun d k => if k < 8 then d.loseStack k else d) (d.setStacks 2)
    ({ d with power := { d.power with memActive := true, step := 5 }, spare := { d.spare with rows := [] } } : Device).trainPorts

/-- ALNAR_TRAINING_DONE: the ports named come UP; in a start the Bell unit then selects its source. -/
def alnarTrained (d : Device) (ports : List Nat) : Device :=
  if d.power.step < 5 then d
  else
    let d := ports.foldl (fun d p => d.portUp p) d
    if d.starting 5 then ({ d with power := { d.power with step := 6 } } : Device).reselect else d

/-- READY_SET: READY, its event and message, and the power state ACTIVE; after a Warm reset once every channel has been recovered. -/
def readySet (d : Device) : Device :=
  if d.starting 6 ∧ d.gate.lifecycle ≠ 4 ∧ d.fld 1 0 0x00C 8 4 = 0 ∧ (¬ d.power.warm ∨ d.chans.all (fun e => ¬ e.2.recovering ∨ e.2.hold.isSome)) then
    let d : Device := { d with power := { d.power with step := 7, warm := false, warming := false } }
    (((d.setFld 1 0 0x00C 0 1 1).setFld 9 0 0x00C 0 3 1).event 1 0 0).notice
  else d

/-- START_STEP_TIMEOUT: the step in progress has passed its bound (R433). -/
def stepTimeout (d : Device) (step : Nat) : Device :=
  if d.power.step + 1 = step ∧ 2 ≤ step ∧ step ≤ 7 ∧ d.starting (step - 1) then
    ((d.setFld 1 0 0x00C 8 4 step).logErr 1 0 0xFFF 0x08 step 0).notice
  else d

/-! ## Host ports come up (R383, R432) -/

/-- PERST_RELEASE. -/
def perstRelease (d : Device) (p : Nat) : Device :=
  if p < 2 ∧ d.power.pwrgd then d.setHost p { d.host p with perst := false } else d

/-- Whether a port may train to a mode (Table 14-1, HLK_CFG.MAX_SPEED). -/
def linkModeOk (d : Device) (p speed width : Nat) (flit256 : Bool) : Bool :=
  1 ≤ speed && speed ≤ d.fld 6 p 0x040 0 3 && (width = 4 || width = 8 || width = 16) && (flit256 || speed ≤ 5)

/-- LINK_TRAINED: a port trains, or its rate or width changes without a link-down, in the flit mode that it is in. -/
def linkTrained (d : Device) (p speed width : Nat) (flit256 : Bool) : Device :=
  let h := d.host p
  if p < 2 ∧ d.power.pwrgd ∧ ¬ h.perst ∧ d.linkModeOk p speed width flit256 then
    if ¬ h.up then d.setHost p { h with up := true, resetting := false, waitOver := false, speed := speed, width := width, flit256 := flit256 }
    else if flit256 = h.flit256 ∧ (h.speed ≠ speed ∨ h.width ≠ width) then
      (d.setHost p { h with speed := speed, width := width }).event 6 p 1
    else d
  else d

/-! ## Detach, removal and supply (R439 to R443) -/

/-- Whether any channel still has jobs to run to COMPLETE. -/
def draining (d : Device) : Bool := d.jobs.any (fun e => (d.chan e.2.ch).st.live) || d.chans.any (fun e => e.2.handing)

/-- Whether a live channel has jobs whose records can still be written and retired (Table 9-7, steps 4 and 5). -/
def recordsOwed (d : Device) : Bool :=
  d.jobs.any (fun e => (d.chan e.2.ch).st.live && d.fetchServes (d.entry e.2.ch) && d.placesServe (d.entry e.2.ch))

/-- Steps 1 and 2 of Table 9-7. -/
def stopAccepting (d : Device) : Device :=
  let d : Device := { d with chans := d.chans.map (fun (e : Nat × Channel) => (e.1, { e.2 with acceptStopped := true })) }
  d.chans.foldl (fun d e => d.handOff e.1) d

/-- LATCH_OPEN: recorded; from ACTIVE or QUIET, and from a stand-down that keeps the input closed, orderly detach starts; during a start
or a Warm reset it stops that first (Table 16-9). -/
def latchOpen (d : Device) : Device :=
  if ¬ d.power.vnw then d
  else
    let d := d.setCmp 3
    let st := d.fld 9 0 0x00C 0 3
    if d.power.step = 0 ∨ st = 3 ∨ st = 5 ∨ d.power.standby then d
    else
      let d := (d.setFld 9 0 0x00C 0 3 3).event 9 0 0
      let d := (d.event 1 0 4).notice
      let d := if d.power.standClass ≠ 0 then d else d.stopAccepting
      { d with power := { d.power with detach := 2, warm := false, warming := false } }

/-- DETACH_LIMIT_EXPIRY (step 4 of Table 9-7); a stand-down has ended the drain, and the detach goes on past it (Table 17-7). -/
def detachLimit (d : Device) : Device :=
  if d.power.detach = 2 ∧ d.power.standClass = 0 then
    let d := d.chans.foldl (fun d e => if e.2.st.live then d.finishAll e.1 { status := stAborted } else d) d
    { d with power := { d.power with detach := 3 } }
  else d

/-- STANDBY entered: the rails stop and the input switch opens; the Nightwatch and the debug island run on (R438). -/
def standbyEnter (d : Device) : Device :=
  let w := d.power.wake
  let d := d.wipe
  let d : Device := { d with power := { d.power with vsaf := false, standby := true, wake := w } }
  match w with
  | some s => if d.blocking then d else d.coldStart s true
  | none => d

/-- SAFE_REACHED: steps 3 to 6 of Table 16-7; a drain for STANDBY ends in STANDBY instead. -/
def safeReached (d : Device) : Device :=
  let d := d.chans.foldl (fun d e => d.settleHandOff e.1) d
  if d.power.detach = 0 ∨ (d.power.detach = 2 ∧ d.draining ∧ d.power.standClass = 0) ∨ (d.power.detach = 3 ∧ d.recordsOwed ∧ d.power.standClass = 0) then d
  else if d.power.standby then d.standbyEnter
  else
    let d := (d.notice).leaveRing
    ((d.wipe).setFld 9 0 0x00C 0 3 5)

/-- LATCH_CLOSED_IN_SAFE: the latch held closed for 1 s in SAFE, or after a power-path stand-down whose causes have released (R463);
a start that waits at step 2 for the latch goes on. -/
def latchClosed (d : Device) : Device :=
  if d.starting 1 then d.clearCmp 3
  else if d.power.vnw ∧ d.cmp.testBit 3 ∧ (d.fld 9 0 0x00C 0 3 = 5 ∨ d.power.standClass = 3) ∧ d.power.causes.isEmpty then
    (d.clearCmp 3).coldStart 0 false
  else d

/-- PRESENCE_LOST (R443): the input switch opens; in SAFE it is open already. -/
def presenceLost (d : Device) : Device :=
  let open_ : Bool := d.power.step < 2
  let d : Device := { d with power := { d.power with present := false } }
  if open_ then d else d.openInput

/-- PRESENCE_GAINED (R532): a start that waits may go on; with the switch opened by a loss of presence it is an insertion. -/
def presenceGained (d : Device) : Device :=
  let d := d.setPins
  let gone : Bool := d.power.vnw && !d.power.present && d.power.step = 0 && !d.power.standby && d.power.standClass = 0 && d.fld 9 0 0x00C 0 3 = 0
  let d : Device := { d with power := { d.power with present := true } }
  if gone then d.coldStart 0 false else d

/-- VIN_UV and VIN_OV (Table 16-6): the comparator set; the input switch opens and the rails fall. -/
def vinTrip (d : Device) (bit : Nat) : Device :=
  if ¬ d.power.vnw then d
  else
    let d := d.setCmp bit
    if d.power.step ≥ 2 then d.openInput else d

/-- VIN_RECOVERY: both VIN comparators released; after a trip a Cold start follows, a waiting start goes on. -/
def vinRecovery (d : Device) : Device :=
  if d.power.vnw ∧ d.cmp &&& 3 ≠ 0 then
    let d := (d.clearCmp 0).clearCmp 1
    if d.power.step = 0 ∧ ¬ d.power.standby ∧ d.power.standClass = 0 ∧ d.fld 9 0 0x00C 0 3 = 0 then
      d.coldStart 1 false
    else d
  else d

/-- POWER_LOSS (R439): the islands off as well; nothing but what lasts is left. -/
def powerLoss (d : Device) : Device :=
  let d := (d.wipe).wipeIslands
  { d with power := { present := d.power.present, switchFault := d.power.switchFault, slotPins := d.power.slotPins } }

/-- BOARD_OT and COOL_LOW (Table 16-6): recorded; with the rails up the Constable stands the module down, cause 0x0D. -/
def nightwatchStop (d : Device) (bit : Nat) : Device :=
  if ¬ d.power.vnw then d
  else
    let d := d.setCmp bit
    if d.power.step ≥ 2 then d.constable 0xD else d

/-- A wake source (R440): from STANDBY an enabled one wakes the module, or waits for the blocking comparators; one that comes while
STANDBY is being entered waits as well. The lowest of several is recorded. -/
def wakeSource (d : Device) (bit : Nat) : Device :=
  let en : Bool := d.fld 15 0 0x040 bit 1 = 1
  if ¬ d.power.standby ∨ ¬ en then d
  else
    let src := match d.power.wake with
      | some w => min w bit
      | none => bit
    if d.power.step = 0 ∧ ¬ d.blocking then d.coldStart src true
    else { d with power := { d.power with wake := some src } }

/-- ALN_DETECT, MGMT_WAKE: recorded, and a wake source. -/
def detect (d : Device) (bit : Nat) : Device := if d.power.vnw then (d.setCmp bit).wakeSource bit else d

/-- BELL_LOST: recorded only. -/
def bellLost (d : Device) : Device := if d.power.vnw then d.setCmp 6 else d

/-- WAKE_AT_STROKE: the stroke of NWT_WAKE_AT has begun. -/
def wakeAt (d : Device) : Device :=
  if d.rg 15 0 0x044 + field (d.rg 15 0 0x048) 0 8 * 2 ^ 32 ≤ d.stroke then d.wakeSource 8 else d

/-- BLOCKING_COMPARATOR_RELEASE: in STANDBY a blocking comparator releases; with none left a waiting source wakes the module. -/
def blockRelease (d : Device) (bit : Nat) : Device :=
  if d.power.vnw ∧ d.power.standby ∧ d.power.step = 0 ∧ (2 ^ bit) &&& 0x8F ≠ 0 then
    let d := d.clearCmp bit
    match d.power.wake with
    | some s => if d.blocking then d else d.coldStart s true
    | none => d
  else d

/-! ## Power states (R436 to R438) -/

/-- QUIET. -/
def quiet (d : Device) : Device :=
  if d.fld 9 0 0x00C 0 3 ≠ 1 then d
  else if d.chans.any (fun e => e.2.st ≠ .off) then d.event 9 0 3
  else ({ d with power := { d.power with memActive := false } } : Device).setStacks 3 |>.setFld 9 0 0x00C 0 3 2

/-- WAKE: the Granary zeroed, HBM out of self-refresh. -/
def wakeUp (d : Device) : Device :=
  if d.fld 9 0 0x00C 0 3 ≠ 2 then d
  else
    let d : Device := { d with
      mem := d.mem.zero (windowBase + granaryBase) granarySize, poison := d.poison.filter (fun u => u < hbmSize), latent := d.latent.filter (fun e => e.1 < hbmSize || e.1 ≥ 2 ^ 56)
      power := { d.power with memActive := true } }
    (d.setStacks 2).setFld 9 0 0x00C 0 3 1

/-- STANDBY, through the control matrix: drained under Table 9-7, then entered; refused while a comparator blocks (Table 16-9). -/
def standby (d : Device) : Device :=
  let st := d.fld 9 0 0x00C 0 3
  if d.blocking then d.err 9 0 3 0x040 0
  else if st ≠ 1 ∧ st ≠ 2 then d
  else
    let d := d.stopAccepting
    let d : Device := { d with power := { d.power with standby := true, detach := 2 } }
    if d.draining then d else d.standbyEnter

/-- PWR_CMD written; STANDBY acts only through the control matrix, where `matrix` holds. -/
def pwrCmd (d : Device) (v : Nat) (matrix : Bool) : Device :=
  match field v 0 2 with
  | 1 => d.quiet
  | 2 => d.wakeUp
  | 3 => if matrix then d.standby else d
  | _ => d

/-- HAMLET_CLOCK_GATING (R436): a hamlet with no active strip gates its croft clocks. -/
def gateHamlet (d : Device) (h : Nat) : Device :=
  if h < 16 ∧ (span (17 * h) 17).all (fun n => (d.croft n).strips.isEmpty) ∧ ¬ d.power.gated.contains h ∧ d.power.step ≥ 4 then
    { d with power := { d.power with gated := d.power.gated ++ [h] } }
  else d

/-! ## Power steps (R180, R444, R445, R471) -/

/-- Core phases in service on a rail: 20 less those lost, and the seeds brought in. -/
def phasesIn (d : Device) (rail : Nat) : Nat := 20 - d.spare.phases.get 0 rail + d.spare.phases.get 0 (2 + rail)

def addPhase (d : Device) (key n : Nat) : Device :=
  { d with spare := { d.spare with phases := d.spare.phases.set key (d.spare.phases.get 0 key + n) } }

/-- PHASE_SHED: a failed phase of a core rail (0 West, 1 East) is shed; a seed phase follows at the next slot, or the stock is out. -/
def phaseShed (d : Device) (rail unit : Nat) : Device :=
  if rail > 1 ∨ d.power.step < 3 ∨ d.phasesIn rail = 0 then d
  else
    let d := (d.addPhase rail 1).setFld 9 0 0x00C 5 1 1
    let used := d.spare.phases.get 0 (2 + rail) + d.spare.phases.get 0 (4 + rail)
    let d := if used < 2 then d.addPhase (4 + rail) 1 else (d.event 11 0 2).logSpare (32 * rail + unit % 32) 0x1FF 4 6
    if d.phasesIn rail + d.spare.phases.get 0 (4 + rail) < 16 then d.raiseCause 0x11 else d

/-- Seed phases that wait enter service. -/
def phasesUp (d : Device) : Device :=
  [0, 1].foldl (fun d r =>
    let n := d.spare.phases.get 0 (4 + r)
    let had := d.spare.phases.get 0 (2 + r)
    let d : Device := { d with spare := { d.spare with phases := (d.spare.phases.set (2 + r) (had + n)).set (4 + r) 0 } }
    (List.range n).foldl (fun d k => d.spareIn (32 * r) (32 * r + 20 + had + k) 4 4) d) d

/-- Whether a rail lacks phases, which holds pace down. -/
def phasesMissing (d : Device) : Bool := d.phasesIn 0 < 20 || d.phasesIn 1 < 20

/-- THERMAL_STEP_DOWN (R180): a step of 50 MHz in FULL while a die is above its threshold. -/
def thermalStep (d : Device) (die : Nat) : Device :=
  if die < 2 ∧ d.fld 1 0 0x040 0 2 = 0 ∧ d.power.step = 7 ∧ d.clockOf die > 600 then
    let first : Bool := d.fld 9 0 0x00C (6 + die) 1 = 0
    let d := ((d.setClock die (d.clockOf die - 50)).count 9 0 0x068).setFld 9 0 0x00C (6 + die) 1 1
    -- from now on the die rises one step at a time, after 1 ms below its limits
    let d : Device := { d with power := { d.power with stepUp := d.power.stepUp.erase die } }
    if first then d.event 9 0 2 else d
  else d

/-- POWER_LIMIT_STEP (R180, R181, R428): both dies step down at once by as many 50 MHz steps as projected input power needs; going
beyond the bounds of a cap is an event. -/
def powerStep (d : Device) (mhz : Nat) : Device :=
  let pace := d.fld 1 0 0x040 0 2
  if pace = 1 ∨ d.power.step < 7 then d
  else
    let down (d : Device) (die : Nat) : Device :=
      let aim := max 600 (d.clockOf die - mhz / 50 * 50)
      if aim < d.clockOf die then (d.setClock die aim).countBy 9 0 0x068 ((d.clockOf die - aim) / 50) else d
    let d := ((down d 0) |> (down · 1)).setFld 9 0 0x00C 5 1 1
    if pace = 2 then ({ d with power := { d.power with capOwed := true } } : Device).event 9 0 1
    else { d with power := { d.power with stepUp := [] } }

/-- A die's clock raised by steps of 50 MHz, no further than its pace. -/
def raiseClock (d : Device) (die steps : Nat) : Device :=
  let top := if d.fld 1 0 0x040 0 2 = 0 then 1800 else 1500
  let aim := min top (d.clockOf die + 50 * steps)
  if aim > d.clockOf die then (d.setClock die aim).countBy 9 0 0x070 ((aim - d.clockOf die) / 50) else d

/-- The step a cap asks for under LEAN (R180): clock and HBM_RATE follow input power, which no rule states; both are free values. -/
def capStep (d : Device) (holding : Bool) : Device :=
  let (mhz, d) := d.paceClock
  let up : Bool := mhz > d.clockOf 0 || mhz > d.clockOf 1
  if holding ∧ up then d
  else
    let move (d : Device) (die : Nat) : Device :=
      if mhz < d.clockOf die then (d.setClock die mhz).countBy 9 0 0x068 ((d.clockOf die - mhz) / 50)
      else if mhz > d.clockOf die then (d.setClock die mhz).countBy 9 0 0x070 ((mhz - d.clockOf die) / 50)
      else d
    let d := move (move d 0) 1
    let (v, d) := if mhz = 600 then d.takeFree 32 else (0, d)
    let d := (List.range 8).foldl (fun d k => d.setRg 16 k 0x044 v) d
    { d with power := { d.power with capOwed := false } }

/-- The bits of a byte in reverse order. -/
def reverseByte (v : Nat) : Nat := (List.range 8).foldl (fun n k => n + ofBool (v.testBit k) * 2 ^ (7 - k)) 0

/-- The module's stagger slot, and the phase of the stroke at which it starts (R444). -/
def slotNumber (d : Device) : Nat :=
  if d.fld 9 0 0x044 8 1 = 0 then d.fld 9 0 0x044 0 8
  else if d.fld 8 0 0x048 12 1 = 0 then 0
  else reverseByte (d.moduleId % 256)
def slotPhase (d : Device) : Nat := d.slotNumber * 0x10000

/-- The limit on HBM requests, which is LEAN's, gone: an upward step (R213, R445). -/
def freeRate (d : Device) : Device := (List.range 8).foldl (fun d k => d.setRg 16 k 0x044 0) d

/-- STAGGER_SLOT (R444, R445), which comes as the slot starts: the pending cap step; then, unless the Bell unit is HOLDING, seed phases, upward pace moves by as many steps as
the ramp lets through (a free number), and one step of recovery of each die that has been within its limits for 1 ms. -/
def staggerSlot (d : Device) (coolW coolE : Bool) : Device :=
  if d.power.step < 7 ∨ d.power.standClass ≠ 0 ∨ d.bell.phase ≠ d.slotPhase then d
  else
    let holding : Bool := d.bell.state = 3
    let lean : Bool := d.fld 1 0 0x040 0 2 = 2
    let d := if lean then d.capStep holding else d
    if holding then d
    else
      let d := if lean then d.phasesUp else (d.phasesUp).freeRate
      let d := d.power.stepUp.foldl (fun d die =>
        let (v, d) := d.takeFree 32
        let d := d.raiseClock die (v % 25)
        let top := if d.fld 1 0 0x040 0 2 = 0 then 1800 else 1500
        if d.clockOf die ≥ top then { d with power := { d.power with stepUp := d.power.stepUp.erase die } } else d) d
      let cool (d : Device) (die : Nat) (ok : Bool) : Device :=
        if ¬ ok ∨ d.fld 1 0 0x040 0 2 ≠ 0 ∨ d.phasesMissing ∨ d.clockOf die ≥ 1800 ∨ d.power.stepUp.contains die ∨ d.sower.paceOwed.contains die then d
        else
          let d := d.raiseClock die 1
          if d.clockOf die = 1800 then d.setFld 9 0 0x00C (6 + die) 1 0 else d
      let d := cool (cool d 0 coolW) 1 coolE
      if d.phasesMissing ∨ (d.fld 1 0 0x040 0 2 = 0 ∧ (d.clockOf 0 < 1800 ∨ d.clockOf 1 < 1800)) then d else d.setFld 9 0 0x00C 5 1 0

/-! ## LEDs (R542) -/

/-- What an LED shows: dark, blinking at a rate in mHz with a duty in percent, or steady. -/
inductive Led where
  | off | blink (mHz duty : Nat) | steady
  deriving DecidableEq, Repr

/-- L1 POWER, L2 DETACH and L3 FAULT of Table 22-8; with VIN absent all are dark. -/
def ledPower (d : Device) : Led :=
  if ¬ d.power.vnw ∨ d.power.step < 2 then .off
  else if d.pwrState = 2 then .blink 250 25
  else if d.ready then .steady
  else if d.power.step < 7 then .blink 1000 50
  else .off

def ledDetach (d : Device) : Led :=
  if ¬ d.power.vnw then .off else if d.pwrState = 3 then .blink 2000 50 else if d.pwrState = 5 then .steady else .off

def ledFault (d : Device) : Led :=
  if ¬ d.power.vnw then .off else if d.power.standClass ≠ 0 ∨ d.power.causes.contains 0x10 then .steady else .off

end Device

end Sys2Proof.Machine
end

