-- ==== Sys2Proof/Machine/Session.lean ====
section
/-! DEFINITION. Management traffic: Gate openings, sessions and commands, calibration, life-cycle, firmware update, PLDM and SPDM
(chapter 20). -/
namespace Sys2Proof.Machine

/-- The module's serial number S, as its 16 bytes. -/
def Gate.s (g : Gate) : List Byte := bytesOf 16 g.serial

/-- First 32 bytes of a 48-byte MAC. -/
def first32 (v : Nat) : Nat := v % 2 ^ 256

/-- Bounds of a calibration delta (Table 20-6). -/
def calBounds (item : Nat) : Option (Int × Int) :=
  match item with
  | 0x01 => some (0, 100)
  | 0x02 => some (-200, 0)
  | 0x03 => some (-20, 0)
  | 0x04 => some (-20, 0)
  | 0x05 => some (-40, 0)
  | 0x06 => some (-20, 0)
  | 0x07 => some (-20, 0)
  | 0x08 => some (-90, 0)
  | 0x09 => some (-600, 0)
  | 0x10 => some (-2, 0)
  | 0x11 => some (-99, 0)
  | 0x12 => some (-99, 0)
  | 0x20 => some (-800, 800)
  | _ => none

namespace Device

/-- Whether the management endpoint answers on a binding (R492): not in STANDBY or SAFE, and a host port's while its link is up. -/
def endpointUp (d : Device) (binding : Nat) : Bool :=
  d.power.step ≥ 3 && !d.power.standby && d.fld 9 0 0x00C 0 3 ≠ 5 && (binding = 0 || (binding ≤ 2 && (d.host (binding - 1)).up))

def keySlot (d : Device) (k : Nat) : KeySlot := d.gate.slots.get {} k
def setKeySlot (d : Device) (k : Nat) (s : KeySlot) : Device := { d with gate := { d.gate with slots := d.gate.slots.set k s } }

/-- MGT_KEYS. -/
def mgtKeys (d : Device) : Nat := (List.range 8).foldl (fun v k => v + (d.keySlot k).state % 4 * 4 ^ k) 0

/-- MGT_STATUS, MGT_CAL and MGT_FW. -/
def mgtStatus (d : Device) : Nat :=
  let g := d.gate
  g.lifecycle % 8 + ofBool g.session.isSome * 2 ^ 3 + (g.session.map (·.slot)).getD 0 % 8 * 2 ^ 4 + ofBool g.tamper * 2 ^ 7 +
    ofBool g.wiping * 2 ^ 8 + g.active % 2 * 2 ^ 9 + ofBool g.pendingBank * 2 ^ 10
def mgtCal (d : Device) : Nat := d.gate.deltas.get 0 (d.fld 12 0 0x044 0 8) % 2 ^ 16 + d.gate.calGen % 2 ^ 16 * 2 ^ 16
def mgtFw (d : Device) : Nat := d.activeBank.version % 2 ^ 16 + d.activeBank.svn % 64 * 2 ^ 16 + d.gate.minSvn % 64 * 2 ^ 22

/-! ## Openings (R495, R497) -/

/-- Reason to refuse an OPEN, the lowest code first (Table 20-4c). -/
def openRefusal (d : Device) (slot : Nat) : Option Nat :=
  if d.gate.session.isSome then some 1
  else if (d.keySlot slot).state ≠ 1 then some 2
  else if (d.keySlot slot).until_ > d.bellNow then some 3
  else if d.gate.lifecycle = 0 ∨ d.gate.lifecycle = 4 then some 4
  else if d.gate.tamper ∧ d.gate.lifecycle = 2 then some 5
  else if d.gate.sids.length ≥ 65535 then some 6
  else none

/-- OPEN: a CHALLENGE, or a REFUSE with its reason. -/
def gateOpen (d : Device) (m : GateMsg) : Device :=
  let slot := m.slot % 8
  if ¬ d.endpointUp m.binding then d
  else
    match d.openRefusal slot with
    | some r =>
      let left := ceilDiv ((d.keySlot slot).until_ - d.bellNow) (d.bellSpan 1)
      d.emit (.gate m.binding 0x3F slot 0 0 (BitVec.ofNat 8 r :: (if r = 3 then bytesOf 2 left else [])) none)
    | none =>
      if m.args.length ≠ 32 then d.authFail
      else
        let (nm, d) := d.takeFree 256
        let nh := ofBytes m.args
        let mac := Config.hmacSha384 (d.keySlot slot).key (0x01 :: bytesOf 32 nh ++ bytesOf 32 nm ++ d.gate.s)
        let d : Device := { d with gate := { d.gate with opening := some { slot := slot, binding := m.binding, nh := nh, nm := nm } } }
        d.emit (.gate m.binding 0x02 slot 0 0 (bytesOf 32 nm) (some mac))

/-- A failed opening: the slot's backoff doubles from 1 s up to 1,024 s. -/
def failOpening (d : Device) (o : Opening) : Device :=
  let s := d.keySlot o.slot
  let b := if s.backoff = 0 then 1 else min 1024 (2 * s.backoff)
  let d := d.setKeySlot o.slot { s with backoff := b, until_ := d.bellNow + d.bellSpan b }
  ({ d with gate := { d.gate with opening := none } } : Device).authFail

/-- A session identifier not used since the last Cold start, from a free start. -/
def freshSid (used : List Nat) : Nat → Nat → Nat
  | 0, s => s
  | n + 1, s => if used.contains s then freshSid used n (s % 65535 + 1) else s

/-- PROVE: the session opens with ACCEPT, or the opening fails. -/
def gateProve (d : Device) (m : GateMsg) : Device :=
  if ¬ d.endpointUp m.binding then d
  else
    match d.gate.opening with
    | none => d.authFail
    | some o =>
      let s := d.keySlot o.slot
      if o.binding ≠ m.binding ∨ o.slot ≠ m.slot ∨ m.args ≠ [] ∨
          m.mac ≠ Config.hmacSha384 s.key (0x02 :: bytesOf 32 o.nm ++ bytesOf 32 o.nh ++ d.gate.s) then d.failOpening o
      else
        let (r, d) := d.takeFree 16
        let sid := freshSid d.gate.sids 65535 (r % 65535 + 1)
        let ks := Config.hmacSha384 s.key (0x03 :: bytesOf 32 o.nh ++ bytesOf 32 o.nm)
        let d := d.setKeySlot o.slot { s with backoff := 0, until_ := 0 }
        let d : Device := { d with gate := { d.gate with
          opening := none, sids := d.gate.sids ++ [sid], session := some { slot := o.slot, binding := o.binding, sid := sid, ks := ks } } }
        ((d.count 12 0 0x078).event 12 0 0).emit
          (.gate m.binding 0x04 o.slot sid 0 (bytesOf 2 sid) (some (Config.hmacSha384 ks (0x04 :: bytesOf 2 sid))))

/-- PROVE_TIMEOUT. -/
def proveTimeout (d : Device) : Device :=
  match d.gate.opening with
  | some o => d.failOpening o
  | none => d

/-! ## Messages of a session (R496, R500) -/

/-- MAC of a session message: direction, SID, SEQ, KIND and BODY. -/
def sessionMac (s : Session) (dir seq kind : Nat) (body : List Byte) : Nat :=
  Config.hmacSha384 s.ks (BitVec.ofNat 8 dir :: bytesOf 2 s.sid ++ bytesOf 4 seq ++ (BitVec.ofNat 8 kind :: body))

/-- A session message judged: the session with its SEQ taken, or the failure counted; three failures close the session. -/
def takeMessage (d : Device) (m : GateMsg) (kind : Nat) (body : List Byte) : Option Session × Device :=
  if ¬ d.endpointUp m.binding then (none, d)
  else
    match d.gate.session with
    | none => (none, d.authFail)
    | some s =>
      if s.seqIn = 2 ^ 32 - 1 then (none, d.closeSession)
      else if body.length ≤ 920 ∧ m.sid = s.sid ∧ m.seq = s.seqIn + 1 ∧ m.mac = sessionMac s 0x10 m.seq kind body then
        let s := { s with seqIn := m.seq }
        (some s, { d with gate := { d.gate with session := some s } })
      else
        let s := { s with fails := s.fails + 1 }
        let d := ({ d with gate := { d.gate with session := some s } } : Device).authFail
        (none, if s.fails ≥ 3 then d.closeSession else d)

/-- What a command answers: its status, the data of INFO, and what it does after its REPLY. -/
structure Reply where
  status : Nat
  data : List Byte := []
  act : Device → Device := id

/-- A COMMAND: taken, checked for its right (status 0x01; `right` is 0 for none, else the bit of RIGHTS plus 1, 16 for slot 0 only) and its
length (0x03), answered with a REPLY, then done. -/
def gateCommand (d : Device) (m : GateMsg) (code len right : Nat) (run : Device → Session → List Byte → Reply) : Device :=
  match d.takeMessage m 0x10 (BitVec.ofNat 8 code :: m.args) with
  | (none, d) => d
  | (some s, d) =>
    let slot := d.keySlot s.slot
    let may : Bool := s.slot = 0 || right = 0 || (right < 16 && slot.rights.testBit (right - 1))
    let r : Reply := if ¬ may then { status := 1 } else if m.args.length + 1 ≠ len then { status := 3 } else run d s m.args
    let body := BitVec.ofNat 8 code :: BitVec.ofNat 8 r.status :: (if r.status = 0 then r.data else [])
    let seq := s.seqOut + 1
    let d : Device := { d with gate := { d.gate with session := some { s with seqOut := seq } } }
    let d := d.emit (.gate m.binding 0x11 s.slot s.sid seq body (some (sessionMac s 0x11 seq 0x11 body)))
    if r.status = 0 then r.act d else d

/-- A byte of the arguments. -/
def argByte (a : List Byte) (k : Nat) : Nat := ((a[k]?).getD 0).toNat
def argHalf (a : List Byte) (k : Nat) : Nat := argByte a k + 256 * argByte a (k + 1)

/-- INFO (Table 20-4b). -/
def infoReply (d : Device) : Reply :=
  let g := d.gate
  { status := 0
    data := bytesOf 1 (g.lifecycle % 8 + ofBool g.tamper * 8) ++ bytesOf 2 d.mgtKeys ++ bytesOf 2 d.activeBank.version ++
      bytesOf 1 (d.activeBank.svn % 64) ++ bytesOf 1 (g.minSvn % 64) ++
      bytesOf 2 (if d.spareBank.valid then d.spareBank.version else 0xFFFF) ++
      bytesOf 1 (ofBool g.pendingBank + 2 * (g.active % 2)) ++ bytesOf 2 g.calGen }

/-- ALN_ID written (R419, R426): the ID is in force at once and announced; a locked page keeps its ID. -/
def setModuleId (d : Device) (v : Nat) : Device :=
  (d.setRg 8 0 0x048 (v % 2 ^ 13)).announce

/-- SET_ID; a locked ALN page refuses it. -/
def setIdReply (d : Device) (a : List Byte) : Reply :=
  if argHalf a 0 ≥ 4096 then { status := 3 }
  else if d.fld 8 0 0x01C 0 1 = 1 then { status := 2 }
  else { status := 0, act := fun d => d.setModuleId (argHalf a 0 + 2 ^ 12) }

/-- POWER. -/
def powerReply (a : List Byte) : Reply :=
  if argByte a 0 ≥ 4 then { status := 3 } else { status := 0, act := fun d => d.pwrCmd (argByte a 0) true }

/-- CAL_SET (R505). -/
def calSetReply (a : List Byte) : Reply :=
  let item := argByte a 0
  let v := argHalf a 1
  match calBounds item with
  | some (lo, hi) =>
    if lo ≤ toSigned 16 v ∧ toSigned 16 v ≤ hi then
      { status := 0, act := fun d => { d with gate := { d.gate with staged := d.gate.staged.set item v } } }
    else { status := 3 }
  | none => { status := 3 }

/-- CAL_COMMIT (R506). -/
def calCommit (d : Device) : Device :=
  { d with gate := { d.gate with
      deltas := d.gate.staged.foldl (fun m e => Map.set m e.1 e.2) d.gate.deltas, staged := [], calGen := (d.gate.calGen + 1) % 2 ^ 16 } }

/-- A transition of life-cycle (R501, Table 20-5). -/
def enterLifecycle (d : Device) (target : Nat) : Device :=
  let d := ({ d with gate := { d.gate with lifecycle := target, opening := none } } : Device).wipeStrongroom.closeSession
  let g := d.gate
  let g := if target = 3 then { g with slots := g.slots.filter (fun e => e.1 = 0), deltas := [], calGen := 0 }
    else if target = 4 then { g with slots := [], deltas := [], calGen := 0 } else g
  ({ d with gate := g } : Device).dropLevel

/-- LIFECYCLE (R502). -/
def lifecycleReply (d : Device) (a : List Byte) : Reply :=
  let t := argByte a 0
  if t ≥ 5 ∨ argByte a 1 ≠ 0xA0 + t then { status := 3 }
  else if (t ≠ d.gate.lifecycle + 1 ∧ t ≠ 4) ∨ t ≤ d.gate.lifecycle ∨ (t = 4 ∧ d.gate.lifecycle = 0) ∨ d.chans.any (fun e => e.2.st ≠ .off) ∨ d.gate.transfer then { status := 2 }
  else { status := 0, act := fun d => (d.enterLifecycle t).requestWarm }

/-- DEBUG_AUTH (R516): LIFETIME_S 0 has no expiry and 0xFFFF is out of range. -/
def debugAuthReply (d : Device) (a : List Byte) : Reply :=
  let level := argByte a 0
  let life := argHalf a 1
  if level ≥ 4 ∨ life = 0xFFFF then { status := 3 }
  else if level > maxLevel d.gate.lifecycle then { status := 2 }
  else { status := 0, act := fun d => d.setLevel level (if life = 0 then 0xFFFF else life) }

/-- SVN_COMMIT (R509). -/
def svnCommitReply (d : Device) : Reply :=
  if d.gate.pendingBank then { status := 2 }
  else { status := 0, act := fun d => { d with gate := { d.gate with minSvn := max d.gate.minSvn d.activeBank.svn } } }

/-- KEY_SET (R499): only in a session on slot 0. -/
def keySetReply (s : Session) (seq : Nat) (a : List Byte) : Reply :=
  let slot := argByte a 0
  let rights := argHalf a 1
  if s.slot ≠ 0 then { status := 1 }
  else if slot ≥ 8 ∨ rights ≥ 128 then { status := 3 }
  else
    let key := ofBytes (a.drop 3) ^^^ first32 (Config.hmacSha384 s.ks (0x05 :: bytesOf 4 seq))
    { status := 0, act := fun d => d.setKeySlot slot { d.keySlot slot with state := 1, key := key, rights := if slot = 0 then 127 else rights } }

/-- KEY_REVOKE (R499). -/
def keyRevokeReply (s : Session) (a : List Byte) : Reply :=
  let slot := argByte a 0
  if s.slot ≠ 0 then { status := 1 }
  else if slot ≥ 8 then { status := 3 }
  else if slot = 0 then { status := 2 }
  else { status := 0, act := fun d => d.setKeySlot slot { d.keySlot slot with state := 2 } }

/-- CLOSE: an accepted one ends the session. -/
def gateClose (d : Device) (m : GateMsg) : Device :=
  match d.takeMessage m 0x1F m.args with
  | (some _, d) => d.closeSession
  | (none, d) => d

/-- PROVISION (R503). BLANK to PROVISIONED performs no Warm reset, which R503 does not name, though Table 1-7 lists a life-cycle transition of R502
among its triggers (DESIGN CHOICE, log entry 104). -/
def provision (d : Device) (m : GateMsg) : Device :=
  if ¬ d.endpointUp m.binding then d
  else if m.binding = 0 ∧ d.gate.lifecycle = 0 ∧ m.slot = 0 ∧ m.sid = 0 ∧ m.seq = 0 ∧ m.args.length = 32 ∧
      m.mac = Config.sha384 (0x06 :: m.args ++ d.gate.s) then
    let key := ofBytes m.args
    let d := (d.setKeySlot 0 { state := 1, key := key, rights := 127 }).enterLifecycle 1
    d.emit (.gate 0 0x11 0 0 0 [0x05, 0x00] (some (Config.hmacSha384 key (0x07 :: d.gate.s))))
  else d.count 12 0 0x060

/-- SESSION_IDLE_TIMEOUT. -/
def sessionIdle (d : Device) : Device := d.closeSession

/-! ## PLDM, SPDM and MCTP control (R492, R493, R507) -/

/-- Readings of the PLDM sensors, in the order of Table 20-1, and base requests, whose payload is free (their encoding is PLDM's). -/
def pldmReading (d : Device) (what : Nat) : Nat × Device :=
  match what with
  | 12 => (d.fld 9 0 0x00C 0 3, d)
  | 13 => (d.fld 1 0 0x00C 0 1, d)
  | 14 => (d.fld 10 0 0x00C 0 1, d)
  | 15 => (d.gate.lifecycle, d)
  | 16 => (d.bell.state, d)
  | w =>
    if w < 4 then
      let d := d.refresh 9 0 (0x050 + 4 * w)
      (d.rg 9 0 (0x050 + 4 * w), d)
    else if w < 12 then
      let d := d.refresh 16 (w - 4) 0x00C
      (d.fld 16 (w - 4) 0x00C 8 8, d)
    else d.takeFree 32

/-- PLDM_READ. -/
def pldmRead (d : Device) (binding what : Nat) : Device :=
  if d.endpointUp binding then
    let (v, d) := d.pldmReading what
    d.emit (.pldm binding 0 (bytesOf 4 v))
  else d

/-- Whether a binding holds the open session with the UPDATE right. -/
def mayUpdate (d : Device) (binding : Nat) : Bool :=
  match d.gate.session with
  | some s => s.binding = binding && (s.slot = 0 || (d.keySlot s.slot).rights.testBit 6)
  | none => false

/-- REQUEST_UPDATE, with the image that its transfer writes to the inactive bank. -/
def requestUpdate (d : Device) (binding version svn : Nat) (image : List Byte) : Device :=
  if ¬ d.endpointUp binding then d
  else if ¬ d.mayUpdate binding then d.emit (.pldm binding 4 [])
  else
    let d := d.setSpareBank { valid := false, version := version % 2 ^ 16, svn := svn % 64, image := image }
    ({ d with gate := { d.gate with transfer := true, pendingBank := false } } : Device).emit (.pldm binding 0 [])

/-- VERIFY_COMPLETE: VerifyResult 0x09 for a low SVN; that of a bad signature is not stated and is free. -/
def verifyComplete (d : Device) (binding : Nat) : Device :=
  if ¬ d.endpointUp binding then d
  else if ¬ d.mayUpdate binding ∨ ¬ d.gate.transfer then d.emit (.pldm binding 4 [])
  else
    let b := d.spareBank
    let d : Device := { d with gate := { d.gate with transfer := false } }
    if ¬ Config.signatureValid b.image then
      let (r, d) := d.takeFree 8
      (d.setSpareBank { b with valid := false }).emit (.pldm binding 0 (bytesOf 1 r))
    else if b.svn < d.gate.minSvn then (d.setSpareBank { b with valid := false }).emit (.pldm binding 0 [0x09])
    else (d.setSpareBank { b with valid := true }).emit (.pldm binding 0 [0x00])

/-- ACTIVATE_FIRMWARE; the code that answers it without a verified image is not stated and is free. -/
def activateFirmware (d : Device) (binding : Nat) : Device :=
  if ¬ d.endpointUp binding then d
  else if ¬ d.mayUpdate binding then d.emit (.pldm binding 4 [])
  else if d.spareBank.valid ∧ ¬ d.gate.transfer then
    ({ d with gate := { d.gate with pendingBank := true } } : Device).emit (.pldm binding 0 [])
  else
    let (r, d) := d.takeFree 8
    d.emit (.pldm binding r [])

/-- KEY_EXCHANGE and FINISH: a secured session, in which the host may set up IDE on the port (R395): `io` the link stream, `cm`
CXL.cachemem. -/
def keyExchange (d : Device) (binding : Nat) (io cm : Bool) : Device :=
  if ¬ d.endpointUp binding then d
  else
    let d : Device := { d with gate := { d.gate with spdm := if d.gate.spdm.contains binding then d.gate.spdm else d.gate.spdm ++ [binding] } }
    let d := if binding = 0 then d else d.setHost (binding - 1) { d.host (binding - 1) with ideIo := io, ideCm := cm }
    d.emit (.spdm binding 0 [])

/-- The measurement block of an index (Table 20-2). -/
def measurement (d : Device) (ix : Nat) : Option (List Byte) :=
  match ix with
  | 1 => some (bytesOf 48 (Config.sha384 d.activeBank.image))
  | 2 => some (bytesOf 2 d.activeBank.version ++ bytesOf 1 d.activeBank.svn)
  | 3 => some (bytesOf 48 (Config.sha384 (d.gate.deltas.flatMap (fun e => bytesOf 1 e.1 ++ bytesOf 2 e.2))))
  | 4 => some (bytesOf 1 d.gate.lifecycle ++ bytesOf 1 d.gate.minSvn)
  | 5 => some (bytesOf 2 d.mgtKeys)
  | _ => none

/-- SPDM_MEASUREMENTS. -/
def measurements (d : Device) (binding ix : Nat) : Device :=
  if d.endpointUp binding then
    match d.measurement ix with
    | some b => d.emit (.spdm binding 0 b)
    | none => d.emit (.spdm binding 1 [])
  else d

/-- SET_ENDPOINT_ID: one endpoint ID for every binding. -/
def setEndpointId (d : Device) (binding eid : Nat) : Device :=
  if d.endpointUp binding then
    ({ d with gate := { d.gate with eid := eid % 256 } } : Device).emit (.mctp binding (bytesOf 1 eid))
  else d

/-- CLOCK_FAULT (R23, Tables 1-5 and 17-6): the Constable finds a commanded clock stopped or off; `domain` is the clock domain. -/
def clockFault (d : Device) (dom : Nat) : Device :=
  let die : Bool := (4 ≤ dom && dom ≤ 9) || dom = 14
  if ¬ d.power.vsaf ∨ dom = 15 ∨ dom ≥ 18 ∨ dom = 0 then d
  else if dom = 17 then d.constable 0xE
  else if dom ≠ 16 ∧ dom ≠ 1 ∧ d.power.step < 3 then d
  else if die ∧ d.computeOff then d
  else if (dom = 10 ∨ dom = 11) ∧ ¬ (d.host (dom - 10)).up then d
  else if (dom = 12 ∨ dom = 13) ∧ ¬ d.alnUp (2 * dom - 24) ∧ ¬ d.alnUp (2 * dom - 23) then d
  else
    let d := (d.logErr 10 0 0xFFF 0x06 3 0).event 10 0 3
    if dom ≤ 9 ∨ dom = 14 then d.constable 9
    else if dom = 10 ∨ dom = 11 then d.portReset (dom - 10)
    else if dom = 12 then (d.portDown 0).portDown 1
    else if dom = 13 then (d.portDown 2).portDown 3
    else d.debugReset

end Device

end Sys2Proof.Machine
end

