-- ==== Sys2Proof/Machine/Hkd.lean ====
section
/-! DEFINITION. Commands of housekeeping DMA (R369 to R374): GO, DISABLE and RESUME; the bursts are in Bus.lean. -/
namespace Sys2Proof.Machine

/-- Page kind of HKD, and the offset of a channel's registers. -/
def kHkd : Nat := 21
def hkdBase (n : Nat) : Nat := 0x100 + n * 0x40

namespace Device

/-- A channel's source, destination, length, operation and state. -/
def hkdSrc (d : Device) (n : Nat) : Nat := d.rg kHkd 0 (hkdBase n) + d.rg kHkd 0 (hkdBase n + 4) * 2 ^ 32
def hkdDst (d : Device) (n : Nat) : Nat := d.rg kHkd 0 (hkdBase n + 8) + d.rg kHkd 0 (hkdBase n + 0xC) * 2 ^ 32
def hkdLen (d : Device) (n : Nat) : Nat := d.rg kHkd 0 (hkdBase n + 0x10)
def hkdPattern (d : Device) (n : Nat) : Nat :=
  (List.range 4).foldl (fun v k => v + d.rg kHkd 0 (hkdBase n + 0x14 + 4 * k) * 2 ^ (32 * k)) 0
def hkdOp (d : Device) (n : Nat) : Nat := d.fld kHkd 0 (hkdBase n + 0x24) 0 2
def hkdState (d : Device) (n : Nat) : Nat := d.fld kHkd 0 (hkdBase n + 0x28) 0 3
def hkdDone (d : Device) (n : Nat) : Nat := d.rg kHkd 0 (hkdBase n + 0x2C)

/-- STATE, MISMATCH, POISONED and ERR set. -/
def setHkdState (d : Device) (n st flags errc : Nat) : Device := d.setRg kHkd 0 (hkdBase n + 0x28) (st + flags * 8 + errc * 2 ^ 8)

/-- A channel that has done its whole length (R370, R371). -/
def hkdFinish (d : Device) (n : Nat) : Device :=
  let d := if d.hkdOp n = 2 then d.setRg kHkd 0 (hkdBase n + 0x30) (d.hkdLen n) else d
  (d.setFld kHkd 0 (hkdBase n + 0x28) 0 3 2).event kHkd 0 n

/-- R370: whether GO finds an argument at fault. -/
def hkdBad (d : Device) (n : Nat) : Bool :=
  let s := d.hkdSrc n
  let t := d.hkdDst n
  let l := d.hkdLen n
  s % 16 ≠ 0 || t % 16 ≠ 0 || l % 16 ≠ 0 || d.hkdOp n = 3 || s + l > 2 ^ 64 || t + l > 2 ^ 64 ||
  (d.hkdOp n = 0 && s ≠ t && s < t + l && t < s + l)

/-- HKD_GO: ignored while the channel is BUSY or STOPPED (Table 13-4). -/
def hkdGo (d : Device) (n view : Nat) : Device :=
  if d.hkdState n = 1 ∨ d.hkdState n = 3 then d.err kHkd 0 3 (hkdBase n + 0x24) view
  else
    let d := (d.setRg kHkd 0 (hkdBase n + 0x2C) 0).setRg kHkd 0 (hkdBase n + 0x30) 0
    if d.hkdBad n then d.setHkdState n 4 0 8
    else
      let d := d.setHkdState n 1 0 0
      if d.hkdLen n = 0 then d.hkdFinish n else d

/-- HKD_DISABLE: the channel is IDLE, and what it shows until the next GO is unspecified, but for ERR (R374). -/
def hkdDisable (d : Device) (n : Nat) : Device :=
  let (flags, d) := d.takeFree 2
  let (done, d) := d.takeFree 32
  let (result, d) := d.takeFree 32
  ((d.setRg kHkd 0 (hkdBase n + 0x2C) done).setRg kHkd 0 (hkdBase n + 0x30) result).setHkdState n 0 flags (d.fld kHkd 0 (hkdBase n + 0x28) 8 4)

/-- A write of HKD_CTRL: DISABLE wins over GO. -/
def hkdCtrl (d : Device) (n : Nat) (go disable : Bool) (view : Nat) : Device :=
  if disable then d.hkdDisable n else if go then d.hkdGo n view else d

/-- HKD_RESUME: STOPPED channels go on once BUSERR is clear (R373). -/
def hkdResume (d : Device) : Device :=
  if d.fld kHkd 0 0x010 8 1 = 1 then d
  else (List.range 8).foldl (fun d n => if d.hkdState n = 3 then d.setFld kHkd 0 (hkdBase n + 0x28) 0 3 1 else d) d

end Device

end Sys2Proof.Machine
end

