-- ==== Sys2Proof/Machine/Pages.lean ====
section
/-! DEFINITION. Register pages: what each register shows, and what a write through each view does (chapters 13, 14 and 19). -/
namespace Sys2Proof.Machine

/-- How an access of a page or of the matrix ends. -/
inductive BusRes where
  | ok (v : Nat) | poison | ue | lost | wait | err | decode | refused | busy
  deriving DecidableEq, Repr

/-- Key of an initiator's latches (R485): its INITIATOR code, with each function of a port apart. -/
def whoKey : Initiator → Nat
  | .host p fn => 0x10 + p + 0x100 * fn
  | i => initiatorCode i

/-- Whether an access comes through the control matrix. -/
def viaMatrix : Initiator → Bool
  | .host _ _ => false
  | _ => true

namespace Device

/-! ## What registers show -/

/-- CAPS.UNITS (Table 19-3). -/
def capsOf (d : Device) (kind inst : Nat) : Nat :=
  match rowsKind kind with
  | 1 => ((List.range 272).filter (fun n => (d.croft n).st = 1)).length
  | 2 => ((List.range 16).filter (fun h => (span (17 * h) 17).any (fun n => (d.croft n).st = 1))).length
  | 3 => 4096
  | 4 => 4096
  | 5 => 32768
  | 6 => 64
  | 7 => 1
  | 8 => if d.alnState inst = 4 then 4 else if d.alnUp inst then 8 else 0
  | 9 => d.phasesIn 0 + d.phasesIn 1
  | 10 => 17
  | 11 => 7
  | 12 => 8
  | 13 => 8
  | 14 => 5
  | 15 => 8
  | 16 => 32
  | 17 => 264
  | 18 => 512
  | 19 => 4
  | 20 => 6
  | _ => 8

/-- GLB_STATUS: READY and STEP_FAILED as kept, the rest copied. -/
def glbStatus (d : Device) : Nat :=
  (d.rg 1 0 0x00C &&& 0xF01) + d.fld 10 0 0x00C 0 1 * 2 + ofBool (d.pwrState = 3) * 4 + ofBool (d.pwrState = 2) * 8 + ofBool d.bellFree * 16

/-- SAF_STATUS. -/
def safStatus (d : Device) : Nat :=
  (d.rg 10 0 0x00C &&& 0xFF13) + ofBool (!d.power.causes.isEmpty) * 4 + ofBool d.wdogFrozen * 8

/-- HLK_STATUS. -/
def hlkStatus (d : Device) (p : Nat) : Nat :=
  let h := d.host p
  if ¬ h.up then 0
  else 1 + h.speed % 8 * 2 + h.width % 32 * 2 ^ 4 + ofBool h.flit256 * 2 ^ 9 + ofBool h.cacheEn * 2 ^ 10 + ofBool h.memEn * 2 ^ 11 +
    ofBool (h.hdm.isSome && d.power.memActive) * 2 ^ 12 + ofBool (d.uioInUse p) * 2 ^ 13 + ofBool h.ideIo * 2 ^ 14 + ofBool h.ideCm * 2 ^ 15

/-- CHN_CACHE and CHN_TAGS. -/
def chnCache (d : Device) : Nat :=
  (d.chans.filter (fun e => e.2.entry.isSome)).length + (d.chans.filter (fun e => d.pinned e.1 e.2)).length * 2 ^ 16
def chnTags (d : Device) : Nat := 262144 - d.usedTags.length

/-- LDG_STATUS and LDG_MSTATE of the channel in LDG_MSEL. -/
def ldgStatus (d : Device) : Nat :=
  ofBool d.ledger.degraded + ofBool (d.chans.any (fun e => e.2.recovering)) * 2 +
    ofBool (d.chans.any (fun e => e.2.recovering && e.2.origin.isSome)) * 4
def mirrorCode : Mirror → Nat
  | .none => 0
  | .mirrored => 1
  | .unmirrored => 2
  | .refused => 3
def ldgMstate (d : Device) : Nat :=
  let c := d.chan (d.fld 3 0 0x060 0 12)
  mirrorCode c.mirror + ofBool c.leaseHeld * 4 + ofBool c.yielded * 8

/-- CRF_STATUS; CRF_REQ: read and write requests in flight now and at most. Of the stores a croft holds, the first 48 are in flight and the
others wait for a write slot, which frees as STORE_ACK answers the first (R132). -/
def crfStatus (d : Device) (n : Nat) : Nat :=
  let c := d.croft n
  c.st % 8 + c.strips.length % 8 * 2 ^ 8 + c.deque.length % 64 * 2 ^ 16 + ofBool (c.strips.any (·.parked)) * 2 ^ 24 +
    ofBool (c.strips.any (·.tk.ordered)) * 2 ^ 25 + ofBool (c.strips.any (·.waiting)) * 2 ^ 26
def crfWrites (d : Device) (n : Nat) : Nat := min 48 ((d.croft n).strips.foldl (fun k s => k + s.stores.length) 0)
def crfReq (d : Device) (n : Nat) : Nat :=
  d.readsInFlight n + d.crfWrites n * 2 ^ 8 + max (d.readsInFlight n) (d.fld 19 n 0x058 16 8) * 2 ^ 16 + max (d.crfWrites n) (d.fld 19 n 0x058 24 8) * 2 ^ 24
/-- PEAK_READS and PEAK_WRITES kept up. -/
def notePeak (d : Device) (n : Nat) : Device :=
  let d := if d.fld 19 n 0x058 16 8 < d.readsInFlight n then d.setFld 19 n 0x058 16 8 (d.readsInFlight n) else d
  if d.fld 19 n 0x058 24 8 < d.crfWrites n then d.setFld 19 n 0x058 24 8 (d.crfWrites n) else d

/-- What follows a step of a croft: its peaks are kept up, and a bank that waits for strip boundaries may switch (R195). -/
def afterCroft (d : Device) (n : Nat) : Device := (d.notePeak n).settleBanks

/-- GLB_ELOG_DATA k of the selected entry. -/
def elogData (d : Device) (k : Nat) : Nat :=
  let e := d.rg 1 0 0x09C
  match d.elog.find? (e % 1024) with
  | some v => if field v 64 32 = e then field v (32 * k) 32 else 0
  | none => 0

/-- A register of a mailbox page as its reader sees it, without consuming. -/
def mbxShow (d : Device) (n : Nat) (hostSide : Bool) (code off : Nat) (peek : Bool) : Nat :=
  let b := d.box n
  let last := if hostSide then b.lastHost else b.lastReeve
  let head := d.mbxPeek n hostSide
  match off with
  | 0x00C => d.mbxStatus n hostSide
  | 0x040 => b.hold.get 0 code
  | 0x048 => head.1
  | 0x04C => if peek then head.2.1 else last.1
  | 0x050 => if peek then head.2.2 else last.2
  | 0x054 => if hostSide then b.seqReeve else b.seqHost
  | _ => 0

/-- What a register shows without being consumed, for a reader by its INITIATOR code; write-only bits read zero. -/
def liveReg (d : Device) (code kind inst off : Nat) (peek : Bool) : Nat :=
  let stored : Nat := match findRow (rowsKind kind) inst off with
    | some r => d.rg kind inst off &&& (r.allMask ^^^ r.maskOf .wo)
    | none => 0
  match off with
  | 0x000 => rowsKind kind + inst * 2 ^ 8 + 2 ^ 24
  | 0x004 => d.capsOf kind inst
  | _ =>
    match kind, off with
    | 1, 0x00C => d.glbStatus
    | 1, 0x05C => d.pend
    | 1, o => if 0x0A0 ≤ o ∧ o < 0x0C0 then d.elogData ((o - 0x0A0) / 4) else stored
    | 3, 0x00C => d.ldgStatus
    | 3, 0x054 => match d.ledger.adoptLog with
      | (lo, _) :: _ => lo
      | [] => 0
    | 3, 0x064 => d.ldgMstate
    | 4, 0x050 => d.chnCache
    | 4, 0x054 => d.chnTags
    | 5, 0x00C => d.fld 5 0 0x04C 31 1 + min 64 d.xlt.walks.length * 2 ^ 8
    | 6, 0x00C => d.hlkStatus inst
    | 7, 0x00C => d.belStatus
    | 7, 0x044 => d.bellNow % 2 ^ 32
    | 7, 0x048 => d.bellNow / 2 ^ 32 % 2 ^ 32
    | 7, 0x04C => d.bell.measured % 2 ^ 24
    | 8, 0x050 => d.alnRoute
    | 10, 0x00C => d.safStatus
    | 11, 0x00C => d.sprStatus
    | 11, 0x050 => match d.spare.log with
      | (lo, _) :: _ => lo
      | [] => 0
    | 12, 0x00C => d.mgtStatus
    | 12, 0x040 => d.mgtKeys
    | 12, 0x048 => d.mgtCal
    | 12, 0x04C => d.mgtFw
    | 13, 0x010 => stored
    | 14, 0x00C => d.dbgStatus
    | 14, 0x040 => d.dbgRunReg
    | 14, 0x04C => d.dbgWhy
    | 14, 0x05C => d.dbgAuth
    | 14, 0x070 => (stored &&& 0xFE) + ofBool d.dbg.access.isSome
    | 14, o => if 0x0A0 ≤ o ∧ o < 0x0C0 then d.traceData ((o - 0x0A0) / 4) else stored
    | 17, 0x04C => d.bankOf (d.fld 17 0 0x048 0 8)
    | 18, 0x00C => d.bankState inst + (if d.bankState inst = 1 then (d.logicalOf inst).getD 0 * 2 ^ 8 else 0)
    | 19, 0x00C => d.crfStatus inst
    | 19, 0x058 => d.crfReq inst
    | 21, o =>
      let n := (o - 0x100) / 0x40
      if 0x100 ≤ o ∧ (o - 0x100) % 0x40 = 0x24 then (stored &&& 3) + ofBool (d.hkdState n = 1 || d.hkdState n = 3) * 2 ^ 8 else stored
    | k, o =>
      if (k = 13 ∨ k = kMbxReeve) ∧ (o = 0x00C ∨ (0x040 ≤ o ∧ o < 0x058)) then d.mbxShow inst (k = 13) code o peek else stored

/-! ## Reads -/

/-- Whether a register is one that SNAP copies (R486). -/
def inSnap (kind off : Nat) : Bool := (pairOffs kind).contains off || (kind = 7 && (off = 0x044 || off = 0x048))

/-- ADOPT_LOG_POP: the low word popped, the high one kept. -/
def adoptPop (d : Device) : Nat × Device :=
  match d.ledger.adoptLog with
  | (lo, hi) :: rest => (lo, ({ d with ledger := { d.ledger with adoptLog := rest } } : Device).setRg 3 0 0x058 hi)
  | [] => (0, d)

/-- PAIR_LO_READ: a normal-view read of a _LO register latches its _HI for the initiator; a _HI read takes the latch (R485). -/
def pairRead (d : Device) (who : Initiator) (kind inst off : Nat) : Nat × Device :=
  let v := d.liveReg (initiatorCode who) kind inst off false
  let isLo : Bool := ((findRow (rowsKind kind) inst off).map (·.lo)).getD false || (kind = 7 && off = 0x044)
  let key := latchKey (whoKey who) (regKey kind inst off)
  if isLo then
    let hi := d.liveReg (initiatorCode who) kind inst (off + 4) false
    (v, { d with latches := d.latches.set (key + 4) (BitVec.ofNat 32 hi) })
  else
    match d.latches.find? key with
    | some hi => (hi.toNat, { d with latches := d.latches.erase key })
    | none => (v, d)

/-- A read of a register of a page, but for the DBG page's own; `peek` for an alias view or a debug peek (R484). -/
def regRead (d : Device) (who : Initiator) (kind inst off : Nat) (peek : Bool) : Nat × Device :=
  if viaMatrix who ∧ kind = 5 ∧ 0x044 ≤ off ∧ off ≤ 0x04C then
    -- firmware's path has these registers of its own (R304)
    (if off = 0x044 then d.xlt.fwInv.1 else if off = 0x048 then d.xlt.fwInv.2.1 else d.xlt.fwInv.2.2, d)
  else if d.fld kind inst 0x020 1 1 = 1 ∧ inSnap kind off then ((d.snaps.get 0 (regKey kind inst off)).toNat, d)
  else
  let d := (d.refresh kind inst off).refresh kind inst (off + 4)
  if peek then (d.liveReg (initiatorCode who) kind inst off true, d)
  else if kind = 3 ∧ off = 0x054 then d.adoptPop
  else if kind = 11 ∧ off = 0x050 then d.sprPop
  else if (kind = 13 ∨ kind = kMbxReeve) ∧ off = 0x048 then d.mbxPop inst (kind = 13)
  else d.pairRead who kind inst off

/-! ## Writes by field type (R476, R483) -/

/-- Written bits of a mask, in the width of a register. -/
def andNot (a m : Nat) : Nat := a ^^^ (a &&& m)

/-- Value a write through a view would produce; LOCK leaves RWL fields as they are (Table 19-4). -/
def produceValue (r : RegRow) (locked : Bool) (old v view : Nat) : Nat :=
  let rw := r.maskOf .rw ||| (if locked then 0 else r.maskOf .rwl)
  let w1c := r.maskOf .w1c
  let w1s := r.maskOf .w1s
  match view with
  | 0 => (andNot (andNot old rw) (v &&& w1c) ||| (v &&& rw)) ||| (v &&& w1s)
  | 1 => old ||| (v &&& (rw ||| w1s))
  | 2 => andNot old (v &&& (rw ||| w1c))
  | _ => old ^^^ (v &&& rw)

/-- Whether the page is locked (R480). -/
def locked (d : Device) (kind inst : Nat) : Bool := d.fld kind inst 0x01C 0 1 = 1

/-- Window bounds of an EN register pair: R307, R427, R466. -/
def windowValueOk (v top : Nat) : Bool := field v 0 1 = 0 || (12 ≤ field v 1 6 && field v 1 6 ≤ top)

/-- Value checks of registers, made on the value a write would produce; a write that fails one is ignored whole. R214 says so of the arbiters'
registers; of HBM_SCRUB with HOURS = 0 and GRN_SCRUB with PERIOD_MS below 100 the spec says 'ignored', the whole write being meant here
(DESIGN CHOICE, log entry 101). -/
def valueOk (kind off v : Nat) : Bool :=
  match kind, off with
  | 2, 0x048 => let s := field v 0 17; (List.range 9).any (fun k => s = 256 * 2 ^ k)
  | 3, 0x040 => field v 0 8 ≤ 128 && field v 8 8 ≤ 64
  | 3, 0x044 => 1 ≤ field v 0 16 && field v 0 16 ≤ 10000
  | 3, 0x048 => field v 0 12 + field v 12 13 ≤ 4096
  | 4, 0x048 => field v 0 2 ≠ 3
  | 6, 0x040 => field v 0 3 ≠ 0 && field v 0 3 ≠ 7
  | 6, 0x044 => field v 16 11 ≤ 2044
  | 6, 0x048 => 1 ≤ field v 0 16 && field v 0 16 ≤ 1000
  | 7, 0x040 => field v 0 3 ≠ 3 && field v 4 3 ≤ 4
  | 8, 0x054 => 10 ≤ field v 0 16 && field v 0 16 ≤ 10000
  | 9, 0x048 => 10 ≤ field v 0 10 && field v 0 10 ≤ 900
  | 10, 0x044 => 10 ≤ field v 0 16 && field v 0 16 ≤ 1000
  | 11, 0x040 => field v 0 8 ≠ 0
  | 16, 0x040 => field v 0 12 ≠ 0 && field v 0 12 ≤ field v 16 12 && 64 ≤ field v 16 12
  | 17, 0x040 => field v 0 12 ≠ 0 && field v 0 12 ≤ field v 16 12 && 64 ≤ field v 16 12
  | 20, 0x044 => field v 0 12 ≠ 0 && field v 0 12 ≤ field v 16 12 && 64 ≤ field v 16 12
  | 16, 0x048 => field v 0 8 ≠ 0
  | 17, 0x044 => field v 0 16 ≥ 100
  | 19, 0x044 => field v 0 3 ≤ 4
  | 5, o => if 0x080 ≤ o ∧ o < 0x0C0 ∧ o % 8 = 0 then windowValueOk v 52 else true
  | 8, o => if 0x0C0 ≤ o ∧ o % 8 = 0 then windowValueOk v 39 else true
  | 10, o => if 0x0C0 ≤ o ∧ o % 8 = 0 then windowValueOk v 52 else true
  | _, _ => true

/-- State checks: LDG_CFG while a channel is not OFF (R282). -/
def stateOk (d : Device) (kind off : Nat) : Bool := !(kind = 3 && off = 0x040 && d.chans.any (fun e => e.2.st ≠ .off))

/-- REGISTER_WRITE: a write that acts by field type alone, checked whole; an error goes to ERR_CODE. -/
def plainWrite (d : Device) (kind inst off view v : Nat) : Device :=
  match findRow (rowsKind kind) inst off with
  | none => d
  | some r =>
    let old := d.rg kind inst off
    let lk := d.locked kind inst
    let touches : Bool := if view = 0 then r.maskOf .rwl ≠ 0 else v &&& r.maskOf .rwl ≠ 0
    let new := produceValue r lk old v view
    let d := if lk ∧ touches then d.err kind inst 2 off view else d
    if ¬ d.stateOk kind off then d.err kind inst 3 off view
    else if new = old then d
    else if ¬ valueOk kind off new then d.err kind inst 1 off view
    else d.setRg kind inst off new

/-! ## The common header (R478 to R486) -/

/-- EVENT bits a page implements. -/
def eventBits (kind inst : Nat) : Nat := ((findRow (rowsKind kind) inst 0x010).map (fun r => r.maskOf .w1c)).getD 0

/-- Counters of a page set to zero; the wear counters stay (R482). -/
def zeroCounters (d : Device) (kind inst : Nat) : Device :=
  (pageRows (rowsKind kind)).foldl (fun d r =>
    if r.ctr ∧ ¬ (kind = 19 ∧ (r.off = 0x0A0 ∨ r.off = 0x0A4)) then d.setRg kind inst r.off 0 else d) d

/-- EVENT_EN replaced; the page may begin to signal. -/
def setEventEn (d : Device) (kind inst v : Nat) : Device := d.afterSignal (d.setRg kind inst 0x014 v) kind inst

/-- A page's TAKE, absorbed by a device-wide snapshot under way (R489). -/
def takePage (d : Device) (kind inst : Nat) : Device := if d.snapT.isSome then d else d.snapPage kind inst false d.bellNow

/-- A write of a header register. -/
def headerWrite (d : Device) (kind inst off view v : Nat) : Device :=
  let v := v % 2 ^ 32
  match off with
  | 0x008 =>
    let d := d.setRg kind inst 0x008 (match view with
      | 0 => v % 2
      | 1 => d.rg kind inst 0x008 ||| v % 2
      | 2 => andNot (d.rg kind inst 0x008) (v % 2)
      | _ => d.rg kind inst 0x008 ^^^ v % 2)
    if view = 0 ∧ field v 1 1 = 1 then d.zeroCounters kind inst else d
  | 0x010 =>
    if view = 0 ∨ view = 2 then d.setRg kind inst 0x010 (andNot (d.rg kind inst 0x010) v)
    else if view = 1 then d.eventMask kind inst (v &&& eventBits kind inst)
    else d
  | 0x014 =>
    let old := d.rg kind inst 0x014
    d.setEventEn kind inst (match view with
      | 0 => v
      | 1 => old ||| v
      | 2 => andNot old v
      | _ => old ^^^ v)
  | 0x018 => if view = 0 then d.eventMask kind inst (v &&& eventBits kind inst) else d
  | 0x01C => if view ≤ 1 ∧ v % 2 = 1 then d.setRg kind inst 0x01C 1 else d
  | 0x020 =>
    let old := d.rg kind inst 0x020
    let hold := match view with
      | 0 => field v 1 1
      | 1 => field old 1 1 ||| field v 1 1
      | 2 => field old 1 1 - field v 1 1
      | _ => (field old 1 1 + field v 1 1) % 2
    let d := d.setFld kind inst 0x020 1 1 hold
    if view ≤ 1 ∧ v % 2 = 1 then d.takePage kind inst else d
  | 0x024 => if (view = 0 ∨ view = 2) ∧ field v 31 1 = 1 then d.setRg kind inst 0x024 (d.rg kind inst 0x024 % 2 ^ 30) else d
  | _ => d

/-! ## Invalidations (R302 to R306) -/

/-- Translations that a TYPE names (Table 10-10). -/
def invSel (d : Device) (asid type size : Nat) : InvSel :=
  let va := d.rg 5 0 0x044 + d.rg 5 0 0x048 * 2 ^ 32
  match type with
  | 0 => { asid := asid, lo := va, n := 1 }
  | 1 => { asid := asid, lo := va / 2 ^ size * 2 ^ size, n := 2 ^ size }
  | 2 => { asid := asid }
  | 3 => { anyAsid := true }
  | _ => { fw := true }

/-- A write of XLT_INV_CMD. -/
def invWrite (d : Device) (matrix : Bool) (view v : Nat) : Device :=
  let old := d.rg 5 0 0x04C
  let go : Bool := view ≤ 1 && field v 31 1 = 1
  let new := match view with
    | 0 => v % 2 ^ 25
    | 1 => (old ||| v) % 2 ^ 25
    | 2 => andNot old v % 2 ^ 25
    | _ => (old ^^^ v) % 2 ^ 25
  let type := field new 16 3
  if ¬ go then d.setRg 5 0 0x04C (new + field old 31 1 * 2 ^ 31)
  else if field old 31 1 = 1 then d.err 5 0 3 0x04C view
  else if type ≥ 5 ∨ (type = 1 ∧ ¬ (12 ≤ field new 19 6 ∧ field new 19 6 ≤ 57)) ∨ (type = 4 ∧ ¬ matrix) then d.err 5 0 1 0x04C view
  else
    let s := d.invSel (field new 0 16) type (field new 19 6)
    let uses := d.invUses s
    let d := (d.setRg 5 0 0x04C (new + 2 ^ 31)).invalidate s
    { d with xlt := { d.xlt with invWait := uses } }

/-- The registers and the wait of firmware's path put in the place of those of XLT_INV_CMD, and back (R304). -/
def swapInv (d : Device) : Device :=
  let x := d.xlt
  let d := { d with xlt := { x with invWait := x.fwWait, fwWait := x.invWait, fwInv := (d.rg 5 0 0x044, d.rg 5 0 0x048, d.rg 5 0 0x04C) } }
  ((d.setRg 5 0 0x044 x.fwInv.1).setRg 5 0 0x048 x.fwInv.2.1).setRg 5 0 0x04C x.fwInv.2.2

/-- Step 3 of Table 10-9, once nothing uses a removed translation: GO clears. -/
def invDone (d : Device) : Bool × Device :=
  if d.fld 5 0 0x04C 31 1 = 1 ∧ ¬ d.xlt.invWait.any d.stillUsing then
    (true, ({ d with xlt := { d.xlt with invWait := [] } } : Device).setFld 5 0 0x04C 31 1 0)
  else (false, d)

/-- XLT_INV_COMPLETE: the command of XLT_INV_CMD, and firmware's on its own path, which XLT_INVS does not count (DESIGN CHOICE, log entry 116). -/
def invComplete (d : Device) : Device :=
  let d := (d.swapInv.invDone.2).swapInv
  match d.invDone with
  | (true, d) => d.count 5 0 0x0E8
  | (false, d) => d

/-- Whether a register is one of an invalidation command's, of which firmware has its own. -/
def ownInv (kind off : Nat) : Bool := kind = 5 && 0x044 ≤ off && off ≤ 0x04C

/-! ## Registers with behaviour of their own -/

/-- A write of CRF_FI: SITE stays while ARM = 1 (R156). -/
def fiWrite (d : Device) (n view v : Nat) : Device :=
  let armed : Bool := d.fld 19 n 0x044 8 1 = 1
  let v := if ¬ armed then v else if view = 0 then putField v 0 3 (d.fld 19 n 0x044 0 3) else v / 8 * 8
  d.plainWrite 19 n 0x044 view v

/-- A write of ALN_ID through the control matrix. -/
def alnIdWrite (d : Device) (view v : Nat) : Device :=
  let before := d.rg 8 0 0x048
  let d := d.plainWrite 8 0 0x048 view v
  let now := d.rg 8 0 0x048
  if now % 2 ^ 13 = before % 2 ^ 13 then d else d.setModuleId now

/-- A write of ALN_CFG: EN acts on the port. -/
def alnCfgWrite (d : Device) (p view v : Nat) : Device :=
  let before := d.fld 8 p 0x040 0 1
  let d := d.plainWrite 8 p 0x040 view v
  if d.fld 8 p 0x040 0 1 = before then d else d.portEnable p (before = 0)

/-- A write of BEL_CFG: a change of FREE_PERIOD discards the holdover period (R406). -/
def belCfgWrite (d : Device) (view v : Nat) : Device :=
  let before := d.fld 7 0 0x040 4 3
  let d := d.plainWrite 7 0 0x040 view v
  if d.fld 7 0 0x040 4 3 = before then d else { d with bell := { d.bell with holdover := none } }

/-- A write of SPR_CMD: GO while it reads 1 is refused. -/
def sprCmdWrite (d : Device) (view v : Nat) : Device :=
  let go : Bool := view ≤ 1 && field v 31 1 = 1
  let old := d.rg 11 0 0x044
  if go ∧ field old 31 1 = 1 then d.err 11 0 3 0x044 view
  else
    let d := d.plainWrite 11 0 0x044 view (v % 2 ^ 31)
    if go then d.sprCmd else d

/-- A write of LDG_ADOPT_CMD. -/
def adoptCmdWrite (d : Device) (view v : Nat) : Device :=
  let go : Bool := view ≤ 1 && field v 31 1 = 1
  if go ∧ d.fld 3 0 0x050 31 1 = 1 then d.err 3 0 3 0x050 view
  else
    let d := d.plainWrite 3 0 0x050 view (v % 2 ^ 31)
    if go then d.adoptCmd (d.fld 3 0 0x050 0 12) else d

/-- A write of CHN_INV. -/
def chnInvWrite (d : Device) (view v : Nat) : Device :=
  let go : Bool := view ≤ 1 && field v 31 1 = 1
  if ¬ go then d.plainWrite 4 0 0x04C view (v % 2 ^ 31)
  else if d.fld 4 0 0x04C 31 1 = 1 then d.err 4 0 3 0x04C view
  else d.chnInv (if view = 0 then v else d.rg 4 0 0x04C ||| v)

/-- A write of a register of a page but DBG, on a path that exists. -/
def regWrite (d : Device) (who : Initiator) (kind inst off view v : Nat) : Device :=
  let v := v % 2 ^ 32
  let w := if view = 0 then v else 0
  let s := if view ≤ 1 then v else 0
  if off < 0x028 then d.headerWrite kind inst off view v
  else
    match kind, off with
    | 1, 0x050 =>
      let d := if field w 1 1 = 1 then d.modeCancel else d
      if field s 0 1 = 1 then d.modeArm else d
    | 1, 0x054 => d.glbReset w
    | 1, 0x058 =>
      let d := if field w 2 1 = 1 then d.snapCancel else d
      let d := if field s 1 1 = 1 then d.snapArm else d
      if field s 0 1 = 1 then d.snapTake else d
    | 3, 0x050 => d.adoptCmdWrite view v
    | 3, 0x05C => if field w 12 1 = 1 then d.clearDir (field w 0 12) else d
    | 4, 0x04C => d.chnInvWrite view v
    | 5, 0x044 => if viaMatrix who then (d.swapInv.plainWrite 5 0 0x044 view v).swapInv else d.plainWrite 5 0 0x044 view v
    | 5, 0x048 => if viaMatrix who then (d.swapInv.plainWrite 5 0 0x048 view v).swapInv else d.plainWrite 5 0 0x048 view v
    | 5, 0x04C => if viaMatrix who then (d.swapInv.invWrite true view v).swapInv else d.invWrite false view v
    | 7, 0x040 => d.belCfgWrite view v
    | 8, 0x040 => d.alnCfgWrite inst view v
    | 8, 0x048 => d.alnIdWrite view v
    | 9, 0x040 => d.pwrCmd w (viaMatrix who)
    | 10, 0x048 => if view = 0 then d.wdogKick (field v 0 8) else d
    | 10, 0x04C => if field w 0 1 = 1 then d.raiseCause 0xC else d
    | 11, 0x044 => d.sprCmdWrite view v
    | 19, 0x040 => d.crfCmd inst w
    | 19, 0x044 => d.fiWrite inst view v
    | 21, 0x040 => if field w 0 1 = 1 then d.hkdResume else d
    | 21, o =>
      if 0x100 ≤ o ∧ (o - 0x100) % 0x40 = 0x24 then
        let n := (o - 0x100) / 0x40
        -- a GO that the channel ignores takes its whole write with it (Table 13-4)
        if field s 8 1 = 1 ∧ field w 9 1 = 0 ∧ (d.hkdState n = 1 ∨ d.hkdState n = 3) then d.hkdGo n view
        else (d.plainWrite 21 0 o view (v % 4)).hkdCtrl n (field s 8 1 = 1) (field w 9 1 = 1) view
      else d.plainWrite 21 0 o view v
    | k, o =>
      if (k = 13 ∨ k = kMbxReeve) ∧ o = 0x040 then
        (let held := (d.box inst).hold.get 0 (initiatorCode who)
         d.mbxHold inst (initiatorCode who) (match view with
          | 0 => v
          | 1 => held ||| v
          | 2 => andNot held v
          | _ => held ^^^ v))
      else if (k = 13 ∨ k = kMbxReeve) ∧ o = 0x044 then
        (if view = 0 then d.mbxPush inst (k = 13) (initiatorCode who) v else d)
      else d.plainWrite k inst o view v

/-! ## The DBG page (R515, R522, R523) -/

/-- Level an access of a DBG register needs (Table 21-3). -/
def dbgNeed (off : Nat) : Nat :=
  if off < 0x040 ∨ off = 0x05C ∨ off = 0x060 then 0
  else if off < 0x060 then 2
  else 1

/-- The memory-master address, of four bytes. -/
def mmAddr (d : Device) : Nat := d.rg 14 0 0x064 / 4 * 4 + d.rg 14 0 0x068 * 2 ^ 32

/-- An access of the memory master started, if the level permits it (R523, R524): OBSERVE permits peeks of register pages. -/
def mmStart (d : Device) (write : Bool) : Device :=
  let a := d.mmAddr
  let consume : Bool := d.fld 14 0 0x070 3 1 = 1
  let peek : Bool := !write && !consume && 0x20000000 ≤ a && a < 0x24018000
  if d.dbg.level ≥ (if peek then 1 else 2) then
    { d with dbg := { d.dbg with access := some (write, a, d.rg 14 0 0x06C, consume), discard := false } }
  else d.setFld 14 0 0x070 4 4 1

/-- A write of the DBG page: `ok`, `busy` where it may be repeated, `refused` with an ERR_CODE. -/
def dbgWrite (d : Device) (view off v : Nat) : Option Nat × Bool × Device :=
  let v := v % 2 ^ 32
  let w := if view = 0 then v else 0
  let s := if view ≤ 1 then v else 0
  let refuse (c : Nat) : Option Nat × Bool × Device := (some c, false, d)
  let good (d : Device) : Option Nat × Bool × Device := (none, false, d)
  if d.dbg.level < dbgNeed off then refuse 3
  else if off < 0x028 then good (d.headerWrite 14 0 off view v)
  else
    match off with
    | 0x040 =>
      let r := field s 0 5 + (if view = 0 then v / 2 ^ 8 * 2 ^ 8 else 0)
      if d.stepRefused r then refuse 3 else good (d.dbgRun r)
    | 0x044 =>
      let d' := d.plainWrite 14 0 0x044 view v
      let freeze : Bool := d'.fld 14 0 0x044 17 1 = 1 && d.fld 14 0 0x044 17 1 = 0
      if freeze ∧ ¬ (d.dbg.level = 3 ∧ (d.gate.lifecycle = 1 ∨ d.gate.lifecycle = 3)) then refuse 3 else good d'
    | 0x054 =>
      match d.dbgRegWrite (match view with
        | 0 => v
        | 1 => d.rg 14 0 0x054 ||| v
        | 2 => andNot (d.rg 14 0 0x054) v
        | _ => d.rg 14 0 0x054 ^^^ v) with
      | .ok d => good d
      | .error c => refuse c
    | 0x060 => if field w 2 1 = 1 ∧ d.dbg.level < 1 then refuse 3 else good (d.dbgCmd w)
    | 0x06C =>
      if d.dbg.access.isSome then (none, true, d)
      else
        let d := d.plainWrite 14 0 0x06C view v
        good (if d.fld 14 0 0x070 2 1 = 1 then d.mmStart true else d)
    | 0x070 =>
      let go : Bool := field s 0 1 = 1
      if go ∧ d.dbg.access.isSome then (none, true, d)
      else
        let d := d.plainWrite 14 0 0x070 view (v / 2 * 2)
        good (if go then d.mmStart (d.fld 14 0 0x070 1 1 = 1) else d)
    | _ => good (d.plainWrite 14 0 off view v)

/-- A read of the DBG page: its value, or the refusal; `busy` for DBG_MM_DATA while an access is in flight. -/
def dbgRead (d : Device) (who : Initiator) (off : Nat) (peek : Bool) : Option Nat × Bool × Nat × Device :=
  if d.dbg.level < dbgNeed off then (some 3, false, 0, d)
  else if d.fld 14 0 0x020 1 1 = 1 ∧ inSnap 14 off then (none, false, (d.snaps.get 0 (regKey 14 0 off)).toNat, d)
  else if peek then (none, false, d.liveReg (initiatorCode who) 14 0 off true, d)
  else
    match off with
    | 0x054 =>
      match d.dbgRegRead with
      | (some v, d) => (none, false, v, d)
      | (none, d) => (some 3, false, 0, d)
    | 0x06C =>
      if d.dbg.access.isSome then (none, true, d.rg 14 0 0x06C, d)
      else
        let v := d.rg 14 0 0x06C
        (none, false, v, if d.fld 14 0 0x070 2 1 = 1 then d.mmStart false else d)
    | _ =>
      let (v, d) := d.pairRead who 14 0 off
      (none, false, v, d)

/-! ## Accesses by page offset -/

/-- Whether an offset of a page is implemented (R476). -/
def implemented (kind inst off : Nat) : Bool := (findRow (rowsKind kind) inst off).isSome

/-- Registers whose writes act only through the control matrix (R476). -/
def matrixOnly (kind off v : Nat) : Bool :=
  (kind = 19 && off = 0x040) || (kind = 8 && off = 0x048) || (kind = 10 && off = 0x04C) || (kind = 10 && 0x0C0 ≤ off) ||
  (kind = 5 && (off = 0x050 || off = 0x054)) || (kind = 9 && off = 0x040 && field v 0 2 = 3)

/-- Whether an initiator has a path to a page (Table 13-2, R375). -/
def pathTo (d : Device) (who : Initiator) (kind inst : Nat) (write : Bool) : Bool :=
  match who with
  | .host _ fn => fn = 0 && kind ≤ 19
  | .hkd => false
  | .tally => true
  | .reeve n => if kind = 13 then false else if kind = kMbxReeve then (d.reeve n).logical = some inst else !(kind = 14 && write)

/-- A read of a page offset by an initiator. -/
def pageRead (d : Device) (who : Initiator) (off : Nat) (peek : Bool) : BusRes × Device :=
  let view := off % 0x4000 / 0x1000
  let r := off % 0x1000
  match pageOf (off / 0x4000) with
  | none => (.decode, d)
  | some (k, i) =>
    if ¬ implemented k i r ∨ ¬ d.pathTo who k i false then (.decode, d)
    else if d.pageDown k then (.err, d.err k i 4 r view)
    else
      let peek : Bool := peek || view ≠ 0
      if k = 14 then
        match d.dbgRead who r peek with
        | (some c, _, _, d) =>
          (.ok 0, if (viaMatrix who) then d else d.err 14 0 c r view)
        | (none, _, v, d) => (.ok v, d)
      else if k = 5 ∧ (r = 0x050 ∨ r = 0x054) ∧ ¬ (viaMatrix who) then (.ok 0, d)
      else
        let (v, d) := d.regRead who k i r peek
        (.ok v, d)

/-- A write of a page offset by an initiator. -/
def pageWrite (d : Device) (who : Initiator) (off v : Nat) : BusRes × Device :=
  let view := off % 0x4000 / 0x1000
  let r := off % 0x1000
  match pageOf (off / 0x4000) with
  | none => (.decode, d)
  | some (k, i) =>
    if ¬ implemented k i r ∨ ¬ d.pathTo who k i true ∨ (¬ (viaMatrix who) ∧ matrixOnly k r v) then (.decode, d)
    else if d.pageDown k then (.err, d.err k i 4 r view)
    else if (k = 13 ∨ k = kMbxReeve) ∧ r = 0x044 ∧ k = 13 ∧ view = 0 ∧ (d.servedBy i).isNone then (.err, d.regWrite who k i r view v)
    else if k = 14 then
      match d.dbgWrite view r v with
      | (some c, _, d) => (.ok 0, d.err 14 0 c r view)
      | (none, true, d) => (.ok 0, d.err 14 0 3 r view)
      | (none, false, d) => (.ok 0, d)
    else (.ok 0, d.regWrite who k i r view v)

end Device

end Sys2Proof.Machine
end

