-- ==== Sys2Proof/Machine/Bus.lean ====
section
/-! DEFINITION. The control matrix (R361 to R368): targets, paths and errors; housekeeping DMA bursts (R371 to R373); the memory
master's accesses (R523, R524). -/
namespace Sys2Proof.Machine

/-- Targets of Table 13-1, with the address in the memory map, the page offset or the module physical address. -/
inductive Target where
  | flash (a : Nat) | sram (a : Nat) | strong (a : Nat) | page (off : Nat) | window (mpa : Nat) | hole
  deriving DecidableEq, Repr

/-- The arbitration point of a target: control SRAM 512, flash 517, the Strongroom 518, the module window 519, the register pages 520, the CMX page
521, the HKD page 522 and the mailboxes 523 (R366, log entry 92). -/
def Target.arbiter : Target → Option Nat
  | .sram _ => some 512
  | .flash _ => some 517
  | .strong _ => some 518
  | .window _ => some 519
  | .page off =>
    match pageOf (off / 0x4000) with
    | some (20, _) => some 521
    | some (21, _) => some 522
    | some (13, _) => some 523
    | some (k, _) => some (if k = kMbxReeve then 523 else 520)
    | none => some 520
  | .hole => none

/-- Addresses of the register pages and of CMX, HKD and the reeve side of the mailboxes. -/
def pagesBase : Nat := 0x20000000
def pagesEnd : Nat := 0x24018000

namespace Device

/-- R361, R362: the target of a reeve physical address; the boot window shows flash, or control SRAM once REMAP is set. -/
def target (d : Device) (pa : Nat) : Target :=
  if pa < 0x1000000 then
    if d.fld 20 0 0x040 0 1 = 0 then .flash (flashBase + pa) else if pa < 0x800000 then .sram (sramBase + pa) else .hole
  else if flashBase ≤ pa ∧ pa < flashBase + 0x1000000 then .flash pa
  else if sramBase ≤ pa ∧ pa < sramBase + 0x800000 then .sram pa
  else if strongBase ≤ pa ∧ pa < strongBase + 0x400000 then .strong pa
  else if pagesBase ≤ pa ∧ pa < pagesEnd then .page (pa - pagesBase)
  else if windowBase ≤ pa ∧ pa < 2 * windowBase then .window (pa - windowBase)
  else .hole

/-- A decode error of the matrix recorded (R367). -/
def noteDecode (d : Device) (who : Initiator) (pa : Nat) (write : Bool) : Device :=
  let d := d.setRg 20 0 0x048 (initiatorCode who + ofBool write * 2 ^ 8 + 2 ^ 31)
  (((d.setRg 20 0 0x04C (pa % 2 ^ 32)).setRg 20 0 0x050 (pa / 2 ^ 32 % 2 ^ 32)).count32 20 0 0x060).event 20 0 0

/-- An error response that a reeve received (R368). -/
def noteErr (d : Device) (who : Initiator) (pa : Nat) (write : Bool) : Device :=
  match who with
  | .reeve n =>
    let d := d.setRg 20 0 0x054 (n + ofBool write * 2 ^ 8 + 2 ^ 31)
    (((d.setRg 20 0 0x058 (pa % 2 ^ 32)).setRg 20 0 0x05C (pa / 2 ^ 32 % 2 ^ 32)).count32 20 0 0x064).event 20 0 1
  | _ => d

/-- An answer with what it leaves in the CMX page. -/
def noted (who : Initiator) (pa : Nat) (write : Bool) (r : BusRes × Device) : BusRes × Device :=
  match r with
  | (.decode, d) => (.decode, d.noteDecode who pa write)
  | (.err, d) => (.err, d.noteErr who pa write)
  | r => r

/-- High-class requesters: logical reeve 0 and the memory master (R366). -/
def highClass (d : Device) (who : Initiator) : Bool :=
  match who with
  | .reeve n => (d.reeve n).logical = some 0
  | .tally => true
  | _ => false

/-- Whether the Strongroom answers: a reeve at Monitor, outside a wipe (R202, R203). -/
def strongOpen (d : Device) (who : Initiator) (monitor : Bool) : Bool :=
  match who with
  | .reeve _ => monitor && !d.gate.wiping
  | _ => false

/-- Whether a module address lies on the compute dies while they are off (R26). -/
def offAt (d : Device) (mpa : Nat) : Bool :=
  d.computeOff && (regionOf (d.ownPa mpa) = .hbm || regionOf (d.ownPa mpa) = .granary)

/-- An answer of memory as the matrix gives it. -/
def busOf : Res → BusRes
  | .ok v => .ok v
  | .poison => .poison
  | .ue => .ue
  | .lost => .lost
  | .wait => .wait
  | .err => .err
  | .hole => .decode

/-- R366: a high-class request granted at the arbiter of its target of the matrix. -/
def grantedAt (d : Device) (who : Initiator) (t : Target) : Device :=
  { d with grants := match t.arbiter with
      | some p => if d.highClass who then d.grants.set p (d.grants.get 0 p + 1) else d.grants
      | none => d.grants }

/-- R210: an access of a reeve is of the high class at the memory it reaches. -/
def granted (d : Device) (who : Initiator) (mpa : Nat) : Device :=
  match who with
  | .reeve _ => d.grant mpa
  | _ => d

/-- R26, R368: an error response of the crossing to the dies; the near side's page records it, the HKD page for housekeeping DMA, else the
CMX page. A memory address has no page offset, so OFFSET and VIEW are 0 (log entry 97). -/
def crossingErr (d : Device) (who : Initiator) : Device := d.err (if who = .hkd then kHkd else 20) 0 4 0 0

/-- A read of the Green's own stores, through their ECC check (R332, Table 7-7). -/
def readGreen (d : Device) (a n : Nat) : BusRes × Device :=
  match d.checkGreen a n with
  | (true, d) => (.ue, d)
  | (false, d) => (.ok (d.mem.readLE a n), d)

/-- One part of a read, within a 64-byte block. -/
def readPart (d : Device) (who : Initiator) (monitor fetch : Bool) (pa n : Nat) (peek : Bool) : BusRes × Device :=
  let d := d.grantedAt who (d.target pa)
  match d.target pa with
  | .flash a => d.readGreen a n
  | .sram a => d.readGreen a n
  | .strong a => if d.strongOpen who monitor then d.readGreen a n else (.err, d.securityEvent)
  | .page off => if ¬ fetch ∧ who ≠ .hkd ∧ n = 4 ∧ off % 4 = 0 then d.pageRead who off peek else (.decode, d)
  | .window m =>
    if d.offAt m then (.err, d.crossingErr who)
    else
      let (r, d) := (d.granted who m).readPa m n
      (busOf r, d)
  | .hole => (.decode, d)

/-- Parts of an access, cut at 64-byte boundaries (R365), every boundary of a target being one; an aligned 8-byte access to a register page is two
register accesses, the lower address first. -/
def busParts (pa n : Nat) : List (Nat × Nat) :=
  let first := if n = 8 ∧ pa % 8 = 0 ∧ pagesBase ≤ pa ∧ pa < pagesEnd then 4 else min n (64 - pa % 64)
  if first = n then [(pa, n)] else [(pa, first), (pa + first, n - first)]

/-- A read of 1 to 64 bytes: a part with a decode error or an error response reads zero and the read goes on. -/
def busRead (d : Device) (who : Initiator) (monitor fetch : Bool) (pa n : Nat) (peek : Bool := false) : BusRes × Device :=
  match busParts pa n with
  | [(a, k)] => noted who a false (d.readPart who monitor fetch a k peek)
  | [(a, k), (b, l)] =>
    match noted who a false (d.readPart who monitor fetch a k peek) with
    | (r, d) =>
      let go (lo : Nat) (first : Option BusRes) : BusRes × Device :=
        match noted who b false (d.readPart who monitor fetch b l peek) with
        | (.ok hi, d) => (first.getD (.ok (lo + hi * 2 ^ (8 * k))), d)
        | (.decode, d) => (first.getD (if who = .hkd ∨ who = .tally then .decode else .ok lo), d)
        | (.err, d) => (first.getD (if who = .hkd ∨ who = .tally then .err else .ok lo), d)
        | r => r
      match r with
      | .ok lo => go lo none
      | .decode => if who = .hkd ∨ who = .tally then go 0 (some .decode) else go 0 none
      | .err => if who = .hkd ∨ who = .tally then go 0 (some .err) else go 0 none
      | r => (r, d)
  | _ => (.decode, d)

/-- One part of a write. Writes through the module window pass the Green's Fence slice: a channel's windows, or the firmware windows
(R456). -/
def writePart (d : Device) (who : Initiator) (monitor : Bool) (ch : Option Nat) (pa : Nat) (bs : List Byte) : BusRes × Device :=
  let n := bs.length
  let d := d.grantedAt who (d.target pa)
  let store (a : Nat) : BusRes × Device :=
    let d := d.writeGreen a n
    (.ok 0, ({ d with mem := d.mem.writeBytes a bs } : Device).dropResv a n)
  match d.target pa with
  | .flash _ => (.decode, d)
  | .sram a => store a
  | .strong a => if d.strongOpen who monitor then store a else (.err, d.securityEvent)
  | .page off => if who ≠ .hkd ∧ n = 4 ∧ off % 4 = 0 then d.pageWrite who off (ofBytes bs) else (.decode, d)
  | .window m =>
    if d.offAt m then (.err, d.crossingErr who)
    else
      let ok : Bool := match ch with
        | some c => d.fenceOk c m n
        | none => d.fwFenceOk m n
      if ¬ ok then (.refused, d.refuseFence (ch.getD 0xFFF) greenSlice m false)
      else
        let (r, d) := (d.granted who m).writePa m bs
        (busOf r, d)
  | .hole => (.decode, d)

/-- A write of 1 to 64 bytes, in parts in ascending order; a part that is refused, lost or waits ends it. -/
def busWrite (d : Device) (who : Initiator) (monitor : Bool) (ch : Option Nat) (pa : Nat) (bs : List Byte) : BusRes × Device :=
  match busParts pa bs.length with
  | [(a, _)] => noted who a true (d.writePart who monitor ch a bs)
  | [(a, k), (b, _)] =>
    match noted who a true (d.writePart who monitor ch a (bs.take k)) with
    | (r, d) =>
      let second : BusRes × Device := noted who b true (d.writePart who monitor ch b (bs.drop k))
      match r with
      | .ok _ => second
      | .decode => (if second.1 = .ok 0 then .decode else second.1, second.2)
      | .err => (if second.1 = .ok 0 then .err else second.1, second.2)
      | r => (r, d)
  | _ => (.decode, d)

/-! ## Housekeeping DMA bursts -/

/-- R373: a bus error stops every channel. -/
def hkdError (d : Device) (n cause pa : Nat) : Device :=
  let d := d.setHkdState n 4 (d.fld kHkd 0 (hkdBase n + 0x28) 3 2) cause
  let d := (List.range 8).foldl (fun d k => if d.hkdState k = 1 then d.setFld kHkd 0 (hkdBase k + 0x28) 0 3 3 else d) d
  let d := d.setRg kHkd 0 0x044 (n + cause * 2 ^ 4 + 2 ^ 31)
  ((d.setRg kHkd 0 0x048 (pa % 2 ^ 32)).setRg kHkd 0 0x04C (pa / 2 ^ 32)).event kHkd 0 8

/-- How one 16-byte unit of a channel ends. -/
inductive UnitRes where
  | done | differs | wait | fail (cause pa : Nat)
  deriving DecidableEq, Repr

/-- Bus error cause of an answer. -/
def hkdCause : BusRes → Nat
  | .decode => 1
  | .refused => 4
  | .poison => 3
  | .ue => 3
  | .lost => 3
  | _ => 2

/-- Whether an address lies in HBM or the Granary. -/
def onModule (d : Device) (pa : Nat) : Bool :=
  match d.target pa with
  | .window m => regionOf (d.ownPa m) = .hbm || regionOf (d.ownPa m) = .granary
  | _ => false

/-- Units written in one access; a write to a LOST stack is a bus error of cause 0x2. -/
def hkdStore (d : Device) (a : Nat) (bs : List Byte) (bad : Bool) : UnitRes × Device :=
  match d.busWrite .hkd false none a bs with
  | (.ok _, d) => (.done, if bad then d.setPoison (d.ownPa (a - windowBase)) else d)
  | (.wait, d) => (.wait, d)
  | (.lost, d) => (.fail 2 a, d)
  | (r, d) => (.fail (hkdCause r) a, d)

/-- The good units of a COPY from an offset, at most `k` of them, as bytes, and the answer to the unit that ended them. -/
def hkdGather (d : Device) (n off : Nat) : Nat → List Byte × Option BusRes × Device
  | 0 => ([], none, d)
  | k + 1 =>
    match d.busRead .hkd false false (d.hkdSrc n + off) 16 with
    | (.ok v, d) =>
      let (bs, e, d) := hkdGather d n (off + 16) k
      (bytesOf 16 v ++ bs, e, d)
    | (r, d) => ([], some r, d)

/-- What one access of a channel does from an offset, and how many units it covers: up to `k` good ones within the destination's 64-byte block
written whole (R205, R365, R371), one bad one poisoned (R372), or one compared. -/
def hkdAccess (d : Device) (n off k : Nat) : Nat × UnitRes × Device :=
  let s := d.hkdSrc n + off
  let t := d.hkdDst n + off
  let k := min k (min ((64 - t % 64) / 16) ((d.hkdLen n - off) / 16))
  match d.hkdOp n with
  | 1 => (k, d.hkdStore t ((List.replicate k (bytesOf 16 (d.hkdPattern n))).flatten) false)
  | 0 =>
    match d.hkdGather n off k with
    | ([], some .wait, d) => (1, .wait, d)
    | ([], some r, d) =>
      if (r = .poison ∨ r = .ue ∨ r = .lost) ∧ d.onModule t then
        match d.hkdStore t (bytesOf 16 0) true with
        | (.done, d) => (1, .done, d.setFld kHkd 0 (hkdBase n + 0x28) 4 1 1)
        | x => (1, x)
      else (1, .fail (hkdCause r) s, d)
    | (bs, _, d) => (bs.length / 16, d.hkdStore t bs false)
  | _ =>
    (1, match d.busRead .hkd false false s 16 with
      | (.ok v, d) =>
        match d.busRead .hkd false false t 16 with
        | (.ok u, d) => (if u = v then .done else .differs, d)
        | (.wait, d) => (.wait, d)
        | (r, d) => (.fail (hkdCause r) t, d)
      | (.wait, d) => (.wait, d)
      | (r, d) => (.fail (hkdCause r) s, d))

/-- The accesses of one burst, `left` units of it to come, until the length is done or one fails. -/
def hkdUnits (d : Device) (n : Nat) : Nat → Nat → Device
  | 0, _ => d
  | fuel + 1, left =>
    let off := d.hkdDone n
    if off ≥ d.hkdLen n ∨ left = 0 then d
    else
      match d.hkdAccess n off left with
      | (k, .done, d) =>
        let d := d.setRg kHkd 0 (hkdBase n + 0x2C) (off + 16 * k)
        if off + 16 * k ≥ d.hkdLen n then d.hkdFinish n else hkdUnits d n fuel (left - k)
      | (_, .differs, d) =>
        ((d.setRg kHkd 0 (hkdBase n + 0x30) off).setHkdState n 2 1 0).event kHkd 0 n
      | (_, .wait, d) => d
      | (_, .fail c pa, d) => d.hkdError n c pa

/-- The BUSY channel whose turn it is. -/
def hkdDue (d : Device) : Option Nat := ((List.range 8).map (fun k => (d.hkdTurn + k) % 8)).find? (fun n => d.hkdState n = 1)

/-- The next 64-byte burst of a channel. -/
def hkdOne (d : Device) (n : Nat) : Device := d.hkdUnits n 4 4

/-- The burst of channel `m` that was in flight as channel `n` met its bus error: where it meets one too, both are in ERROR and HKD_ERR records the
lower channel (Table 13-4); else it stops, unless it has ended. -/
def hkdSecond (d : Device) (n m : Nat) : Device :=
  let first := (d.rg kHkd 0 0x044, d.rg kHkd 0 0x048, d.rg kHkd 0 0x04C)
  let e := (d.setFld kHkd 0 (hkdBase m + 0x28) 0 3 1).hkdOne m
  if e.hkdState m = 4 then
    if n < m then ((e.setRg kHkd 0 0x044 first.1).setRg kHkd 0 0x048 first.2.1).setRg kHkd 0 0x04C first.2.2 else e
  else if e.hkdState m = 1 then e.setFld kHkd 0 (hkdBase m + 0x28) 0 3 3
  else e

/-- HKD_BURST_RESPONSE of a channel: its next 64-byte burst, in its turn; with `both`, the burst of the BUSY channel after it answers in the same
cycle, which shows where the first meets a bus error (DESIGN CHOICE, log entry 108). -/
def hkdBurst (d : Device) (n : Nat) (both : Bool) : Device :=
  if d.power.step ≥ 3 ∧ d.hkdDue = some n then
    let next := ((List.range 7).map (fun k => (n + 1 + k) % 8)).find? (fun m => d.hkdState m = 1)
    let d := { d.hkdOne n with hkdTurn := (n + 1) % 8 }
    match both && d.hkdState n = 4, next with
    | true, some m => d.hkdSecond n m
    | _, _ => d
  else d

/-- HKD_COPY, HKD_FILL and HKD_COMPARE: GO written with the operation. -/
def hkdStart (d : Device) (who : Initiator) (n op : Nat) : Device :=
  if n < 8 ∧ d.power.step ≥ 3 then
    let off := 0x4004000 + hkdBase n + 0x24
    (noted who (pagesBase + off) true ((d.grantedAt who (.page off)).pageWrite who off (op + 2 ^ 8))).2
  else d

/-! ## The memory master -/

/-- An access done: ADDR advances, ERR and the data are set, MM_DONE is raised; a Debug reset discards it. -/
def mmFinish (d : Device) (data : Option Nat) (errc : Nat) : Device :=
  if d.dbg.discard then { d with dbg := { d.dbg with access := none, discard := false } }
  else
    let a := (d.mmAddr + 4) % 2 ^ 64
    let d : Device := { d with dbg := { d.dbg with access := none } }
    let d := ((d.setRg 14 0 0x064 (a % 2 ^ 32)).setRg 14 0 0x068 (a / 2 ^ 32)).setFld 14 0 0x070 4 4 errc
    (match data with
      | some v => d.setRg 14 0 0x06C v
      | none => d).event 14 0 2

/-- MM_ACCESS_DONE: the access in flight completes. -/
def mmDone (d : Device) : Device :=
  match d.dbg.access with
  | none => d
  | some (write, a, v, consume) =>
    if d.power.step < 3 then d.mmFinish (if write then none else some 0) 2
    else
      match (if write then d.busWrite .tally false none a (bytesOf 4 v) else d.busRead .tally false false a 4 (!consume)) with
      | (.ok x, d) => d.mmFinish (if write then none else some x) 0
      | (.decode, d) => d.mmFinish (if write then none else some 0) 0
      | (.refused, d) => d.mmFinish none 4
      | (.wait, d) => d
      | (_, d) => d.mmFinish (if write then none else some 0) 2

/-! ## Tally frames (R513, R514) -/

/-- TALLY_READ_FRAME and TALLY_WRITE_FRAME: HDR, the data of a write, and the check byte as received; ACK 0 OK, 1 BUSY, 2 REFUSED. -/
def tallyFrame (d : Device) (write : Bool) (hdr wdata rcrc : Nat) : Device :=
  if ¬ d.power.vnw ∨ ¬ d.dbg.inStep then d
  else
    let hdr := hdr % 256
    let body := if write then hdr + wdata % 2 ^ 32 * 2 ^ 8 else hdr
    let off := field hdr 2 6 * 4
    let refuse (d : Device) (c : Nat) : Device := (d.err 14 0 c off 0).emit (.tally 2 0 0)
    if rcrc ≠ crc8 body (if write then 40 else 8) ∨ field hdr 1 1 = 1 ∨ field hdr 0 1 ≠ ofBool write then refuse d 1
    else if ¬ implemented 14 0 off then
      -- an unimplemented register is a decode error: zero data, the write ignored
      let d := d.noteDecode .tally (0x20050000 + off) write
      d.emit (.tally 0 0 (if write then 0 else crc8 0 32))
    else if write then
      match d.dbgWrite 0 off wdata with
      | (some c, _, _) => refuse d c
      | (none, true, _) => d.emit (.tally 1 0 0)
      | (none, false, d) => d.emit (.tally 0 0 0)
    else
      match d.dbgRead .tally off false with
      | (some c, _, _, _) => refuse d c
      | (none, true, _, _) => d.emit (.tally 1 0 0)
      | (none, false, v, d) => d.emit (.tally 0 v (crc8 v 32))

end Device

end Sys2Proof.Machine
end

