-- ==== Sys2Proof/Machine/HostLink.lean ====
section
/-! DEFINITION. Host accesses: BARs and doorbell pages, configuration space, MSI-X, HDM and CXL.mem, snoops and link waits
(chapters 8 and 14). -/
namespace Sys2Proof.Machine

/-- Whether a port has a feature (Table 14-2); one that it has not is in no capability structure. -/
def featureThere : Feature → Bool
  | .hdmDb | .multiLogical | .portRouting | .ats | .pri | .pasid | .msi | .intx => false
  | .ide | .doe | .extendedTags | .tenBitTags | .relaxedOrdering | .idOrdering | .aer | .memPoison => true

/-- Payload and read request sizes of a function in bytes; not written yet, they are PCI Express's (Table 14-2; PRESUMED, log entry 124). -/
def HostPort.maxPayload (h : HostPort) (fn : Nat) : Nat := h.payload.get 128 fn
def HostPort.maxReadRequest (h : HostPort) (fn : Nat) : Nat := h.readSize.get 512 fn

/-- A BAR of a function, 0 until it is written (Table 14-3). -/
def HostPort.barOf (h : HostPort) (fn bar : Nat) : Nat := h.bars.get 0 (8 * fn + bar)

namespace Device

/-! ## Doorbell pages (chapter 8) -/

def chStateCode : ChState → Nat
  | .off => 0
  | .enabling => 1
  | .run => 2
  | .paused => 3
  | .draining => 4
  | .broken => 5

/-- CHN_DB_STATUS. -/
def dbStatus (d : Device) (ch : Nat) : Nat :=
  let c := d.chan ch
  chStateCode c.st + ofBool c.cmdBusy * 8 + ofBool c.cmdIgnored * 16 + ofBool c.shRefused * 32 + ofBool c.entry.isSome * 64 +
    ofBool ((d.jobsOf ch).any (fun e => e.2.st = .parked)) * 128 + ofBool c.wbFailed * 256

/-- A doorbell register as it reads; none at an offset that is not implemented. -/
def dbShow (d : Device) (ch off : Nat) : Option Nat :=
  let c := d.chan ch
  match off with
  | 0x000 => some c.tail
  | 0x004 => some c.accept
  | 0x008 => some c.done
  | 0x00C => some c.crHead
  | 0x010 => some c.fqTail
  | 0x014 => some c.fqHead
  | 0x018 => some (d.dbStatus ch)
  | 0x01C => some 0
  | 0x020 => some c.shShare
  | 0x024 => some c.shMode
  | 0x028 => some (ofBool c.pend.isSome)
  | 0x030 => some (c.seq % 2 ^ 32)
  | 0x034 => some (c.seq / 2 ^ 32)
  | 0x040 => some c.refused
  | 0x044 => some c.deadlines
  | 0x048 => some c.fqWaits
  | 0x0C0 => some c.snap.1
  | 0x0C4 => some c.snap.2.1
  | 0x0C8 => some c.snap.2.2
  | _ => none

/-- COMMIT (R240). -/
def commit (d : Device) (ch v : Nat) : Device :=
  if field v 0 1 = 1 then d.upChan ch (fun c => { c with pend := some (c.shShare, c.shMode) }) else d

/-- A write of CHN_DB_CMD (R239). -/
def chanCmd (d : Device) (ch v : Nat) : Device :=
  match field v 0 3 with
  | 1 => d.enableChan ch
  | 2 => d.pauseChan ch
  | 3 => d.resumeChan ch
  | 4 => d.abortChan ch
  | 5 => d.drainChan ch
  | _ => d.ignoreCmd ch

/-- A write of a doorbell register by its owner. -/
def dbPut (d : Device) (ch off v : Nat) : Device :=
  let v := v % 2 ^ 32
  match off with
  | 0x000 => d.doorbell ch v
  | 0x00C => d.crHeadWrite ch v
  | 0x014 => d.fqHeadWrite ch v
  | 0x018 => d.upChan ch (fun c => { c with cmdIgnored := c.cmdIgnored && !v.testBit 4, shRefused := c.shRefused && !v.testBit 5
                                            wbFailed := c.wbFailed && !v.testBit 8 })
  | 0x01C => d.chanCmd ch v
  | 0x020 => d.upChan ch (fun c => { c with shShare := v % 2 ^ 24 })
  | 0x024 => d.upChan ch (fun c => { c with shMode := v % 2 ^ 10 })
  | 0x028 => d.commit ch v
  | _ => d

/-- Whether a function of a port may make a memory request (R385, R395, Table 14-1). -/
def hostMay (d : Device) (p fn : Nat) (write : Bool) : Bool :=
  p < 2 && (d.host p).up && d.fnEnabled p fn && !(d.host p).d3.contains fn && !(write && d.ideBlocked p)

/-- A write to the doorbell page of a channel by a function of a port. -/
def dbWrite (d : Device) (p fn ch off v : Nat) : Device :=
  if ¬ d.hostMay p fn true ∨ ch ≥ 4096 then d
  else if d.ready ∧ (d.dbShow ch off).isNone then d.decodeErr p fn 1 (ch * 0x1000 + off) true
  else d.doorbellBy p fn ch off true (fun d => d.dbPut ch off v)

/-- Latch key of CHN_DB_SEQ_HI (R485). -/
def seqLatch (p fn ch : Nat) : Nat := latchKey (whoKey (.host p fn)) (100000000 + ch)

/-- A read of the doorbell page of a channel. -/
def dbRead (d : Device) (p fn ch off : Nat) : Nat × Device :=
  if ¬ d.ready then (0, d)
  else
    match d.dbShow ch off with
    | none => (0, d.decodeErr p fn 1 (ch * 0x1000 + off) false)
    | some v =>
      let owner := d.chanOwner ch
      let d := d.lookOwner ch
      if owner ≠ some (p, fn) then (0, d.decodeErr p fn 1 (ch * 0x1000 + off) false)
      else if off = 0x030 then (v, { d with latches := d.latches.set (seqLatch p fn ch) (BitVec.ofNat 32 ((d.chan ch).seq / 2 ^ 32)) })
      else if off = 0x034 then
        match d.latches.find? (seqLatch p fn ch) with
        | some hi => (hi.toNat, { d with latches := d.latches.erase (seqLatch p fn ch) })
        | none => (v, d)
      else (v, d)

/-! ## BAR accesses (R386, R435, R476, R477) -/

/-- An access of a host that met an error response (R386). -/
def hostErr (d : Device) (p : Nat) : Device := (d.count 6 p 0x078).event 6 p 2

/-- A 4-byte read of BAR0: every register page for the PF, the GLB page for a VF. -/
def bar0Read (d : Device) (p fn off : Nat) : Nat × Device :=
  let reg := off % 0x1000
  let glb : Bool := off < 0x4000
  let vf := if fn ≠ 0 ∧ reg = 0x00C then 2 ^ 12 else 0
  if ¬ d.ready then
    (if glb ∧ (reg = 0x000 ∨ reg = 0x004 ∨ reg = 0x00C) then d.liveReg (0x10 + p) 1 0 reg true + vf else 0, d)
  else if fn = 0 then
    match d.pageRead (.host p 0) off false with
    | (.ok v, d) => (v, d)
    | (.err, d) => (0, d.hostErr p)
    | (_, d) => (0, d.decodeErr p 0 0 off false)
  else if glb ∧ implemented 1 0 reg then
    let (v, d) := d.regRead (.host p fn) 1 0 reg (off ≥ 0x1000)
    (v + vf, d)
  else (0, d.decodeErr p fn 0 off false)

/-- A 4-byte write of BAR0. -/
def bar0Write (d : Device) (p fn off v : Nat) : Device :=
  if ¬ d.ready then d
  else if fn ≠ 0 then d.decodeErr p fn 0 off true
  else
    match d.pageWrite (.host p 0) off v with
    | (.ok _, d) => d
    | (.err, d) => d.hostErr p
    | (_, d) => d.decodeErr p 0 0 off true

/-! ## MSI-X (R393, R394) -/

/-- Entry of a vector: address, data and vector control; the mask bit, bit 96, is set at reset as PCIe has it. -/
def msixEntry (h : HostPort) (fn vec : Nat) : Nat := h.msix.get (2 ^ 96) (fn * 2048 + vec)

/-- Whether a vector's message may leave. -/
def msixOpen (h : HostPort) (fn vec : Nat) : Bool :=
  h.msixEn.contains fn && !h.fnMask.contains fn && !(msixEntry h fn vec).testBit 96

/-- MSIX_MESSAGE: the oldest message owed on a port is sent, or its PBA bit set. -/
def msixMessage (d : Device) (p : Nat) : Device :=
  let h := d.host p
  match h.msgs with
  | [] => d
  | (fn, vec) :: rest =>
    let key := fn * 2048 + vec
    if msixOpen h fn vec then (d.setHost p { h with msgs := rest }).emit (.msix p fn vec)
    else d.setHost p { h with msgs := rest, pba := if h.pba.contains key then h.pba else h.pba ++ [key] }

/-- Pending vectors of a function that have become open send one message each. -/
def sendPending (d : Device) (p fn : Nat) : Device :=
  let h := d.host p
  let go := h.pba.filter (fun k => k / 2048 = fn && msixOpen h fn (k % 2048))
  let d := d.setHost p { h with pba := h.pba.filter (fun k => !go.contains k) }
  go.foldl (fun d k => d.emit (.msix p fn (k % 2048))) d

/-- MSIX_TABLE_WRITE: 4 bytes of BAR4; the PBA is read-only. -/
def msixWrite (d : Device) (p fn off v : Nat) : Device :=
  let h := d.host p
  if ¬ (p < 2 ∧ h.up ∧ d.fnEnabled p fn ∧ ¬ h.d3.contains fn ∧ ¬ d.ideBlocked p) ∨ off % 4 ≠ 0 ∨ off ≥ 0x8000 then d
  else
    let key := fn * 2048 + off / 16
    let e := putField (msixEntry h fn (off / 16)) (off % 16 * 8) 32 v
    (d.setHost p { h with msix := h.msix.set key e }).sendPending p fn

/-- 4 bytes of BAR4 as they read: the table, then the PBA from 0x8000, a bit for each vector (Table 14-3). -/
def msixRead (h : HostPort) (fn off : Nat) : Nat :=
  if off < 0x8000 then field (msixEntry h fn (off / 16)) (off % 16 * 8) 32
  else (List.range 32).foldl (fun v k => v + ofBool (h.pba.contains (fn * 2048 + (off - 0x8000) * 8 + k) && decide ((off - 0x8000) * 8 + k < 2048)) * 2 ^ k) 0

/-! ## Requests -/

/-- The 4-byte accesses of a request, in address order. -/
def barReads (d : Device) (p fn bar off : Nat) : Nat → List Byte × Device
  | 0 => ([], d)
  | n + 1 =>
    let (bs, d) := barReads d p fn bar off n
    let a := off + 4 * n
    let (v, d) :=
      if bar = 0 then d.bar0Read p fn a
      else if bar = 2 then d.dbRead p fn (a / 0x1000) (a % 0x1000)
      else (msixRead (d.host p) fn a, d)
    (bs ++ bytesOf 4 v, d)
def barWrites (d : Device) (p fn bar off : Nat) (data : List Byte) : Nat → Device
  | 0 => d
  | n + 1 =>
    let d := barWrites d p fn bar off data n
    let a := off + 4 * n
    let v := ofBytes ((data.drop (4 * n)).take 4)
    if bar = 0 then d.bar0Write p fn a v else if bar = 2 then d.dbWrite p fn (a / 0x1000) (a % 0x1000) v else d.msixWrite p fn a v

/-- Size of a BAR for a function (Table 14-3). -/
def barSize (bar fn : Nat) : Nat := if bar = 4 then 0x10000 else if bar = 2 then 0x1000000 else if fn = 0 then 0x4000000 else 0x4000

/-- BAR_ACCESS: a request of `len` bytes to BAR0, BAR2 or BAR4, a write where it carries data. One that is not whole naturally aligned
4-byte accesses is a decode error (R365); in BAR4, of which no rule says so, it reads zero or is dropped (DESIGN CHOICE, log entry 121). -/
def barAccess (d : Device) (p fn bar off len : Nat) (wdata : Option (List Byte)) : Device :=
  if ¬ d.hostMay p fn wdata.isSome ∨ (bar ≠ 0 ∧ bar ≠ 2 ∧ bar ≠ 4) ∨ off + len > barSize bar fn ∨ len > 4096 then d
  else if off % 4 ≠ 0 ∨ len % 4 ≠ 0 then
    let d := if d.ready ∧ bar ≠ 4 then d.decodeErr p fn (bar / 2) off wdata.isSome else d
    if wdata.isSome then d else d.emit (.barData p (bytesOf len 0))
  else
    match wdata with
    | some data => d.barWrites p fn bar off (data.take len) (len / 4)
    | none =>
      let (bs, d) := d.barReads p fn bar off (len / 4)
      d.emit (.barData p bs)

/-- A register write by any initiator: a host's through BAR0 of its function, the others through the control matrix. -/
def writeReg (d : Device) (who : Initiator) (kind inst off view v : Nat) : Device :=
  let a := regKey kind inst off + view % 4 * 0x1000
  match who with
  | .host p fn => if d.hostMay p fn true ∧ a + 4 ≤ barSize 0 fn then d.bar0Write p fn a v else d
  | _ =>
    if d.power.step < 3 then d
    else (noted who (pagesBase + a) true ((d.grantedAt who (.page a)).pageWrite who a v)).2

/-- A register read by any initiator; a host's answer leaves on its port. -/
def readReg (d : Device) (who : Initiator) (kind inst off view : Nat) : Nat × Device :=
  let a := regKey kind inst off + view % 4 * 0x1000
  match who with
  | .host p fn =>
    if d.hostMay p fn false ∧ a + 4 ≤ barSize 0 fn then
      let (v, d) := d.bar0Read p fn a
      (v, d.emit (.barData p (bytesOf 4 v)))
    else (0, d)
  | _ =>
    if d.power.step < 3 then (0, d)
    else
      match noted who (pagesBase + a) false ((d.grantedAt who (.page a)).pageRead who a false) with
      | (.ok v, d) => (v, d)
      | (_, d) => (0, d)

/-! ## Configuration space (R383 to R385, R391) -/

/-- A member added to or taken from a list of functions. -/
def member (l : List Nat) (k : Nat) (on : Bool) : List Nat := if on then (if l.contains k then l else l ++ [k]) else l.filter (· ≠ k)

/-- A write of a function that is ready. VF Enable cleared disables every VF of the port; NumVFs is fixed while it is set. A feature that is not there
has no field to write, and a size outside Table 14-2 is not set (R384); a BAR keeps its size's low bits zero. -/
def configSet (d : Device) (p fn : Nat) (f : ConfigField) (v : Nat) : Device :=
  let h := d.host p
  let on : Bool := v % 2 = 1
  match f with
  | .busMaster => d.setHost p { h with busMaster := member h.busMaster fn on }
  | .powerState => d.setHost p { h with d3 := member h.d3 fn (v % 4 = 3) }
  | .msixEnable => (d.setHost p { h with msixEn := member h.msixEn fn on }).sendPending p fn
  | .functionMask => (d.setHost p { h with fnMask := member h.fnMask fn on }).sendPending p fn
  | .vfEnable =>
    if fn ≠ 0 then d
    else if on then d.setHost p { h with vfEnable := true }
    else
      let pf (l : List Nat) : List Nat := l.filter (· = 0)
      d.setHost p { h with
        vfEnable := false, busMaster := pf h.busMaster, msixEn := pf h.msixEn, fnMask := pf h.fnMask, d3 := pf h.d3
        msix := h.msix.filter (fun e => e.1 < 2048), pba := h.pba.filter (· < 2048), readyFns := pf h.readyFns
        features := h.features.filter (fun e => e.1 = 0), payload := h.payload.filter (fun e => e.1 = 0)
        readSize := h.readSize.filter (fun e => e.1 = 0), bars := h.bars.filter (fun e => e.1 < 8) }
  | .numVfs => if fn = 0 ∧ ¬ h.vfEnable ∧ v ≤ 63 then d.setHost p { h with numVfs := v } else d
  | .cacheEnable => if fn = 0 then d.setHost p { h with cacheEn := on, waitOver := false } else d
  | .memEnable => if fn = 0 then d.setHost p { h with memEn := on } else d
  | .uioEnable => if fn = 0 then d.setHost p { h with uioEn := on } else d
  | .maxPayload => if v = 128 ∨ v = 256 ∨ v = 512 then d.setHost p { h with payload := h.payload.set fn v } else d
  | .maxReadRequest => if [128, 256, 512, 1024, 2048, 4096].contains v then d.setHost p { h with readSize := h.readSize.set fn v } else d
  | .feature f =>
    if featureThere f then d.setHost p { h with features := if on then h.features.filter (· ≠ (fn, f)) ++ [(fn, f)] else h.features.filter (· ≠ (fn, f)) }
    else d
  | .bar n =>
    if n = 0 ∨ n = 2 ∨ n = 4 then d.setHost p { h with bars := h.bars.set (8 * fn + n) (v % 2 ^ 64 / barSize n fn * barSize n fn) } else d

/-- CONFIGURATION_SPACE_WRITE. Until a function is ready its port answers Request Retry Status (R383); when, within 900 ms of the release of PERST#,
is not stated, so that each request finds it ready or not by a free value until one does (DESIGN CHOICE, log entry 120). -/
def configWrite (d : Device) (p fn : Nat) (f : ConfigField) (v : Nat) : Device :=
  let h := d.host p
  if ¬ (p < 2 ∧ h.up ∧ d.fnEnabled p fn) then d
  else if h.readyFns.contains fn then (d.configSet p fn f v).emit (.config p fn false)
  else
    let (r, d) := d.takeFree 1
    if r = 0 then d.emit (.config p fn true)
    else ((d.setHost p { h with readyFns := h.readyFns ++ [fn] }).configSet p fn f v).emit (.config p fn false)

/-! ## HDM and CXL.mem (R387, R388, R553) -/

/-- HDM_COMMIT: base and size in bytes. -/
def hdmCommit (d : Device) (p base size ways : Nat) : Device :=
  let h := d.host p
  if ¬ (p < 2 ∧ h.up) then d
  else if ways = 1 ∧ base % 0x10000000 = 0 ∧ size % 0x10000000 = 0 ∧ 0 < size ∧ size ≤ hbmSize then
    d.setHost p { h with hdm := some (base, size), hdmError := false }
  else d.setHost p { h with hdm := none, hdmError := true }

/-- HBM address of a host address in a port's decoder. -/
def hdmAddr (d : Device) (p hpa : Nat) : Option Nat :=
  let h := d.host p
  match h.hdm with
  | some (b, s) => if p < 2 ∧ h.up ∧ h.memEn ∧ b ≤ hpa ∧ hpa < b + s then some ((hpa - b) / 64 * 64) else none
  | none => none

/-- A request before Memory_Active, or held back by IDE_REQUIRE. -/
def hdmEarly (d : Device) (p : Nat) : Device := (d.count 6 p 0x080).event 6 p 3

/-- CXL_MEM_READ of a 64-byte line. Poison, an uncorrectable error and a LOST stack answer poison (R206). -/
def memRead (d : Device) (p hpa : Nat) : Device :=
  match d.hdmAddr p hpa with
  | none => d
  | some a =>
    if ¬ d.power.memActive ∨ d.ideBlocked p then (d.hdmEarly p).emit (.memData p [] true)
    else
      let d := d.count 6 p 0x088
      if d.inReserved a 64 then d.emit (.memData p [] true)
      else
        match d.readPa a 64 with
        | (.ok v, d) => d.emit (.memData p (bytesOf 64 v) false)
        | (_, d) => d.emit (.memData p [] true)

/-- The runs of enabled bytes of a 64-byte line, as (first, length). -/
def enabledRuns (enables : Nat) : List (Nat × Nat) :=
  (List.range 64).foldl (fun rs k =>
    if enables.testBit k then
      (match rs with
       | (a, n) :: rest => if a + n = k then (a, n + 1) :: rest else (k, 1) :: rs
       | [] => [(k, 1)])
    else rs) []

/-- CXL_MEM_WRITE of the enabled bytes of a 64-byte line, with poison or without: poison falls on every unit written (R205). -/
def memWrite (d : Device) (p hpa enables data : Nat) (poison : Bool) : Device :=
  match d.hdmAddr p hpa with
  | none => d
  | some a =>
    if ¬ d.power.memActive ∨ d.ideBlocked p then (d.hdmEarly p).emit (.memDone p)
    else if d.inReserved a 64 ∨ d.rangeLost a 64 then ((d.count 6 p 0x0A0).event 6 p 6).emit (.memDone p)
    else
      let d := (enabledRuns enables).foldl (fun (d : Device) (r : Nat × Nat) =>
        let d := (d.writePa (a + r.1) (bytesOf r.2 (data / 2 ^ (8 * r.1)))).2
        if poison then (unitsOf (a + r.1) r.2).foldl (fun d u => d.setPoison u) d else d) d
      (d.count 6 p 0x090).emit (.memDone p)

/-! ## Snoops and waits (R390, R397) -/

/-- H2D_SNOOP of a host line: every line kept is clean; `inval` takes it from the cache. -/
def snoop (d : Device) (p line : Nat) (inval : Bool) : Device :=
  let h := d.host p
  if ¬ (p < 2 ∧ h.up ∧ h.cacheEn) then d
  else
    let l := (hostBase p + line) / 64 * 64
    (d.setHost p (if inval then { h with lines := h.lines.filter (· ≠ l) } else h)).emit (.snoop p (h.lines.contains l))

/-- LINK_WAIT_EXPIRY: a request that waits for a port gets an error response. -/
def linkWaitOver (d : Device) (p : Nat) : Device :=
  if p < 2 ∧ ¬ d.hostServes p then d.setHost p { d.host p with waitOver := true } else d

end Device

end Sys2Proof.Machine
end

