-- ==== Sys2Proof/Machine/BellCommands.lean ====
section
/-! DEFINITION. Bell time: the meaning of each command, one line over the operations of the module. -/
namespace Sys2Proof.Machine

/-- BELL_FRAME (R409). -/
def execBellFrame (v interval : Nat) (s : State) : Answer := s.act (fun d => d.bellFrame v interval)
/-- ALNAR_MARK (R412). -/
def execAlnarMark (p stroke period : Nat) (free : Bool) (hops origin interval : Nat) (s : State) : Answer :=
  s.act (fun d => d.alnarMark p { stroke := stroke, period := period, free := free, hops := hops, origin := origin } interval)
/-- FREE_STROKE (R406). -/
def execFreeStroke (s : State) : Answer := s.act (fun d => d.freeStroke)
/-- SOURCE_LOST (R407). -/
def execSourceLost (s : State) : Answer := s.act (fun d => d.sourceLost)
/-- TIMING_EXCHANGE (R411). -/
def execTimingExchange (p echo r2 : Nat) (s : State) : Answer := s.act (fun d => d.timingExchange p echo r2)
/-- BEL_CFG_WRITE (R425). -/
def execBelCfgWrite (i : Initiator) (v : Nat) (s : State) : Answer := s.act (fun d => d.writeReg i 7 0 0x040 0 v)

end Sys2Proof.Machine
end

