-- ==== Sys2Proof/Machine/ReeveMem.lean ====
section
/-! DEFINITION. A reeve's accesses: translation (Table 11-5), loads, stores and atomics (R311, R322, R325, R328), instruction fetch
(R331, R332), and the staged stores of a journaled CONTROL job (R267). -/
namespace Sys2Proof.Machine

/-- How an access of a reeve ends: a value, a fault of Table 12-3 with DETAIL and FADDR, or not yet. -/
inductive Acc where
  | ok (v : Nat) | fault (code detail faddr : Nat) | wait
  deriving DecidableEq, Repr

/-- Where a translated access goes: a reeve physical address, or a module physical address of a channel. -/
inductive Place where
  | reeve (a : Nat) | chan (ch a : Nat)
  deriving DecidableEq, Repr

/-- A reeve's translation. -/
inductive RX where
  | ok (p : Place) (se : Bool) | cause (c : Nat) | wait | lost
  deriving DecidableEq, Repr

/-- One part of an access: the address that a translation fault of it reports, its own address, its bytes, and where it goes once translated, with
whether that lies on a side-effect page. -/
structure Part where
  faddr : Nat
  va : Nat
  n : Nat
  place : Place := .reeve 0
  se : Bool := false
  deriving DecidableEq, Repr

/-- Translated parts of an access; a translation fault with whether a part that was translated lies on a side-effect page. -/
inductive RXs where
  | ok (ps : List Part) | cause (c faddr : Nat) (se : Bool) | wait | lost (faddr : Nat)
  deriving DecidableEq, Repr

/-- Whether any part lies on a side-effect page. -/
def anySide (ps : List Part) : Bool := ps.any (·.se)

/-- R325: an access within one aligned 8-byte word is one part, and one that crosses such a boundary is two; a 16-byte element is one. -/
def wordParts (va n : Nat) : List Part :=
  let second := (va + (8 - va % 8)) % 2 ^ 64
  if n > 8 ∨ va % 8 + n ≤ 8 then [{ faddr := va, va := va, n := n }]
  else [{ faddr := va, va := va, n := 8 - va % 8 }, { faddr := second, va := second, n := n - (8 - va % 8) }]

/-- A block cut at 64-byte boundaries: a translation fault of a group reports the group (R320), one of a frame its own part. -/
def blockParts (at_ size : Nat) (va : Nat) : Nat → Nat → List Part
  | 0, _ => []
  | fuel + 1, n => if n = 0 then [] else
      let k := min n (64 - va % 64)
      { faddr := if size > 64 then va else at_, va := va, n := k } :: blockParts at_ size ((va + k) % 2 ^ 64) fuel (n - k)

/-- The parts of a block. -/
def partsOf (va n : Nat) : List Part := blockParts va n va 4 n

/-- DETAIL of a memory error (Table 12-3): 1 poison, 3 a LOST stack. -/
def errDetail : BusRes → Nat
  | .poison => 1
  | .ue => 2
  | _ => 3

/-- Bytes laid over a value read at `pa`. -/
def layOver (cells : List (Nat × Byte)) (pa n v : Nat) : Nat :=
  (List.range n).foldl (fun v k => match Map.find? cells (pa + k) with
    | some b => putField v (8 * k) 8 b.toNat
    | none => v) v

/-- Bytes of a place with the address kept apart from the others by kind. -/
def Place.offset (p : Place) (k : Nat) : Place :=
  match p with
  | .reeve a => .reeve (a + k)
  | .chan ch a => .chan ch (a + k)

namespace Device

/-! ## Translation (Table 11-5, R321, R322) -/

/-- Space of the firmware half; its root is XLT_FW_ROOT. -/
def fwSpace : Space := { asid := 0, root := 0, depth := 1 }

/-- One translation of reeve `n` at a privilege; `borrow` marks the forms of R322. -/
def reeveXlate (d : Device) (n priv : Nat) (borrow : Bool) (va : Nat) (acc : Access) : RX × Device :=
  let r := d.reeve n
  let user : Bool := priv = 0 || borrow
  if ¬ r.tr ∧ ¬ borrow then (.ok (.reeve va) false, d)
  else if inFwHalf va ∧ ¬ user then
    match d.xlate fwSpace va acc { user := false } false with
    | (.pa a se, d) => (.ok (.reeve a) se, d)
    | (.cause c, d) => (.cause c, d)
    | (.wait, d) => (.wait, d)
    | (.lost, d) => (.lost, d)
  else
    match d.boundChan n with
    | none => (.cause 0x07, (d.count 5 0 0x0C0).countFault)
    | some ch =>
      let away : Bool := (d.chan ch).origin.isSome
      match d.xlate (entSpace (d.entry ch)) va acc { user := user } away with
      | (.pa a se, d) =>
        let a := d.ownPa a
        if d.awayLost ch a then (.lost, d) else (.ok (.chan ch a) se, d)
      | (.cause c, d) => (.cause c, d)
      | (.wait, d) => (.wait, d)
      | (.lost, d) => (.lost, d)

/-- Parts translated in order, all of them, so that what each meets is known: a wait, then the first fault, then a walk that memory lost (R345). -/
def reeveXlates (d : Device) (n priv : Nat) (borrow : Bool) (acc : Access) : List Part → RXs × Device
  | [] => (.ok [], d)
  | p :: rest =>
    let (r, d) := d.reeveXlate n priv borrow p.va acc
    let (rs, d) := reeveXlates d n priv borrow acc rest
    (match r, rs with
      | .wait, _ => .wait
      | _, .wait => .wait
      | .cause c, .ok ps => .cause c p.faddr (anySide ps)
      | .cause c, .cause _ _ se => .cause c p.faddr se
      | .cause c, .lost _ => .cause c p.faddr false
      | .ok _ se, .cause c a s => .cause c a (se || s)
      | .lost, .cause c a s => .cause c a s
      | .lost, _ => .lost p.va
      | .ok _ _, .lost a => .lost a
      | .ok q se, .ok ps => .ok ({ p with place := q, se := se } :: ps), d)

/-! ## The staged stores of a journaled CONTROL job (R267) -/

/-- The journaled CONTROL job that a place belongs to, if it does. -/
def stagingJob (d : Device) (n : Nat) (p : Place) : Option (Nat × Job) :=
  match p with
  | .reeve _ => none
  | .chan _ _ => (d.boundJob n).filter (fun e => d.journaledControl e.2)

/-- Staged values laid over a value read. -/
def withStaged (d : Device) (n : Nat) (p : Place) (k v : Nat) : Nat :=
  match p, d.stagingJob n p with
  | .chan _ a, some (_, j) => layOver j.stageCells a k v
  | _, _ => v

/-- Bytes staged, the later one kept. -/
def stageBytes (d : Device) (tag a : Nat) (bs : List Byte) : Device :=
  d.upJob tag (fun j => { j with stageCells := (bs.zipIdx).foldl (fun (m : Map Byte) c => Map.set m (a + c.2) c.1) j.stageCells })

/-- The translation that a staged store goes through kept, for an invalidation waits for such a store (R302). -/
def stagedThrough (d : Device) (ch tag va : Nat) : Device :=
  match d.tlbFind false (entSpace (d.entry ch)).asid va [0, 1, 2] with
  | some (e, _) => d.upJob tag (fun j => { j with stagePages := if j.stagePages.contains e then j.stagePages else j.stagePages ++ [e] })
  | none => d

/-- Whether every byte of a value at a place is staged: the destination is then not read. -/
def allStaged (d : Device) (n : Nat) (p : Place) (k : Nat) : Bool :=
  match p, d.stagingJob n p with
  | .chan _ a, some (_, j) => (List.range k).all (fun b => (Map.find? j.stageCells (a + b)).isSome)
  | _, _ => false

/-! ## One part -/

/-- A write that the Fence refuses through a bound channel ends its job, from whatever privilege it is made (R311). -/
def fenceStop (d : Device) (n : Nat) : Device :=
  match d.boundJob n with
  | some (tag, _) => d.upJob tag (fun j => { j with stop := some (stopping j { status := stFenceViolation }) })
  | none => d

/-- A far write or atomic of the reeve is its job's: the job's record waits for the answer (R19). -/
def ownBus (n a : Nat) (r : BusRes × Device) : BusRes × Device :=
  match r.2.boundJob n with
  | some (tag, _) => (r.1, r.2.ownFar tag a)
  | none => r

/-- One part of a load. A load that an error response answers reads zero (R368); one that a host port could not serve is as a LOST
stack is (R392). A data error comes before the refusal of the reserved range (R345). -/
def readPlace (d : Device) (n : Nat) (monitor fetch : Bool) (va : Nat) (p : Place) (k : Nat) : Acc × Device :=
  let answer (bound : Bool) (r : BusRes × Device) : Acc × Device :=
    match r with
    | (.ok v, d) => (.ok (d.withStaged n p k v), d)
    | (.wait, d) => (.wait, d)
    | (.busy, d) => (.wait, d)
    | (.decode, d) => (.ok 0, d)
    | (.err, d) => if bound then (.fault 0x07 3 va, d) else (.ok 0, d)
    | (.refused, d) => (.fault 0x0D 0 va, d)
    | (e, d) => (.fault 0x07 (errDetail e) va, d)
  match p with
  | .reeve a => answer false (d.busRead (.reeve n) monitor fetch a k)
  | .chan ch a =>
    if d.allStaged n p k then (.ok (d.withStaged n p k 0), d)
    else
      match answer (!d.offAt a) (d.busRead (.reeve n) monitor fetch (windowBase + a) k) with
      | (.ok v, d) => if d.inReserved a k then (.fault 0x0D 0 va, d.refuseFence ch greenSlice a true) else (.ok v, d)
      | r => r

/-- One part of a store. A journaled CONTROL job's store to an ordinary page is staged, fenced at its destination (R267, R456). A
reeve's own store leaves its reservation (R328). -/
def writePlace (d : Device) (n : Nat) (monitor : Bool) (va : Nat) (p : Place) (se : Bool) (bs : List Byte) : Acc × Device :=
  let keep := (d.reeve n).resv
  let answer (bound : Bool) (r : BusRes × Device) : Acc × Device :=
    let (e, d) := r
    let d := d.upReeve n (fun r => { r with resv := keep })
    match e with
    | .ok _ => (.ok 0, d)
    | .wait => (.wait, d)
    | .busy => (.wait, d)
    | .decode => (.ok 0, d)
    | .err => if bound then (.fault 0x07 3 va, d) else (.ok 0, d)
    | .refused => (.fault 0x0D 0 va, if bound then d.fenceStop n else d)
    | e => (.fault 0x07 (errDetail e) va, d)
  match p with
  | .reeve a => answer false (d.busWrite (.reeve n) monitor none a bs)
  | .chan ch a =>
    match (if se then none else d.stagingJob n p) with
    | some (tag, _) =>
      if d.fenceOk ch a bs.length then (.ok 0, (d.stagedThrough ch tag va).stageBytes tag a bs)
      else (.fault 0x0D 0 va, (d.refuseFence ch greenSlice a false).fenceStop n)
    | none => answer (!d.offAt a) (ownBus n a (d.busWrite (.reeve n) monitor (some ch) (windowBase + a) bs))

/-- Parts of a load joined. -/
def readPlaces (d : Device) (n : Nat) (monitor : Bool) : List Part → Acc × Device
  | [] => (.ok 0, d)
  | p :: rest =>
    match d.readPlace n monitor false p.va p.place p.n with
    | (.ok v, d) =>
      match readPlaces d n monitor rest with
      | (.ok w, d) => (.ok (v + w * 2 ^ (8 * p.n)), d)
      | r => r
    | r => r

/-- What a part of a store is known to meet before any part is made: a data error (1), where its memory is LOST, or a refusal of the Fence (2), in the
order of R345; 0 for neither. -/
def storeMeets (d : Device) (n : Nat) (p : Part) : Nat :=
  let meets (m : Nat) (ok staged : Bool) : Nat :=
    if d.offAt m then 0 else if !staged && d.rangeLost (d.ownPa m) p.n then 1 else if ok then 0 else 2
  match p.place with
  | .reeve a =>
    match d.target a with
    | .window m => meets m (d.fwFenceOk m p.n) false
    | _ => 0
  | .chan ch a => meets a (d.fenceOk ch a p.n) (!p.se && (d.stagingJob n p.place).isSome)

/-- Parts of a store made in ascending order. -/
def makeParts (d : Device) (n : Nat) (monitor : Bool) : List (Part × List Byte) → Acc × Device
  | [] => (.ok 0, d)
  | (p, bs) :: rest =>
    match d.writePlace n monitor p.va p.place p.se bs with
    | (.ok _, d) => makeParts d n monitor rest
    | r => r

/-- A store of parts: one that meets a data error or a refusal stops the whole, and nothing is written (R320, R325, R345). -/
def writePlaces (d : Device) (n : Nat) (monitor : Bool) (ps : List (Part × List Byte)) : Acc × Device :=
  let meets (k : Nat) : Option (Part × List Byte) := ps.find? (fun p => d.storeMeets n p.1 = k)
  match meets 1, meets 2 with
  | some p, _ => (.fault 0x07 3 p.1.va, d)
  | none, some p => d.makeParts n monitor [p]
  | none, none => d.makeParts n monitor ps

/-- Parts with the bytes that each takes. -/
def withBytes : List Part → List Byte → List (Part × List Byte)
  | [], _ => []
  | p :: ps, bs => (p, bs.take p.n) :: withBytes ps (bs.drop p.n)

/-! ## Loads, stores, reservations and atomics -/

/-- Step 3 of Table 9-2 for a side-effect access of a journaled CONTROL job: owed, if it must still be made durable. -/
def sideWaits (d : Device) (n : Nat) (se : Bool) : Option Device :=
  if se then
    match d.boundJob n with
    | some (tag, j) => d.oweSide j tag
    | none => none
  else none

/-- An error that a command says the stored bits at a place hold: the read that follows finds it (R204 to R206, R332). -/
def reeveEcc (d : Device) (p : Place) (ecc : Nat) : Device :=
  match p with
  | .reeve a =>
    match d.target a with
    | .window m => d.strike m ecc
    | .flash a => d.strikeGreen a ecc
    | .sram a => d.strikeGreen a ecc
    | .strong a => d.strikeGreen a ecc
    | _ => d
  | .chan _ a => d.strike a ecc

/-- A load of `k` bytes at `va` (R325): `noSide` marks accesses that a side-effect page stops with 0x20. -/
def reeveLoad (d : Device) (n : Nat) (borrow noSide : Bool) (va k ecc : Nat) : Acc × Device :=
  let r := d.reeve n
  match d.reeveXlates n r.priv borrow .read (wordParts va k) with
  | (.wait, d) => (.wait, d)
  | (.lost a, d) => (.fault 0x07 3 a, d)
  | (.cause c a se, d) => if se then (.fault 0x02 0 va, d) else (.fault 0x04 c a, d)
  | (.ok ps, d) =>
    if anySide ps ∧ va % k ≠ 0 then (.fault 0x02 0 va, d)
    else if anySide ps ∧ noSide then (.fault 0x04 0x20 va, d.countFault)
    else
      match d.sideWaits n (anySide ps) with
      | some d => (.wait, d)
      | none =>
        match ps with
        | [] => (.ok 0, d)
        | p :: _ => (d.reeveEcc p.place ecc).readPlaces n (r.priv = 3) ps

/-- A store of bytes at `va` (R311, R325). -/
def reeveStore (d : Device) (n : Nat) (borrow noSide : Bool) (va : Nat) (bs : List Byte) : Acc × Device :=
  let r := d.reeve n
  match d.reeveXlates n r.priv borrow .write (wordParts va bs.length) with
  | (.wait, d) => (.wait, d)
  | (.lost a, d) => (.fault 0x07 3 a, d)
  | (.cause c a se, d) => if se then (.fault 0x02 0 va, d) else (.fault 0x05 c a, d)
  | (.ok ps, d) =>
    if anySide ps ∧ va % bs.length ≠ 0 then (.fault 0x02 0 va, d)
    else if anySide ps ∧ noSide then (.fault 0x05 0x20 va, d.countFault)
    else
      match d.sideWaits n (anySide ps) with
      | some d => (.wait, d)
      | none => d.writePlaces n (r.priv = 3) (withBytes ps bs)

/-- R328: the reeve physical block of a place where LL and SC are permitted: control SRAM, the Granary and HBM. -/
def lockBlock (d : Device) (p : Place) : Option Nat :=
  match p with
  | .reeve a =>
    match d.target a with
    | .sram s => some (s / 64 * 64)
    | .window m => if d.onModule a then some ((windowBase + d.ownPa m) / 64 * 64) else none
    | _ => none
  | .chan _ a => if regionOf a = .hbm ∨ regionOf a = .granary then some ((windowBase + a) / 64 * 64) else none

/-- LL at `va`: its value, the reservation set and the locked sequence begun. -/
def reeveLL (d : Device) (n va ecc : Nat) : Acc × Device :=
  let r := d.reeve n
  if va % 8 ≠ 0 then (.fault 0x02 0 va, d)
  else
    match d.reeveXlate n r.priv false va .read with
    | (.wait, d) => (.wait, d)
    | (.lost, d) => (.fault 0x07 3 va, d)
    | (.cause c, d) => (.fault 0x04 c va, d)
    | (.ok p se, d) =>
      if se then (.fault 0x04 0x20 va, d.countFault)
      else
        match d.lockBlock p with
        | none => (.fault 0x02 0 va, d)
        | some b =>
          match (d.reeveEcc p ecc).readPlace n (r.priv = 3) false va p 8 with
          | (.ok v, d) => (.ok v, d.upReeve n (fun r => { r with resv := some b, locked := true }))
          | x => x

/-- SC of a value at `va`: 0 where the reservation of its block holds and the store is made, else 1; the locked sequence ends. -/
def reeveSC (d : Device) (n va v : Nat) : Acc × Device :=
  let r := d.reeve n
  let ended (d : Device) : Device := d.upReeve n (fun r => { r with resv := none, locked := false })
  if va % 8 ≠ 0 then (.fault 0x02 0 va, d)
  else
    match d.reeveXlate n r.priv false va .write with
    | (.wait, d) => (.wait, d)
    | (.lost, d) => (.fault 0x07 3 va, d)
    | (.cause c, d) => (.fault 0x05 c va, d)
    | (.ok p se, d) =>
      if se then (.fault 0x05 0x20 va, d.countFault)
      else
        match d.lockBlock p with
        | none => (.fault 0x02 0 va, d)
        | some b =>
          if r.resv = some b then
            match d.writePlaces n (r.priv = 3) [({ faddr := va, va := va, n := 8, place := p }, bytesOf 8 v)] with
            | (.ok _, d) => (.ok 0, ended d)
            | x => x
          else (.ok 1, ended d)

/-- An atomic made at a reeve physical address: control SRAM and an open Strongroom, or the module window under the Fence (R198, R365,
R456). -/
def atomicTarget (d : Device) (n : Nat) (monitor : Bool) (ch : Option Nat) (a : Nat) (swap : Bool) (w v : Nat) : BusRes × Device :=
  let who : Initiator := .reeve n
  let d := d.grantedAt who (d.target a)
  let here (a : Nat) : BusRes × Device :=
    match d.readGreen a 16 with
    | (.ok old, d) =>
      let m := d.mem.writeBytes a (bytesOf 16 (if swap then v else addLanes w old v))
      (.ok old, ({ d with mem := m } : Device).dropResv a 16)
    | r => r
  match d.target a with
  | .sram s => here s
  | .strong s => if d.strongOpen who monitor then here s else (.err, d.securityEvent)
  | .window m =>
    let ok : Bool := match ch with
      | some c => d.fenceOk c m 16
      | none => d.fwFenceOk m 16
    if d.offAt m then (.err, d.crossingErr who)
    else if ¬ ok then
      -- a data error of its target comes before the refusal (R345)
      let onModule : Bool := regionOf (d.ownPa m) = .hbm || regionOf (d.ownPa m) = .granary
      match (if onModule then d.readModule (d.ownPa m) 16 else (.ok 0, d)) with
      | (.ok _, d) => (.refused, d.refuseFence (ch.getD 0xFFF) greenSlice m false)
      | (e, d) => (busOf e, d)
    else
      let (r, d) := (d.granted who m).atomicAt swap m w v
      (busOf r, d)
  | _ => (.decode, d)

/-- AADD and ASWP of a pair at `va` (R198, R325): the old value. -/
def reeveAtomic (d : Device) (n va : Nat) (swap : Bool) (w v : Nat) : Acc × Device :=
  let r := d.reeve n
  let keep := r.resv
  if va % 16 ≠ 0 then (.fault 0x02 0 va, d)
  else
    match d.reeveXlate n r.priv false va .atomic with
    | (.wait, d) => (.wait, d)
    | (.lost, d) => (.fault 0x07 3 va, d)
    | (.cause c, d) => (.fault 0x05 c va, d)
    | (.ok p se, d) =>
      match d.stagingJob n p, p with
      | some _, _ =>
        match d.readPlace n (r.priv = 3) false va p 16 with
        | (.ok old, d) =>
          match d.writePlaces n (r.priv = 3) [({ faddr := va, va := va, n := 16, place := p, se := se }, bytesOf 16 (if swap then v else addLanes w old v))] with
          | (.ok _, d) => (.ok old, d)
          | x => x
        | x => x
      | none, p =>
        let (bound, e, d) := match p with
          | .reeve a => (false, noted (.reeve n) a true (d.atomicTarget n (r.priv = 3) none a swap w v))
          | .chan ch a => (true, ownBus n a (noted (.reeve n) (windowBase + a) true (d.atomicTarget n (r.priv = 3) (some ch) (windowBase + a) swap w v)))
        let d := d.upReeve n (fun r => { r with resv := keep })
        match e with
        | .ok old => (.ok old, d)
        | .wait => (.wait, d)
        | .busy => (.wait, d)
        | .decode => (.ok 0, d)
        | .err => (.ok 0, d)
        | .refused => (.fault 0x0D 0 va, if bound then d.fenceStop n else d)
        | e => (.fault 0x07 (errDetail e) va, d)

/-! ## Blocks: spills, fills and task-state blocks -/

/-- Blocks written, every part translated before any is written, and none written where one of them faults (R320, R346). -/
def writeBlocks (d : Device) (n priv : Nat) (blocks : List (Nat × List Byte)) : Acc × Device :=
  match d.reeveXlates n priv false .write (blocks.flatMap (fun b => partsOf b.1 b.2.length)) with
  | (.wait, d) => (.wait, d)
  | (.lost a, d) => (.fault 0x07 3 a, d)
  | (.cause c a _, d) => (.fault 0x05 c a, d)
  | (.ok ps, d) =>
    match d.sideWaits n (priv = 0 && anySide ps) with
    | some d => (.wait, d)
    | none => d.writePlaces n (priv = 3) (withBytes ps (blocks.flatMap (·.2)))

/-- How reading blocks ends. -/
inductive Blocks where
  | ok (vs : List Nat) | fault (code detail faddr : Nat) | wait
  deriving DecidableEq, Repr

/-- The parts of each block, in turn, from a list of them all. -/
def perBlock : List (Nat × Nat) → List Part → List (List Part)
  | [], _ => []
  | (va, k) :: bs, ps =>
    let m := (partsOf va k).length
    ps.take m :: perBlock bs (ps.drop m)

/-- Blocks translated for reading. -/
def xlateBlocks (d : Device) (n priv : Nat) (blocks : List (Nat × Nat)) : RXs × Device :=
  d.reeveXlates n priv false .read (blocks.flatMap (fun b => partsOf b.1 b.2))

/-- Translated blocks read, as numbers. -/
def loadBlocks (d : Device) (n priv : Nat) : List (List Part) → Blocks × Device
  | [] => (.ok [], d)
  | ps :: rest =>
    match d.readPlaces n (priv = 3) ps with
    | (.ok v, d) =>
      match loadBlocks d n priv rest with
      | (.ok vs, d) => (.ok (v :: vs), d)
      | r => r
    | (.fault c x a, d) => (.fault c x a, d)
    | (.wait, d) => (.wait, d)

/-- Blocks read, every part translated before any is read. -/
def readBlocks (d : Device) (n priv : Nat) (blocks : List (Nat × Nat)) : Blocks × Device :=
  match d.xlateBlocks n priv blocks with
  | (.wait, d) => (.wait, d)
  | (.lost a, d) => (.fault 0x07 3 a, d)
  | (.cause c a _, d) => (.fault 0x04 c a, d)
  | (.ok ps, d) => d.loadBlocks n priv (perBlock blocks ps)

/-! ## Fetch -/

/-- How fetching an instruction ends. -/
inductive Fetched32 where
  | instr (i : Option RInstr) | fault (code detail faddr : Nat) | wait
  deriving DecidableEq, Repr

/-- One halfword of the instruction stream; `ecc` is an error of its line (R332). Fetch reads memory as it stands: line buffers, the branch-target
buffer and the return-address stack hold nothing here (R327, R331, R362; DESIGN CHOICE, log entry 109). -/
def fetchHalf (d : Device) (n va ecc : Nat) : Acc × Device :=
  let r := d.reeve n
  match d.reeveXlate n r.priv false va .fetch with
  | (.wait, d) => (.wait, d)
  | (.lost, d) => (.fault 0x06 3 va, d)
  | (.cause c, d) => (.fault 0x03 c va, d)
  | (.ok p _, d) =>
    match (d.reeveEcc p ecc).readPlace n (r.priv = 3) true va p 2 with
    | (.fault 0x07 x a, d) => (.fault 0x06 x a, d)
    | r => r

/-- R323: the instruction at an address (bit 0 of a PC is not fetched with); none where the words spell none. The low two bits of `ecc` are an error of
the first halfword's line, the next two of the second's. -/
def fetchAt (d : Device) (n pc ecc : Nat) : Fetched32 × Device :=
  let va := pc / 2 * 2
  match d.fetchHalf n va (ecc % 4) with
  | (.wait, d) => (.wait, d)
  | (.fault c x a, d) => (.fault c x a, d)
  | (.ok h, d) =>
    if h % 2 = 0 then (.instr (decode16 h), d)
    else
      match d.fetchHalf n ((va + 2) % 2 ^ 64) (ecc / 4 % 4) with
      | (.wait, d) => (.wait, d)
      | (.fault c x a, d) => (.fault c x a, d)
      | (.ok g, d) => (.instr (decode32 (h + g * 2 ^ 16)), d)

end Device

end Sys2Proof.Machine
end

