-- ==== Sys2Proof/Machine/ReeveTrap.lean ====
section
/-! DEFINITION. Taking an exception or an interrupt on a reeve and returning from one (R342 to R348), the sliding window's calls and
returns (R318 to R320), and how an exception ends a CONTROL job (R312, R313). -/
namespace Sys2Proof.Machine

/-! ## The window -/

/-- R318: the two oldest resident groups of a full register file. -/
def Reeve.oldest (r : Reeve) : Nat × Nat := ((r.cur + 4) % 16, (r.cur + 5) % 16)

/-- The blocks that an advance of the window spills below a spill pointer: none while RES is below 15. -/
def Reeve.spillBlocks (r : Reeve) (s7 : Nat) : List (Nat × List Byte) :=
  if r.res = 15 then [((s7 + 2 ^ 64 - 64) % 2 ^ 64, r.groupBytes r.oldest.1), ((s7 + 2 ^ 64 - 128) % 2 ^ 64, r.groupBytes r.oldest.2)] else []

/-- R318: the window two groups on, s7 below what was spilled, and the return address in the new w8. -/
def Reeve.advanceWindow (r : Reeve) (s7 ret : Nat) : Reeve :=
  let full : Bool := r.res = 15
  let r := r.put 7 (if full then (s7 + 2 ^ 64 - 128) % 2 ^ 64 else s7)
  let w := winptrOf (r.cur + 2) (if full then 15 else r.res + 2) (r.spilled + (if full then 2 else 0))
  ({ r with winptr := w } : Reeve).put 16 ret

/-- The address in w8. -/
def Reeve.retAddr (r : Reeve) : Nat := r.get 16

/-- R334: what completes at the instruction's address goes on at the next one, or at the start of the hardware loop's body. -/
def Reeve.advance (r : Reeve) (len : Nat) : Reeve :=
  let count := field r.lcount 0 48
  let next := (r.pc + len) % 2 ^ 64
  if r.pc = r.lend ∧ count ≠ 0 then
    { r with lcount := putField r.lcount 0 48 (count - 1)
             pc := if count > 1 then (r.lend + 2 ^ 64 - 2 * field r.lcount 48 16) % 2 ^ 64 else next }
  else { r with pc := next }

/-! ## The task-state block (Table 12-6) -/

def Reeve.taskState (r : Reeve) (savedPc : Nat) : List Byte :=
  ([savedPc, r.status, r.cause, r.faddr, r.winptr, r.lcount, r.lend, r.vl, r.vstart, r.get 6, r.get 7, 0, 0, 0, 0, 0]).flatMap (bytesOf 8)

/-- Word `k` of a task-state block read as a number. -/
def frameWord (f k : Nat) : Nat := field f (64 * k) 64

/-- What diverts a reeve: its code, DETAIL, FADDR and level, whether it is an interrupt or a trap instruction (Tables 12-3, 12-4), and whether an
atomic met it (R242). -/
structure Event where
  code : Nat
  detail : Nat := 0
  faddr : Nat := 0
  level : Nat := 7
  interrupt : Bool := false
  trap : Bool := false
  atomic : Bool := false
  deriving DecidableEq, Repr

/-- R346: frame and privilege of an entry. -/
def Reeve.entryFrame (r : Reeve) (ev : Event) (double : Bool) : Nat × Nat :=
  let below (a : Nat) : Nat := (a + 2 ^ 64 - 128) % 2 ^ 64
  let (f, p) := if double then (below r.tsbp2, 3) else if r.priv = 0 then (below r.tsbp, 1) else (below (r.get 7), r.priv)
  (f, if ev.trap then 3 else p)

/-- R346: the reeve after its frame is written. Table 12-3 gives FADDR and DETAIL for faults and traps alone: an interrupt writes 0 to both (DESIGN
CHOICE, log entry 110). -/
def Reeve.entered (r : Reeve) (ev : Event) (double : Bool) (savedPc frame newpriv : Nat) : Reeve :=
  let cause := ev.code % 256 + ofBool ev.interrupt * 2 ^ 8 + ofBool double * 2 ^ 9 + ev.detail % 256 * 2 ^ 16 + ev.level % 8 * 2 ^ 24
  let r := (r.put 6 frame).advanceWindow frame savedPc
  let st := putField (putField r.status 0 2 newpriv) 3 3 ev.level
  { r with cause := cause, faddr := ev.faddr, lcount := 0, lend := 0, vl := 0, vstart := 0
           status := if double then putField st 6 1 1 else st
           pc := r.evbase, resv := none, locked := false, wfi := false, longAt := none, longFlight := false
           handler := if r.priv = 0 then (if ev.interrupt then 1 else 2) else r.handler }

namespace Device

/-- One attempt at an entry: its frame and spill written and the reeve at EVBASE, or what stopped it. -/
def tryEnter (d : Device) (n : Nat) (ev : Event) (double : Bool) (savedPc : Nat) : Acc × Device :=
  let r := (d.reeve n).drain
  let (frame, priv) := r.entryFrame ev double
  match d.writeBlocks n priv ((frame, r.taskState savedPc) :: r.spillBlocks frame) with
  | (.ok _, d) =>
    let d := d.setReeve n (({ r with resv := (d.reeve n).resv } : Reeve).entered ev double savedPc frame priv)
    let d := d.traceReeve n (d.reeve n).cause
    (.ok 0, if (d.reeve n).stepping then d.haltReeve n 2 else d)
  | r => r

/-- R342 to R346: an event taken. A masked fault, and a fault in writing a frame, is a double fault on the TSBP2 stack; with DF = 1, and
in a double fault's frame, it is a third fault, which resets the core. An entry that waits for memory changes nothing; the answer is whether the
event has been taken. -/
def enter (d : Device) (n : Nat) (ev : Event) (savedPc : Nat) : Bool × Device :=
  let r := d.reeve n
  let double (d : Device) (ev : Event) : Bool × Device :=
    if r.df then (true, d.coreReset n)
    else
      match d.tryEnter n ev true savedPc with
      | (.fault _ _ _, d) => (true, d.coreReset n)
      | (.wait, d) => (false, d)
      | (.ok _, d) => (true, d)
  if ¬ ev.trap ∧ ¬ ev.interrupt ∧ r.iml = 7 then double d ev
  else
    match d.tryEnter n ev false savedPc with
    | (.fault c x a, d) => double d { code := c, detail := x, faddr := a }
    | (.wait, d) => (false, d)
    | (.ok _, d) => (true, d)

/-! ## How an exception ends a job (Table 11-2) -/

/-- What an exception at User privilege does to the job of its reeve: parked with a fault entry (R313), or its status fixed. -/
def exceptJob (d : Device) (n : Nat) (ev : Event) (pc : Nat) : Device :=
  match d.boundJob n with
  | none => d
  | some (tag, j) =>
    let fix (d : Device) (f : Fail) : Device := d.upJob tag (fun j => { j with stop := some (stopping j f) })
    if ev.code = 0x03 ∨ ev.code = 0x04 ∨ ev.code = 0x05 then
      let c := ev.detail
      if parkCause c ∧ c ≠ 0x04 ∧ c ≠ 0x07 ∧ ¬ entFailOnFault (d.gov j) then
        d.raiseFault tag { cause := c, access := if ev.code = 0x03 then 3 else if ev.code ≠ 0x05 then 0 else if ev.atomic then 2 else 1, instr := 0xFFFF, element := 0
                           addr := ev.faddr, place := .reeve }
      else fix d { status := causeStatus c, detail := c }
    else if ev.code = 0x06 ∨ ev.code = 0x07 then fix d { status := if ev.detail = 1 then stPoison else stMemoryLost }
    else if ev.code = 0x0D then fix d { status := stFenceViolation }
    else
      -- no page is named as the one that reports it: its BLOCK is a free value (log entry 2)
      let (block, d) := (fix d { status := stAborted, detail := 0x02 }).takeFree 8
      d.logErr block n j.ch 0x09 (d.reeve n).cause pc

/-- A fault or trap of reeve `n`, the saved PC given: the entry, and at User privilege the end or the parking of its job. A third fault
has ended the job already (R344). -/
def except (d : Device) (n : Nat) (ev : Event) (savedPc : Nat) : Bool × Device :=
  let r := d.reeve n
  let (taken, d) := d.enter n ev savedPc
  (taken, if r.priv = 0 ∧ (d.reeve n).priv ≠ 0 then d.exceptJob n ev r.pc else d)

/-! ## Calls and returns -/

/-- R318, R320: a call to an address from the instruction of a length. -/
def callTo (d : Device) (n target len : Nat) : Acc × Device :=
  let r := d.reeve n
  match d.writeBlocks n r.priv (r.spillBlocks (r.get 7)) with
  | (.ok _, d) => (.ok 0, d.upReeve n (fun r => { r.advanceWindow (r.get 7) ((r.pc + len) % 2 ^ 64) with pc := target }))
  | r => r

/-- R319, R320: a return. -/
def ret (d : Device) (n : Nat) : Acc × Device :=
  let r := d.reeve n
  let back (r : Reeve) (res spilled : Nat) : Reeve := { r with pc := r.retAddr, winptr := winptrOf (r.cur + 14) (res - 2) spilled }
  if r.res > 3 then (.ok 0, d.setReeve n (back r r.res r.spilled))
  else if r.spilled < 2 then (.fault 0x08 0 0, d)
  else
    let s7 := r.get 7
    match d.readBlocks n r.priv [(s7, 64), ((s7 + 64) % 2 ^ 64, 64)] with
    | (.ok [a, b], d) =>
      let r := d.reeve n
      let pc := r.retAddr
      let r := (((r.loadGroup (r.cur + 15) a).loadGroup (r.cur + 14) b).put 7 (s7 + 128))
      (.ok 0, d.setReeve n { r with pc := pc, winptr := winptrOf (r.cur + 14) 3 (r.spilled - 2) })
    | (.fault c x a, d) => (.fault c x a, d)
    | (_, d) => (.wait, d)

/-- R348, steps 2 and 3: the DETAIL of the ILLEGAL_RETURN that a frame meets, if it meets one; `k` groups would be refilled where that is even and not
negative. -/
def reteBad (r : Reeve) (f k : Nat) (even : Bool) : Option Nat :=
  let st := frameWord f 1
  let saved : Reeve := { winptr := frameWord f 4 }
  let s6 := r.get 6
  if ¬ statusOk (putField st 6 1 0) then some 2
  else if field st 0 2 > r.priv then some 1
  else if ¬ even ∨ r.cur ≠ (saved.cur + 2) % 16 ∨ r.res + k ≠ saved.res + 2 ∨ (r.get 7 + 64 * k) % 2 ^ 64 ≠ s6 ∨
      ((s6 = (r.tsbp2 + 2 ^ 64 - 128) % 2 ^ 64) ≠ (r.df ∧ field st 6 1 = 0)) then some 3
  else none

/-- R348, steps 4 and 5: the reeve with its groups refilled and its frame restored. -/
def reteDone (r : Reeve) (f : Nat) (groups : List Nat) : Reeve :=
  let st := frameWord f 1
  let saved : Reeve := { winptr := frameWord f 4 }
  let o := r.cur + 32 - (r.res - 3)
  let r := (groups.zipIdx).foldl (fun (r : Reeve) g => r.loadGroup (o - 1 - g.2) g.1) r
  let r := { r with winptr := winptrOf saved.cur saved.res saved.spilled, handler := if field st 0 2 = 0 then 0 else r.handler }
  let r := r.setStatus st
  let r := { r with status := putField r.status 6 1 (field st 6 1) }
  let r := { r with pc := frameWord f 0, cause := frameWord f 2, faddr := frameWord f 3, lcount := frameWord f 5, lend := frameWord f 6
                    vl := frameWord f 7, vstart := frameWord f 8 }
  (r.put 6 (frameWord f 9)).put 7 (frameWord f 10)

/-- A failure of RETE's first step is a LOAD_FAULT (R348); of one that is no translation's, Table 12-3 gives no cause code, and DETAIL is a free value. -/
def reteFault (d : Device) (code detail a : Nat) : Acc × Device :=
  if code = 0x04 then (.fault 0x04 detail a, d)
  else
    let (x, d) := d.takeFree 8
    (.fault 0x04 x a, d)

/-- R348: RETE. -/
def rete (d : Device) (n : Nat) : Acc × Device :=
  let r := d.reeve n
  match d.readBlocks n r.priv [(r.get 6, 128)] with
  | (.wait, d) => (.wait, d)
  | (.fault c x a, d) => d.reteFault c x a
  | (.ok vs, d) =>
    let f := vs.headD 0
    let saved : Reeve := { winptr := frameWord f 4 }
    let even : Bool := saved.spilled ≤ r.spilled && (r.spilled - saved.spilled) % 2 = 0 && r.spilled - saved.spilled ≤ 14
    let k := if even then r.spilled - saved.spilled else 0
    let groups := (List.range k).map (fun g => ((r.get 7 + 64 * g) % 2 ^ 64, 64))
    match d.xlateBlocks n r.priv groups with
    | (.wait, d) => (.wait, d)
    | (.lost a, d) => d.reteFault 0x07 3 a
    | (.cause c a _, d) => d.reteFault 0x04 c a
    | (.ok ps, d) =>
      match reteBad (d.reeve n) f k even with
      | some x => (.fault 0x09 x 0, d)
      | none =>
        match d.loadBlocks n r.priv (perBlock groups ps) with
        | (.ok gs, d) => (.ok 0, d.setReeve n (reteDone (d.reeve n) f gs))
        | (.fault c x a, d) => (.fault c x a, d)
        | (.wait, d) => (.wait, d)

/-! ## Interrupts -/

/-- Whether a reeve is held at a SOW that its job still waits for (R335). -/
def sowWaits (d : Device) (n : Nat) : Bool := (d.reeve n).sow.isSome && (d.boundJob n).isSome

/-- The interrupt that would be taken at this boundary; a step takes none but under STEP_IRQ (R343, R520). -/
def dueInterrupt (d : Device) (n : Nat) : Option (Nat × Nat) :=
  if (d.reeve n).stepping ∧ d.fld 14 0 0x044 16 1 = 0 then none else d.eligible n

/-- Whether a reeve is in service and at an instruction boundary at which it may go on. -/
def atBoundary (d : Device) (n : Nat) : Bool :=
  let r := d.reeve n
  n < 5 && d.power.step ≥ 3 && r.st = 0 && !r.halted && !d.sowWaits n

/-- What an interrupt that is taken clears: another reeve's, and the stroke's, which no register holds; the watchdog's is held until a kick (R343, log
entry 49). -/
def interruptTaken (r : Reeve) (code : Nat) : Reeve :=
  { r with strokeInt := r.strokeInt && code ≠ 0x02, ipi := r.ipi && code ≠ 0x0A }

/-- Whether the CONTROL job of a reeve may go on at User: running in a live channel, with the record of its start durable and no reason to stop (R309,
R313, R559). -/
def jobRuns (d : Device) (n : Nat) : Bool :=
  match d.boundJob n with
  | some (_, j) => (j.st = .running || j.st = .parked) && j.startedDurable && j.stop.isNone && !j.workDone && !d.stoodDown &&
      (d.chan j.ch).st.live && j.faults.all (fun f => f.place ≠ .reeve)
  | none => false

/-- INTERRUPT_ENTRY: the highest eligible interrupt taken (R343), but not while an element of a long access waits for memory (R359). With `ipi`,
another reeve has posted its interrupt (Table 12-4; the spec names no way to post one: DESIGN CHOICE, log entry 49). -/
def interruptEntry (d : Device) (n : Nat) (ipi : Bool) : Device :=
  let d := if ipi ∧ n < 5 ∧ (d.reeve n).st = 0 then d.upReeve n (fun r => { r with ipi := true }) else d
  if d.atBoundary n ∧ ¬ ((d.reeve n).longFlight ∧ ((d.reeve n).priv ≠ 0 ∨ d.jobRuns n)) then
    match d.dueInterrupt n with
    | none => d
    | some (code, level) =>
      let old := d.reeve n
      match (d.upReeve n settleLong).enter n { code := code, level := level, interrupt := true } old.pc with
      | (false, d) => d.upReeve n (fun r => { r with vstart := old.vstart, longAt := old.longAt })
      | (true, d) => if (d.reeve n).cause = code + 2 ^ 8 + level * 2 ^ 24 then d.upReeve n (fun r => interruptTaken r code) else d
  else d

/-! ## Watchdogs, the long unit, reservations -/

/-- R519: a watchdog holds its count while its reeve is halted under DBG_WDFREEZE. -/
def watchdogFrozen (d : Device) (n : Nat) : Bool := (d.reeve n).halted && d.fld 14 0 0x048 0 1 = 1

/-- WATCHDOG_WARN: 75 % of a reeve's watchdog period (R458). -/
def watchdogWarn (d : Device) (n : Nat) : Device :=
  if n < 5 ∧ (d.reeve n).st = 0 ∧ d.power.step ≥ 3 ∧ ¬ d.watchdogFrozen n then d.upReeve n (fun r => { r with warn := true }) else d

/-- WATCHDOG_EXPIRY: as a third fault. -/
def watchdogExpiry (d : Device) (n : Nat) : Device :=
  if n < 5 ∧ ((d.reeve n).st = 0 ∨ d.takingOver n) ∧ d.power.step ≥ 3 ∧ ¬ d.watchdogFrozen n then d.coreReset n else d

/-- LONG_UNIT_READY (R360). -/
def longUnitReady (d : Device) (n : Nat) : Device :=
  if n < 5 ∧ (d.reeve n).le then d.upReeve n (fun r => { r with longReady := true }) else d

/-- SCALAR_RESULT_WRITEBACK: the oldest result in flight is written (R329). -/
def writeBackResult (d : Device) (n : Nat) : Device :=
  match (d.reeve n).flight with
  | w :: rest => d.upReeve n (fun r => { r.land w with flight := rest })
  | [] => d

/-- LL_RESERVATION_TIMEOUT: 256 cycles after the LL (R328). -/
def reservationTimeout (d : Device) (n : Nat) : Device := d.upReeve n (fun r => { r with resv := none })

end Device

end Sys2Proof.Machine
end

