-- ==== Sys2Proof/Machine/Reeve.lean ====
section
/-! DEFINITION. The reeve's instructions (chapters 11 and 12) and the start of CONTROL jobs (R310). -/
namespace Sys2Proof.Machine

/-- How an instruction ends: complete, the reeve as it leaves it; a fault; a trap, as which the instruction completes; held where it is by memory, by
the scoreboard or by the Sower. -/
inductive Ending where
  | done | fault (code detail faddr : Nat) | trap (code detail : Nat) | hold
  deriving DecidableEq, Repr

/-- The ending of an access that leaves nothing to do. -/
def Acc.ending : Acc → Ending
  | .ok _ => .done
  | .fault c x a => .fault c x a
  | .wait => .hold

/-- Table 11-3: whether a privilege may read, or write, a control register. -/
def crReads (priv n : Nat) : Bool := n < 12 && (priv ≠ 0 || n = 0 || n ≥ 7)
def crWrites (priv n : Nat) : Bool :=
  match priv with
  | 0 => 7 ≤ n && n ≤ 10
  | 1 => n = 1 || n = 2 || n = 4 || (6 ≤ n && n ≤ 11)
  | _ => 1 ≤ n && n ≤ 11

/-- Whether a value may be written to a control register (R317, R340). -/
def crValueOk (priv n v : Nat) : Bool :=
  if n = 1 then statusOk v && field v 0 2 ≤ priv else if n = 11 then winptrOk v else true

/-- The value that CSRW, CSRS or CSRC writes. -/
def crNew (op : ROp) (old v : Nat) : Nat :=
  match op with
  | .csrs => old ||| v
  | .csrc => old &&& (m64 - 1 - v)
  | _ => v

/-! ## Long arithmetic (R350 to R354) -/

/-- Elements a long instruction processes: those of [VSTART, VL) that are active. -/
def Reeve.active (r : Reeve) (i : RInstr) : List Nat :=
  (span r.vstart (r.vl - r.vstart)).filter (fun e => !i.masked || (r.mreg 0).testBit e)

/-- An element-by-element result. -/
def longAlu (op : ROp) (ew a b : Nat) : Nat :=
  match op with
  | .ladd => (a + b) % 2 ^ ew
  | .lsub => (a + 2 ^ ew - b) % 2 ^ ew
  | .lmul => a * b % 2 ^ ew
  | .land => a &&& b
  | .lor => a ||| b
  | .lxor => a ^^^ b
  | _ => a

/-- LTEST: EQ, LTU, LT. -/
def longTest (c ew a b : Nat) : Bool :=
  match c with
  | 0 => a = b
  | 1 => a < b
  | _ => toSigned ew a < toSigned ew b

/-- The group at Ld with a value for every processed element, as results in flight. -/
def Reeve.longResult (r : Reeve) (i : RInstr) (f : Nat → Nat) : List PendWrite :=
  let done := (r.active i).foldl (fun (r : Reeve) e => r.setElem i.ew i.rd e (f e)) r
  (span i.rd i.group).map (fun k => { bank := 1, ix := k % 32, val := done.lreg k })

/-- Results in flight of a long arithmetic instruction. -/
def Reeve.longWrites (r : Reeve) (i : RInstr) : List PendWrite :=
  let el (n e : Nat) : Nat := r.elem i.ew n e
  match i.op with
  | .ltest =>
    let k := i.rd % 8
    let m := (r.active i).foldl (fun m e => putField m e 1 (ofBool (longTest (field i.rd 3 2) i.ew (el i.ra e) (el i.rb e)))) (r.mreg k)
    [{ bank := 2, ix := k, val := m }]
  | .lfill => r.longResult i (fun _ => r.get i.ra % 2 ^ i.ew)
  | .lsum => [{ bank := 0, ix := r.place i.rd, val := ((r.active i).foldl (fun s e => s + el i.ra e) 0) % m64 }]
  | op => r.longResult i (fun e => longAlu op i.ew (el i.ra e) (el i.rb e))

/-- R355: address of element `e` of a long load or store. -/
def Reeve.longAddr (r : Reeve) (i : RInstr) (e : Nat) : Nat :=
  let base := r.get i.ra
  match i.op with
  | .lgets => (base + e * r.get i.rb) % m64
  | .lputs => (base + e * r.get i.rb) % m64
  | .lgath => (base + r.elem i.ew i.rb e % m64) % m64
  | .lscat => (base + r.elem i.ew i.rb e % m64) % m64
  | _ => (base + e * (i.ew / 8)) % m64

def ROp.longStore : ROp → Bool
  | .lput => true
  | .lputs => true
  | .lscat => true
  | _ => false

def ROp.longIndexed : ROp → Bool
  | .lgath => true
  | .lscat => true
  | _ => false

def ROp.longMem : ROp → Bool
  | .lget => true
  | .lgets => true
  | .lgath => true
  | .lprobe => true
  | .lput => true
  | .lputs => true
  | .lscat => true
  | _ => false

namespace Device

/-! ## Long loads and stores (R355 to R357) -/

/-- Whether an element's address lies on a side-effect page. -/
def onSidePage (d : Device) (n va : Nat) : Bool :=
  match d.reeveXlate n (d.reeve n).priv false va .read with
  | (.ok _ se, _) => se
  | _ => false

/-- One element loaded or stored. -/
def longElem (d : Device) (n : Nat) (i : RInstr) (e va : Nat) : Acc × Device :=
  let r := d.reeve n
  let k := i.ew / 8
  if va % k ≠ 0 then (.fault 0x02 0 va, d)
  else if i.op.longStore then d.reeveStore n false i.op.longIndexed va (bytesOf k (r.elem i.ew i.rd e))
  else
    match d.reeveLoad n false i.op.longIndexed va k 0 with
    | (.ok v, d) => (.ok v, d.upReeve n (fun r => r.setElem i.ew i.rd e v))
    | x => x

/-- The elements from `e` on, `fuel` of them, in ascending order, at most `room` of them in one step; a fault leaves VSTART at its element. What memory
holds up, and what is left after `room` elements, goes on from its element in the instruction's next step, VSTART being as it was (R356, R357, R359). -/
def longElems (d : Device) (n : Nat) (i : RInstr) (start : Nat) : Nat → Nat → Nat → Ending × Device
  | 0, _, _ => (.done, d.upReeve n (fun r => { r with vstart := 0, longAt := none, longFlight := false }.advance i.len))
  | fuel + 1, room, e =>
    let r := d.reeve n
    let rest (d : Device) (flight : Bool) : Ending × Device := (.hold, d.upReeve n (fun r => { r with longAt := some (r.pc, e), longFlight := flight }))
    if i.masked ∧ ¬ (r.mreg 0).testBit e then longElems d n i start fuel room (e + 1)
    else
      match room with
      | 0 => rest d false
      | room + 1 =>
        let va := r.longAddr i e
        let short (d : Device) : Ending × Device :=
          (.done, d.upReeve n (fun r => { r with vl := e, vstart := 0, longAt := none, longFlight := false }.advance i.len))
        if i.op = .lprobe ∧ e > 0 ∧ d.onSidePage n va then short d
        else
          match d.longElem n i e va with
          | (.ok _, d) => longElems d n i start fuel room (e + 1)
          | (.wait, d) => rest d true
          | (.fault c x a, d) =>
            if i.op = .lprobe ∧ (c = 0x04 ∨ c = 0x07) ∧ e > 0 ∧ ¬ (start > 0 ∧ e = start) then short d
            else (.fault c x a, d.upReeve n (fun r => { r with vstart := e, longAt := none, longFlight := false }))

/-- Where a long access goes on: at VSTART, or at the first element that its earlier steps have not done. -/
def longFrom (r : Reeve) : Nat :=
  match r.longAt with
  | some (pc, e) => if pc = r.pc then e else r.vstart
  | none => r.vstart

/-- A long access: up to 16 elements of it, or the one in flight where an interrupt is due (R359). -/
def runLongMem (d : Device) (n : Nat) (i : RInstr) : Ending × Device :=
  let r := d.reeve n
  let e := longFrom r
  d.longElems n i r.vstart (r.vl - e) (if r.longFlight ∧ (d.dueInterrupt n).isSome then 1 else 16) e

/-- A long instruction that is legal and enabled (R350 to R357). -/
def runLong (d : Device) (n : Nat) (i : RInstr) : Ending × Device :=
  let r := d.reeve n
  if ¬ r.longReady then (.hold, d)
  else if i.op = .lsize then
    let a := r.get i.ra
    let vl := min a i.vlmax
    (.done, d.setReeve n (({ r with vl := vl, vstart := 0 } : Reeve).put i.rd (a - vl) |>.advance i.len))
  else if i.op.longMem then d.runLongMem n i
  else (.done, d.setReeve n ({ r with flight := r.flight ++ r.longWrites i, vstart := 0 }.advance i.len))

/-! ## Sowing (R335 to R338) -/

/-- Whether every sown instruction of a job has completed or been discarded (R337). -/
def sownOver (j : Job) : Bool := j.chains = [] && j.sown = [] && (j.refuse.isNone || j.sownFail.isSome) && j.faults.all (fun f => f.place = .reeve)

/-- Sown index of a failure from the low 16 bits that its INSTR keeps: the highest one not past what may have been sown. -/
def sownIndex (j : Job) (instr : Nat) : Nat :=
  let top := j.next + 16
  top - (top + 65536 - instr % 65536) % 65536

/-- Table 11-13. -/
def sownResult (j : Job) : Nat :=
  match j.sownFail with
  | some f => f.status % 256 + j.flags % 256 * 2 ^ 8 + f.detail % 256 * 2 ^ 16 + sownIndex j f.instr % 2 ^ 32 * 2 ^ 32
  | none => j.flags % 256 * 2 ^ 8 + 0xFFFFFFFF * 2 ^ 32

/-- SOWSYNC's wait: the sown program is closed, so that a chain left open is refused (R338); what is to be done once it is over. -/
def sowSync (d : Device) (n : Nat) (k : Nat → Job → Device → Ending × Device) : Ending × Device :=
  match d.boundJob n with
  | none => (.fault 0x01 0 0, d)
  | some (tag, j) =>
    if sownOver j then k tag j (d.upJob tag (fun j => { j with sownOpen := true }))
    else (.hold, d.upJob tag (fun j => { j with sownOpen := false }))

/-- The first run of staged neighbours within a 16-byte unit: where it lies, and its bytes. -/
def stagedRun : List (Nat × Byte) → List Byte
  | [] => []
  | (a, b) :: rest =>
    match rest with
    | (a', _) :: _ => if a' = a + 1 ∧ a' % 16 ≠ 0 then b :: stagedRun rest else [b]
    | [] => [b]

/-- The staged stores of a journaled CONTROL job copied to their places as its program ends (R267), run by run, those made being dropped; a far one
is the job's own (R19). The answer is how the commit ended, once it has. -/
def commitControl (d : Device) (ch tag : Nat) : Nat → List (Nat × Byte) → Option (Option Fail) × Device
  | _, [] => (some none, d.upJob tag (fun j => { j with stageCells := [] }))
  | 0, cells => (none, d.upJob tag (fun j => { j with stageCells := cells }))
  | fuel + 1, (a, b) :: rest =>
    let bs := stagedRun ((a, b) :: rest)
    if ¬ d.fenceOk ch a bs.length then (some (some { status := stFenceViolation }), d.refuseFence ch greenSlice a false)
    else
      match d.writeHigh a bs with
      | (.ok _, d) => commitControl d ch tag fuel (((a, b) :: rest).drop bs.length)
      | (.wait, d) => (none, (d.ownFar tag a).upJob tag (fun j => { j with stageCells := (a, b) :: rest }))
      | (_, d) => (some (some { status := stMemoryLost }), d)

/-! ## The end of a CONTROL job (R267, R312, R338) -/

/-- The staged bytes of a journaled CONTROL job by 16-byte unit: its number, the bytes of it that are stored, and their value. -/
def stagedUnits (cells : List (Nat × Byte)) : List (Nat × Nat × Nat) :=
  ((cells.map (fun c => c.1 / 16)).eraseDups).map (fun u =>
    let mine := cells.filter (fun c => c.1 / 16 = u)
    (u, mine.foldl (fun m c => m ||| 2 ^ (c.1 % 16)) 0, mine.foldl (fun v c => putField v (8 * (c.1 % 16)) 8 c.2.toNat) 0))

/-- The entries of that image in the journal, in the layout of a scatter destination (R265): a unit's number with the mask of its bytes above
it, then its value; an entry of ones ends the image (DESIGN CHOICE, log entry 93). -/
def exitImage (cells : List (Nat × Byte)) : List Nat :=
  (stagedUnits cells).map (fun u => u.1 % 2 ^ 64 + u.2.1 * 2 ^ 64 + u.2.2 * 2 ^ 128) ++ [2 ^ 256 - 1]

/-- Address of an entry of the image of an extent. -/
def exitEntry (d : Device) (ch joff k : Nat) : Nat := d.journalBase ch + joff * 65536 + 32 * k

/-- The image written to its extent, from entry `k` on; whether all of it has been. -/
def writeExit (d : Device) (tag : Nat) (j : Job) : List Nat → Nat → Bool × Device
  | [], _ => (true, d.upJob tag (fun j => { j with exitAt := 0 }))
  | v :: vs, k =>
    match d.writePa (d.exitEntry j.ch j.joff k) (bytesOf 32 v) with
    | (.wait, d) => (false, d.upJob tag (fun j => { j with exitAt := k }))
    | (_, d) => writeExit d tag j vs (k + 1)

/-- The bytes of an entry of the image. -/
def entryCells (v : Nat) : List (Nat × Byte) :=
  (List.range 16).filterMap (fun b => if (field v 64 16).testBit b then some (field v 0 64 * 16 + b, (BitVec.ofNat 8 (field v (128 + 8 * b) 8) : Byte)) else none)

/-- The image read back, from entry `k` on, and with `keep` its bytes staged again; poison and loss found there (R249). The answer is how the reading
ended, once it has. -/
def readExit (d : Device) (tag : Nat) (j : Job) (keep : Bool) : Nat → Nat → Option (Option Fail) × Device
  | 0, _ => (some none, d.upJob tag (fun j => { j with exitRead := true }))
  | n + 1, k =>
    match d.readPa (d.exitEntry j.ch j.joff k) 32 with
    | (.wait, d) => (none, d)
    | (.ok v, d) =>
      if v = 2 ^ 256 - 1 then (some none, d.upJob tag (fun j => { j with exitRead := true }))
      else
        readExit (d.upJob tag (fun j => { j with exitAt := k + 1, stageCells := if keep then j.stageCells ++ entryCells v else j.stageCells })) tag j keep n (k + 1)
    | (.poison, d) => (some (some { status := stPoison }), d)
    | (_, d) => (some (some { status := stMemoryLost }), d)

/-- The image of a CONTROL job read from the journal and then copied to its places; how that ended, once it has. -/
def commitExit (d : Device) (tag : Nat) (j : Job) (keep : Bool) : Option (Option Fail) × Device :=
  let read : Option (Option Fail) × Device := if j.exitRead then (some none, d) else d.readExit tag j keep (2048 * (d.journalPlace j.ch).2 - j.exitAt) j.exitAt
  match read with
  | (some none, d) =>
    match d.job? tag with
    | some j => d.commitControl j.ch tag j.stageCells.length j.stageCells
    | none => (none, d)
  | r => r

/-- The status of a CONTROL job whose program has ended: a sown failure before a failed commit before its EXIT code. -/
def exitFail (exit bad : Option Fail) : Option Fail :=
  match exit, bad with
  | some f, some b => if f.status = stAborted then some b else some f
  | some f, none => some f
  | none, b => b

/-- A CONTROL job over. -/
def overControl (d : Device) (tag : Nat) (f : Option Fail) : Device :=
  (d.freeExtent tag).upJob tag (fun j =>
    let j := { j with stageCells := [], exitAt := 0, exitRead := false }
    match f with
    | some f => { j with stop := if j.stop.isSome then j.stop else some f }
    | none => { j with workDone := true })

/-- A step of the staged stores of a CONTROL job on their way from its EXIT to their destinations: extent and step 4, image and step 5, then the
commit (R250, R267). The answer is how the commit ended, once it has. -/
def stageExit (d : Device) (tag : Nat) (j : Job) : Option (Option Fail) × Device :=
  let n := ceilDiv (32 * (exitImage j.stageCells).length) 65536
  let chain := j.next % 65536
  if (d.chan j.ch).ledgerQ.any (fun w => w.tag = tag) then (none, d)
  else if j.jphase = .staged ∧ j.jchain = chain ∧ d.hasExtent tag then d.commitExit tag j false
  else if j.stageCells = [] then (some none, d)
  else if n > (d.journalPlace j.ch).2 then (some (some { status := stRejectReplay, detail := 0x9F }), d)
  else if ¬ d.hasExtent tag then
    match d.takeUnits tag n chain with
    | some d => (none, d)
    | none => (none, if j.exitWith.isNone then d.count 3 0 0x0A0 else d)
  else if j.jphase = .staging ∧ j.jchain = chain then
    match d.writeExit tag j ((exitImage j.stageCells).drop j.exitAt) j.exitAt with
    | (true, d) => (none, d.oweLedger tag 5 chain j.joff)
    | (false, d) => (none, d)
  else (none, d)

/-- EXIT at User privilege (R312, R338): SOWSYNC first, then the staged stores, then the end of the job. -/
def exitJob (d : Device) (n code len : Nat) : Ending × Device :=
  d.sowSync n (fun tag j d =>
    let own : Option Fail := if code % 256 = 0 then none else some { status := stAborted, detail := 0x80 ||| code % 128 }
    let exit := (j.sownFail.map (fun f => ({ status := f.status, detail := f.detail } : Fail))).orElse (fun _ => own)
    match d.stageExit tag j with
    | (none, d) => (.hold, d.upJob tag (fun j => { j with exitWith := some exit }))
    | (some bad, d) => (.done, (d.upReeve n (fun r => r.advance len)).overControl tag (exitFail exit bad)))

/-- The staged stores of a recovered CONTROL job, whose program had ended, committed again from the journal (R267, R269). -/
def redoExit (d : Device) (tag : Nat) (j : Job) (exit : Option Fail) : Device :=
  if j.st ≠ .running ∨ ¬ j.startedDurable ∨ j.stop.isSome ∨ j.workDone ∨ d.stoodDown ∨ ¬ (d.chan j.ch).st.live then d
  else
    match d.commitExit tag j true with
    | (none, d) => d
    | (some bad, d) => d.overControl tag (exitFail exit bad)

/-- SOW_RETIRE: the waiting SOW's instruction is copied by the Sower and the reeve goes on; a fault of the read waits for its resolution
(R335), and a SOW after a sown failure retires without effect (R336). -/
def sowRetire (d : Device) (n : Nat) : Device :=
  let r := d.reeve n
  match r.sow, d.boundJob n with
  | none, _ => d
  | some _, none => d.setReeve n { r with sow := none }
  | some (va), some (tag, j) =>
    let len := va / 2 ^ 64
    let va := va % 2 ^ 64
    let go (d : Device) : Device :=
      let d := d.upReeve n (fun r => { r.advance len with sow := none })
      if (d.reeve n).stepping then d.haltReeve n 2 else d
    let index := j.sownCount
    -- the sown instruction is refused in its order, once those before it have issued and completed (R37, R336)
    let failed (d : Device) (f : Fail) : Device := go (d.upJob tag (fun j => { j with sown := j.sown ++ [sownStop f.status f.detail], sownCount := j.sownCount + 1 }))
    if r.st ≠ 0 ∨ r.halted ∨ j.stop.isSome ∨ j.workDone ∨ d.stoodDown ∨ j.faults.any (fun f => f.place = .reeve) ∨ ¬ (d.chan j.ch).st.live then d
    else if j.sownFail.isSome ∨ j.refuse.isSome ∨ j.sown.any (fun v => v ≥ sownLimit) then go d
    else if index ≥ 2 ^ 32 - 1 then failed d { status := stRejectFormat }
    else if j.sown.length ≥ 16 then d
    else
      match d.xlate (entSpace (d.entry j.ch)) va .read { user := true } (d.chan j.ch).origin.isSome with
      | (.wait, d) => d
      | (.lost, d) => failed d { status := stMemoryLost }
      | (.cause c, d) =>
        if parkCause c ∧ ¬ entFailOnFault (d.gov j) then
          d.raiseFault tag { cause := c, access := 3, instr := index % 65536, element := 0, addr := va, place := .reeve }
        else failed d { status := causeStatus c, detail := c }
      | (.pa a _, d) =>
        let a := d.ownPa a
        if d.inReserved a 128 then failed d { status := stFenceViolation }
        else
          match (if d.allStaged n (.chan j.ch a) 128 then (.ok 0, d) else d.readHigh a 128) with
          | (.ok v, d) =>
            let v := d.withStaged n (.chan j.ch a) 128 v
            go (d.upJob tag (fun j => { j with sown := j.sown ++ [v], sownCount := j.sownCount + 1, sownOpen := true }))
          | (.wait, d) => d
          | (.poison, d) => failed d { status := stPoison }
          | (_, d) => failed d { status := stMemoryLost }

/-! ## One instruction -/

/-- A register written and the instruction complete. -/
def writeReg64 (d : Device) (n : Nat) (i : RInstr) (rd v : Nat) : Ending × Device :=
  (.done, d.upReeve n (fun r => (r.put rd v).advance i.len))

/-- A result that arrives beside the pipe (R329). -/
def besideReg (d : Device) (n : Nat) (i : RInstr) (v : Nat) : Ending × Device :=
  (.done, d.upReeve n (fun r =>
    ({ r with flight := r.flight ++ [{ bank := 0, ix := r.place i.rd, val := v % m64, div := i.op.divides }] } : Reeve).advance i.len))

/-- A load's value, extended, to a register. -/
def loadTo (n : Nat) (i : RInstr) (rd size : Nat) (signed : Bool) (x : Acc × Device) : Ending × Device :=
  match x with
  | (.ok v, d) => d.writeReg64 n i rd (if signed then signExtend (8 * size) 64 v else v)
  | (a, d) => (a.ending, d)

/-- A store done. -/
def stored (n : Nat) (i : RInstr) (x : Acc × Device) : Ending × Device :=
  match x with
  | (.ok _, d) => (.done, d.upReeve n (fun r => r.advance i.len))
  | (a, d) => (a.ending, d)

/-- A pair's value to a register pair. -/
def pairTo (n : Nat) (i : RInstr) (x : Acc × Device) : Ending × Device :=
  match x with
  | (.ok v, d) => (.done, d.upReeve n (fun r => ((r.put i.rd (v % m64)).put (i.rd + 1) (v / m64)).advance i.len))
  | (a, d) => (a.ending, d)

/-- A taken branch or jump. -/
def jumpTo (d : Device) (n target : Nat) : Ending × Device := (.done, d.upReeve n (fun r => { r with pc := target % m64 }))

/-- A branch that is taken where a condition holds. -/
def branchTo (d : Device) (n : Nat) (i : RInstr) (taken : Bool) (off : Nat) : Ending × Device :=
  if taken then d.jumpTo n ((d.reeve n).pc + off) else (.done, d.upReeve n (fun r => r.advance i.len))

/-- A memory access at User, or as a borrowing access (R322), of 2^SIZE bytes. -/
def memxSize (i : RInstr) : Nat := 2 ^ field i.f10 3 2

/-- R333: LOOP. -/
def runLoop (d : Device) (n : Nat) (i : RInstr) : Ending × Device :=
  let r := d.reeve n
  if field r.lcount 0 48 ≠ 0 then (.fault 0x01 0 0, d)
  else
    let count := field (r.get i.ra) 0 48
    let lend := (r.pc + 4 + 2 * i.imm) % m64
    let set (r : Reeve) (pc : Nat) : Reeve := { r with lcount := count + i.imm * 2 ^ 48, lend := lend, pc := pc }
    if count ≠ 0 then (.done, d.setReeve n (set r ((r.pc + 4) % m64)))
    else
      -- the body is skipped; the length of the instruction at LEND decides where execution goes on
      match d.fetchHalf n (lend / 2 * 2) 0 with
      | (.ok h, d) => (.done, d.upReeve n (fun r => set r ((lend + (if h % 2 = 0 then 2 else 4)) % m64)))
      | (a, d) => (a.ending, d)

/-- A window move that waits for every result in flight, so that what it spills, fills or links is settled. -/
def settled (d : Device) (n : Nat) (x : Acc × Device) : Ending × Device :=
  if (d.reeve n).flight ≠ [] then (.hold, d) else (x.1.ending, x.2)

/-- CSRR, CSRW, CSRS and CSRC (R316, R340). -/
def runCsr (d : Device) (n : Nat) (i : RInstr) : Ending × Device :=
  let r := d.reeve n
  if i.op = .csrr then
    if crReads r.priv i.rb then d.writeReg64 n i i.rd (r.cr i.rb) else (.fault 0x01 0 0, d)
  else
    let v := crNew i.op (r.cr i.rb) (r.get i.ra)
    if crWrites r.priv i.rb ∧ crValueOk r.priv i.rb v then
      -- the write is made after the instruction's own loop step, which a write of LCOUNT or LEND replaces
      (.done, d.setReeve n ((r.advance i.len).setCr i.rb v))
    else (.fault 0x01 0 0, d)

/-- What one decoded instruction does. `ecc` is what the ECC check of a load finds. -/
def runOp (d : Device) (n : Nat) (i : RInstr) (ecc : Nat) : Ending × Device :=
  let r := d.reeve n
  let a := r.get i.ra
  let b := r.get i.rb
  let rd := r.get i.rd
  let illegal : Ending × Device := (.fault 0x01 0 0, d)
  let go (d : Device) : Ending × Device := (.done, d.upReeve n (fun r => r.advance i.len))
  let s7 := (r.get 7 + i.imm * 8) % m64
  let addr := (a + i.imm) % m64
  match i.op with
  | .setq => d.writeReg64 n i i.rd i.imm
  | .addq => d.writeReg64 n i i.rd (rd + i.imm)
  | .ldq => loadTo n i i.rd 8 false (d.reeveLoad n false false s7 8 ecc)
  | .stq => stored n i (d.reeveStore n false false s7 (bytesOf 8 rd))
  | .shlq => d.writeReg64 n i i.rd (rd * 2 ^ i.imm)
  | .shrq => d.writeReg64 n i i.rd (sra64 rd i.imm)
  | .rorq => d.writeReg64 n i i.rd (ror64 rd i.imm)
  | .jzq => d.branchTo n i (rd = 0) (i.imm * 2)
  | .jnzq => d.branchTo n i (rd ≠ 0) (i.imm * 2)
  | .decq =>
    let v := (rd + m64 - 1) % m64
    (d.upReeve n (fun r => r.put i.rd v)).branchTo n i (v ≠ 0) (i.imm * 2)
  | .goq => d.jumpTo n (r.pc + i.imm * 2)
  | .callq => d.settled n (d.callTo n ((r.pc + i.imm * 2) % m64) i.len)
  | .movq => d.writeReg64 n i i.rd b
  | .addrq => d.writeReg64 n i i.rd (rd + b)
  | .subq => d.writeReg64 n i i.rd (rd + m64 - b)
  | .andq => d.writeReg64 n i i.rd (rd &&& b)
  | .jmpq => d.jumpTo n (rd / 2 * 2)
  | .retq => d.settled n (d.ret n)
  | .nopq => go d
  | .ldhi => d.writeReg64 n i i.rd (signExtend 32 64 (i.imm * 4096 % 2 ^ 32))
  | .pcadd => d.writeReg64 n i i.rd (r.pc + i.imm * 4096)
  | .ldb => loadTo n i i.rd 1 true (d.reeveLoad n false false addr 1 ecc)
  | .ldbu => loadTo n i i.rd 1 false (d.reeveLoad n false false addr 1 ecc)
  | .ldh => loadTo n i i.rd 2 true (d.reeveLoad n false false addr 2 ecc)
  | .ldhu => loadTo n i i.rd 2 false (d.reeveLoad n false false addr 2 ecc)
  | .ldw => loadTo n i i.rd 4 true (d.reeveLoad n false false addr 4 ecc)
  | .ldwu => loadTo n i i.rd 4 false (d.reeveLoad n false false addr 4 ecc)
  | .ldd => loadTo n i i.rd 8 false (d.reeveLoad n false false addr 8 ecc)
  | .stb => stored n i (d.reeveStore n false false addr (bytesOf 1 b))
  | .sth => stored n i (d.reeveStore n false false addr (bytesOf 2 b))
  | .stw => stored n i (d.reeveStore n false false addr (bytesOf 4 b))
  | .std => stored n i (d.reeveStore n false false addr (bytesOf 8 b))
  | .jmp => ((d.upReeve n (fun r => r.put i.rd ((r.pc + i.len) % m64))).jumpTo n (r.pc + i.imm * 2))
  | .jmpr => ((d.upReeve n (fun r => r.put i.rd ((r.pc + i.len) % m64))).jumpTo n (addr / 2 * 2))
  | .call => d.settled n (d.callTo n ((r.pc + i.imm * 2) % m64) i.len)
  | .callr => d.settled n (d.callTo n (addr / 2 * 2) i.len)
  | .loop => d.runLoop n i
  | .bld => loadTo n i i.rd (memxSize i) true (d.reeveLoad n (r.priv ≠ 0) false a (memxSize i) ecc)
  | .bldu => loadTo n i i.rd (memxSize i) false (d.reeveLoad n (r.priv ≠ 0) false a (memxSize i) ecc)
  | .bst => stored n i (d.reeveStore n (r.priv ≠ 0) false a (bytesOf (memxSize i) b))
  | .ll => loadTo n i i.rd 8 false (d.reeveLL n a ecc)
  | .sc => loadTo n i i.rd 8 false (d.reeveSC n a b)
  | .aadd => pairTo n i (d.reeveAtomic n a false (if field i.f10 3 2 = 2 then 64 else 128) (b + r.get (i.rb + 1) * m64))
  | .aswp => pairTo n i (d.reeveAtomic n a true 128 (b + r.get (i.rb + 1) * m64))
  | .ret => d.settled n (d.ret n)
  | .rete => if r.priv = 0 then illegal else d.settled n (d.rete n)
  | .trap => if r.priv = 0 then illegal else (.trap 0x0A i.ra, d)
  | .wfi =>
    if r.priv = 0 then illegal
    else (.done, d.upReeve n (fun r => { r.advance i.len with wfi := (d.eligible n).isNone && !r.stepping }))
  | .fence => go d
  | .brk => if d.fld 14 0 0x044 n 1 = 1 then (.done, d.haltReeve n 3) else (.trap 0x0B 0, d)
  | .brkq => if d.fld 14 0 0x044 n 1 = 1 then (.done, d.haltReeve n 3) else (.trap 0x0B 0, d)
  | .exit => if r.priv = 0 then d.exitJob n a i.len else illegal
  | .sow =>
    if (d.boundJob n).isNone then illegal
    else if a % 128 ≠ 0 then (.fault 0x02 0 a, d)
    else (.hold, d.upReeve n (fun r => { r with sow := some (a + i.len * m64) }))
  | .sowq =>
    if (d.boundJob n).isNone then illegal
    else if rd % 128 ≠ 0 then (.fault 0x02 0 rd, d)
    else (.hold, d.upReeve n (fun r => { r with sow := some (rd + i.len * m64) }))
  | .sowsync => d.sowSync n (fun _ j d => d.writeReg64 n i i.rd (sownResult j))
  | .csrr => d.runCsr n i
  | .csrw => d.runCsr n i
  | .csrs => d.runCsr n i
  | .csrc => d.runCsr n i
  | .mul => d.besideReg n i (alu .mul a b)
  | .mulh => d.besideReg n i (alu .mulh a b)
  | .mulhu => d.besideReg n i (alu .mulhu a b)
  | .div => d.besideReg n i (alu .div a b)
  | .divu => d.besideReg n i (alu .divu a b)
  | .rem => d.besideReg n i (alu .rem a b)
  | .remu => d.besideReg n i (alu .remu a b)
  | .slli => d.writeReg64 n i i.rd (alu .slli a (field i.f10 0 1 * 32 + i.rb))
  | .srli => d.writeReg64 n i i.rd (alu .srli a (field i.f10 0 1 * 32 + i.rb))
  | .srai => d.writeReg64 n i i.rd (alu .srai a (field i.f10 0 1 * 32 + i.rb))
  | .addi => d.writeReg64 n i i.rd (alu .addi a i.imm)
  | .andi => d.writeReg64 n i i.rd (alu .andi a i.imm)
  | .ori => d.writeReg64 n i i.rd (alu .ori a i.imm)
  | .xori => d.writeReg64 n i i.rd (alu .xori a i.imm)
  | .slti => d.writeReg64 n i i.rd (alu .slti a i.imm)
  | .sltiu => d.writeReg64 n i i.rd (alu .sltiu a i.imm)
  | .beq => d.branchTo n i (branchTaken .beq a b) (i.imm * 2)
  | .bne => d.branchTo n i (branchTaken .bne a b) (i.imm * 2)
  | .blt => d.branchTo n i (branchTaken .blt a b) (i.imm * 2)
  | .bge => d.branchTo n i (branchTaken .bge a b) (i.imm * 2)
  | .bltu => d.branchTo n i (branchTaken .bltu a b) (i.imm * 2)
  | .bgeu => d.branchTo n i (branchTaken .bgeu a b) (i.imm * 2)
  | op =>
    if op.long then
      if ¬ i.longOk ∨ (op ≠ .lsize ∧ r.vl > i.vlmax) then illegal
      else if ¬ r.le then (.fault 0x0C 0 0, d)
      else d.runLong n i
    else d.writeReg64 n i i.rd (alu op a b)

/-! ## A reeve's turn -/

/-- Whether a reeve may execute its next instruction: in service and at a boundary, no halt due, not waiting at WFI, no interrupt to
take first (R343), and at User privilege its job running, with the record of its start durable and no reason to stop (R309, R313). -/
def mayRun (d : Device) (n : Nat) : Bool :=
  let r := d.reeve n
  d.atBoundary n && !(r.haltReq && !r.locked) && !r.wfi && ((d.dueInterrupt n).isNone || r.longFlight) && (r.priv ≠ 0 || d.jobRuns n)

/-- What follows an instruction of a length: a fault or trap is taken, and a step ends (R520). A trap's entry that waits for memory leaves the
instruction to be made again. -/
def finishInstr (d : Device) (n len : Nat) (atomic : Bool) (e : Ending) : Device :=
  match e with
  | .done => if (d.reeve n).stepping then d.haltReeve n 2 else d
  | .hold => d
  | .fault c x a => (d.except n { code := c, detail := x, faddr := a, atomic := atomic } (d.reeve n).pc).2
  | .trap c x =>
    let old := d.reeve n
    let d := d.upReeve n (fun r => r.advance len)
    match d.except n { code := c, detail := x, trap := true } (d.reeve n).pc with
    | (true, d) => d
    | (false, d) => d.upReeve n (fun r => { r with pc := old.pc, lcount := old.lcount })

/-- One instruction of reeve `n`, where the one at its PC is the operation named; nothing happens otherwise. -/
def reeveStep (d : Device) (n : Nat) (op : ROp) (ecc : Nat) : Device :=
  if d.mayRun n ∨ (op = .wfi ∧ ¬ (d.reeve n).wfi ∧ d.atBoundary n ∧ (d.reeve n).priv ≠ 0 ∧ ¬ (d.reeve n).haltReq) then
    match d.fetchAt n (d.reeve n).pc 0 with
    | (.instr (some i), d) =>
      if i.op = op ∧ (d.reeve n).scoreboard i then
        let (e, d) := d.runOp n i ecc
        d.finishInstr n i.len (op = .aadd || op = .aswp) e
      else d
    | (_, d) => d
  else d

/-- ILLEGAL_INSTR: the words at the PC spell no instruction (R323). -/
def illegalStep (d : Device) (n : Nat) : Device :=
  if d.mayRun n then
    match d.fetchAt n (d.reeve n).pc 0 with
    | (.instr none, d) => d.finishInstr n 2 false (.fault 0x01 0 0)
    | (_, d) => d
  else d

/-- FETCH_FAULT: the fetch at the PC faults; `ecc` is an error of the lines of its two halfwords (R332). -/
def fetchFaultStep (d : Device) (n ecc : Nat) : Device :=
  if d.mayRun n then
    match d.fetchAt n (d.reeve n).pc ecc with
    | (.fault c x a, d) => d.finishInstr n 2 false (.fault c x a)
    | (_, d) => d
  else d

/-! ## CONTROL jobs (R308 to R310) -/

/-- The state of Table 11-1 for a job. -/
def Reeve.forJob (r : Reeve) (seq : Nat) (j : Job) : Reeve :=
  { r with pc := dsProgram j.desc, status := 0x84, winptr := 0x30, lcount := 0, lend := 0, vl := 0, vstart := 0
           regs := [(0, dsArg j.desc), (1, j.ch), (2, seq)], lregs := [], mregs := [], longReady := r.le && r.longReady, flight := []
           resv := none, locked := false, wfi := false, sow := none, longAt := none, longFlight := false, handler := 0 }

/-- CONTROL_JOB: a CONTROL job starts on the free CONTROL reeve of the lowest logical number; one recovered after its program had ended needs
none. -/
def startControl (d : Device) (tag : Nat) : Device :=
  match d.job? tag with
  | none => d
  | some j =>
    if dsKind j.desc ≠ 1 then d
    else if j.st ≠ .waiting then
      match j.exitWith, j.reeve with
      | some exit, none => d.redoExit tag j exit
      | _, _ => d
    else if d.mayStart j ∧ d.power.step ≥ 3 then
      if j.exitWith.isSome then d.startJob tag
      else
        match d.freeReeve with
        | none => d
        | some n =>
          let d := d.startJob tag
          let d := d.upJob tag (fun j => { j with reeve := some n, sownOpen := true, sown := [], sownCount := 0, sownFail := none, stageCells := [], stagePages := [], exitAt := 0, exitRead := false })
          d.upReeve n (fun r => Reeve.forJob r j.seq j)
    else d

end Device

end Sys2Proof.Machine
end

