-- ==== Sys2Proof/Machine/ChannelCommands.lean ====
section
/-! DEFINITION. Channels, job rings and jobs: the meaning of each command, one line over the operations of the module. -/
namespace Sys2Proof.Machine

/-- DOORBELL (R223). -/
def execDoorbell (p fn ch v : Nat) (s : State) : Answer := s.act (fun d => d.dbWrite p fn ch 0x000 v)
/-- DESCRIPTOR_FETCH (R558). -/
def execDescriptorFetch (ch : Nat) (s : State) : Answer := s.act (fun d => d.fetchTurn ch 64)
/-- JOB_ACCEPT (R230). -/
def execJobAccept (ch : Nat) (s : State) : Answer := s.act (fun d => d.acceptJob ch)
/-- LEDGER_WRITE_DURABLE (R250). -/
def execLedgerWriteDurable (ch : Nat) (s : State) : Answer := s.act (fun d => d.ledgerWrite ch)
/-- STREAM_JOB (R35). -/
def execStreamJob (tag : Nat) (s : State) : Answer := s.act (fun d => d.startStream tag)
/-- CONTROL_JOB (R310). -/
def execControlJob (tag : Nat) (s : State) : Answer := s.act (fun d => d.startControl tag)
/-- COPY_JOB (R226). -/
def execCopyJob (tag : Nat) (s : State) : Answer := s.act (fun d => d.copyJob tag false)
/-- FILL_JOB (R226). -/
def execFillJob (tag : Nat) (s : State) : Answer := s.act (fun d => d.copyJob tag true)
/-- FENCE_JOB (R227). -/
def execFenceJob (tag : Nat) (s : State) : Answer := s.act (fun d => d.fenceJob tag 3)
/-- MARK_JOB (R227). -/
def execMarkJob (tag : Nat) (s : State) : Answer := s.act (fun d => d.fenceJob tag 4)
/-- JOB_FINISH (R234). -/
def execJobFinish (tag : Nat) (s : State) : Answer := s.act (fun d => d.endJob tag)
/-- COMPLETION_RECORD_WRITE (R236). -/
def execCompletionRecordWrite (ch : Nat) (s : State) : Answer := s.act (fun d => d.writeRecord ch)
/-- LEDGER_RETIRE (R250). -/
def execLedgerRetire (ch : Nat) (s : State) : Answer := s.act (fun d => d.retire ch)
/-- RECORD_WRITE_FAILURE (R559). -/
def execRecordWriteFailure (ch : Nat) (s : State) : Answer := s.act (fun d => d.recordFailure ch)
/-- CR_HEAD_WRITE (R238). -/
def execCrHeadWrite (p fn ch v : Nat) (s : State) : Answer := s.act (fun d => d.dbWrite p fn ch 0x00C v)
/-- FQ_HEAD_WRITE (R243). -/
def execFqHeadWrite (p fn ch v : Nat) (s : State) : Answer := s.act (fun d => d.dbWrite p fn ch 0x014 v)
/-- FAULT_ENTRY_POST (R242). -/
def execFaultEntryPost (ch : Nat) (s : State) : Answer := s.act (fun d => d.postFault ch)
/-- ENABLE (R556). -/
def execEnable (p fn ch : Nat) (s : State) : Answer := s.act (fun d => d.dbWrite p fn ch 0x01C 1)
/-- PAUSE (R239). -/
def execPause (p fn ch : Nat) (s : State) : Answer := s.act (fun d => d.dbWrite p fn ch 0x01C 2)
/-- RESUME (R239). -/
def execResume (p fn ch : Nat) (s : State) : Answer := s.act (fun d => d.dbWrite p fn ch 0x01C 3)
/-- ABORT (R239). -/
def execAbort (p fn ch : Nat) (s : State) : Answer := s.act (fun d => d.dbWrite p fn ch 0x01C 4)
/-- DRAIN (R239). -/
def execDrain (p fn ch : Nat) (s : State) : Answer := s.act (fun d => d.dbWrite p fn ch 0x01C 5)
/-- DRAIN_COMPLETE (R260). -/
def execDrainComplete (ch : Nat) (s : State) : Answer := s.act (fun d => d.drainDone ch)
/-- CHANNEL_ENTRY_LOAD (R218). -/
def execChannelEntryLoad (ch : Nat) (s : State) : Answer := s.act (fun d => (d.entryLoad ch).applyWaits ch)
/-- CHN_INV (R221). -/
def execChnInv (i : Initiator) (ch all : Nat) (s : State) : Answer := s.act (fun d => d.writeReg i 4 0 0x04C 0 (ch + all * 2 ^ 12 + 2 ^ 31))
/-- CHN_INV_COMPLETE (R221). -/
def execChnInvComplete (s : State) : Answer := s.act (fun d => d.chnInvDone)
/-- COMMIT (R240). -/
def execCommit (p fn ch v : Nat) (s : State) : Answer := s.act (fun d => d.dbWrite p fn ch 0x028 v)
/-- SHADOW_APPLY (R240). -/
def execShadowApply (ch : Nat) (s : State) : Answer := s.act (fun d => d.shadowApply ch)

end Sys2Proof.Machine
end

