-- ==== Sys2Proof/Machine/DebugCommands.lean ====
section
/-! DEFINITION. Debug and the Tally port: the meaning of each command, one line over the operations of the module. -/
namespace Sys2Proof.Machine

/-- TALLY_WAKE_SEQUENCE (R512). -/
def execTallyWakeSequence (s : State) : Answer := s.act (fun d => d.tallyWake)
/-- TALLY_DIO_LOW_RESET (R512). -/
def execTallyDioLowReset (s : State) : Answer := s.act (fun d => d.tallyLow)
/-- TALLY_READ_FRAME (R513). -/
def execTallyReadFrame (hdr crc : Nat) (s : State) : Answer := s.act (fun d => d.tallyFrame false hdr 0 crc)
/-- TALLY_WRITE_FRAME (R513). -/
def execTallyWriteFrame (hdr wdata crc : Nat) (s : State) : Answer := s.act (fun d => d.tallyFrame true hdr wdata crc)
/-- DBG_HALT (R518). -/
def execDbgHalt (i : Initiator) (n : Nat) (s : State) : Answer := s.act (fun d => d.writeReg i 14 0 0x040 0 (2 ^ n))
/-- HALT_TAKES_EFFECT (R518). -/
def execHaltTakesEffect (n : Nat) (s : State) : Answer := s.act (fun d => d.haltEffect n)
/-- FORCED_HALT (R518). -/
def execForcedHalt (n : Nat) (s : State) : Answer := s.act (fun d => d.forcedHalt n)
/-- DBG_RESUME (R520). -/
def execDbgResume (i : Initiator) (n : Nat) (s : State) : Answer := s.act (fun d => d.writeReg i 14 0 0x040 0 (2 ^ (8 + n)))
/-- DBG_STEP (R520). -/
def execDbgStep (i : Initiator) (n : Nat) (s : State) : Answer := s.act (fun d => d.writeReg i 14 0 0x040 0 (2 ^ (16 + n)))
/-- DBG_REG_READ (R522). -/
def execDbgRegRead (i : Initiator) (s : State) : Answer := s.act (fun d => (d.readReg i 14 0 0x054 0).2)
/-- DBG_REG_WRITE (R522). -/
def execDbgRegWrite (i : Initiator) (v : Nat) (s : State) : Answer := s.act (fun d => d.writeReg i 14 0 0x054 0 v)
/-- DBG_MM_GO (R523). -/
def execDbgMmGo (i : Initiator) (write auto consume : Nat) (s : State) : Answer :=
  s.act (fun d => d.writeReg i 14 0 0x070 0 (1 + 2 * write + 4 * auto + 8 * consume))
/-- DBG_MM_DATA_AUTO (R523). -/
def execDbgMmDataAuto (i : Initiator) (wdata : Option Nat) (s : State) : Answer :=
  s.act (fun d => match wdata with | some v => d.writeReg i 14 0 0x06C 0 v | none => (d.readReg i 14 0 0x06C 0).2)
/-- MM_ACCESS_DONE (R524). -/
def execMmAccessDone (s : State) : Answer := s.act (fun d => d.mmDone)
/-- DEBUG_RESET (R526). -/
def execDebugReset (i : Initiator) (s : State) : Answer := s.act (fun d => d.writeReg i 14 0 0x060 0 1)
/-- DROP_AUTH (R516). -/
def execDropAuth (i : Initiator) (s : State) : Answer := s.act (fun d => d.writeReg i 14 0 0x060 0 2)
/-- MARK (R525). -/
def execDbgMark (i : Initiator) (v : Nat) (s : State) : Answer := s.act (fun d => d.writeReg i 14 0 0x060 0 (4 + v % 2 ^ 16 * 2 ^ 16))
/-- AUTH_EXPIRY (R516). -/
def execAuthExpiry (s : State) : Answer := s.act (fun d => d.authExpiry)

end Sys2Proof.Machine
end

