-- ==== Sys2Proof/Machine/FabricCommands.lean ====
section
/-! DEFINITION. Boot remap, housekeeping DMA and mailboxes: the meaning of each command, one line over the operations of the module. -/
namespace Sys2Proof.Machine

/-- The side of a mailbox an initiator sees (R375). -/
def mbxKind : Initiator → Nat
  | .reeve _ => kMbxReeve
  | _ => 13

/-- REMAP (R362). -/
def execRemap (i : Initiator) (s : State) : Answer := s.act (fun d => d.writeReg i 20 0 0x040 0 1)
/-- HKD_COPY (R369). -/
def execHkdCopy (i : Initiator) (n : Nat) (s : State) : Answer := s.act (fun d => d.hkdStart i n 0)
/-- HKD_FILL (R369). -/
def execHkdFill (i : Initiator) (n : Nat) (s : State) : Answer := s.act (fun d => d.hkdStart i n 1)
/-- HKD_COMPARE (R371). -/
def execHkdCompare (i : Initiator) (n : Nat) (s : State) : Answer := s.act (fun d => d.hkdStart i n 2)
/-- HKD_BURST_RESPONSE (R371) of channel `n`; with 8 added, the next channel's burst answers in the same cycle (log entry 108). -/
def execHkdBurstResponse (n : Nat) (s : State) : Answer := s.act (fun d => d.hkdBurst (n % 8) (n ≥ 8))
/-- HKD_DISABLE (R374). -/
def execHkdDisable (i : Initiator) (n : Nat) (s : State) : Answer :=
  s.act (fun d => d.writeReg i 21 0 (hkdBase n + 0x24) 0 (d.hkdOp n + 2 ^ 9))
/-- HKD_RESUME (R373). -/
def execHkdResume (i : Initiator) (s : State) : Answer := s.act (fun d => d.writeReg i 21 0 0x040 0 1)
/-- MBX_TX_LO_WRITE (R376). -/
def execMbxTxLoWrite (i : Initiator) (n v : Nat) (s : State) : Answer := s.act (fun d => d.writeReg i (mbxKind i) n 0x040 0 v)
/-- MBX_PUSH (R376). -/
def execMbxPush (i : Initiator) (n v : Nat) (s : State) : Answer := s.act (fun d => d.writeReg i (mbxKind i) n 0x044 0 v)
/-- MBX_POP (R377). -/
def execMbxPop (i : Initiator) (n : Nat) (s : State) : Answer := s.act (fun d => (d.readReg i (mbxKind i) n 0x048 0).2)
/-- MBX_CROSSED (R381). -/
def execMbxCrossed (n : Nat) (s : State) : Answer := s.act (fun d => d.mbxCross n)

end Sys2Proof.Machine
end

