-- ==== Sys2Proof/Machine/HostCommands.lean ====
section
/-! DEFINITION. The host link: the meaning of each command, one line over the operations of the module. -/
namespace Sys2Proof.Machine

/-- MSIX_MESSAGE (R394). -/
def execMsixMessage (p : Nat) (s : State) : Answer := s.act (fun d => d.msixMessage p)
/-- BAR_ACCESS (R386). -/
def execBarAccess (p fn bar off len : Nat) (wdata : Option (List Byte)) (s : State) : Answer :=
  s.act (fun d => d.barAccess p fn bar off len wdata)
/-- HDM_COMMIT (R387). -/
def execHdmCommit (p base size ways : Nat) (s : State) : Answer := s.act (fun d => d.hdmCommit p base size ways)
/-- CXL_MEM_READ (R388). -/
def execCxlMemRead (p hpa : Nat) (s : State) : Answer := s.act (fun d => d.memRead p hpa)
/-- CXL_MEM_WRITE (R553). -/
def execCxlMemWrite (p hpa enables data : Nat) (poison : Bool) (s : State) : Answer := s.act (fun d => d.memWrite p hpa enables data poison)
/-- H2D_SNOOP (R390). -/
def execH2dSnoop (p line : Nat) (inval : Bool) (s : State) : Answer := s.act (fun d => d.snoop p line inval)
/-- LINK_WAIT_EXPIRY (R397). -/
def execLinkWaitExpiry (p : Nat) (s : State) : Answer := s.act (fun d => d.linkWaitOver p)
/-- HLK_CFG_WRITE (R400). -/
def execHlkCfgWrite (i : Initiator) (p v : Nat) (s : State) : Answer := s.act (fun d => d.writeReg i 6 p 0x040 0 v)
/-- MSIX_TABLE_WRITE (R393). -/
def execMsixTableWrite (p fn off v : Nat) (s : State) : Answer := s.act (fun d => d.msixWrite p fn off v)
/-- CONFIGURATION_SPACE_WRITE (R391). -/
def execConfigurationSpaceWrite (p fn : Nat) (field : ConfigField) (v : Nat) (s : State) : Answer :=
  s.act (fun d => d.configWrite p fn field v)

end Sys2Proof.Machine
end

