-- ==== Sys2Proof/Machine/LedgerCommands.lean ====
section
/-! DEFINITION. Leases, adoption and recovery of the ledger: the meaning of each command, one line over the operations of the module. -/
namespace Sys2Proof.Machine

/-- LEASE_READBACK (R274). -/
def execLeaseReadback (ch : Nat) (s : State) : Answer := s.act (fun d => d.leaseReadback ch)
/-- ADOPTION (R277). -/
def execAdoption (origin ch : Nat) (s : State) : Answer := s.act (fun d => d.adopt origin ch)
/-- LDG_ADOPT_CMD (R275). -/
def execLdgAdoptCmd (i : Initiator) (origin : Nat) (s : State) : Answer := s.act (fun d => d.writeReg i 3 0 0x050 0 (origin + 2 ^ 31))
/-- ADOPT_LOG_POP (R279). -/
def execAdoptLogPop (i : Initiator) (s : State) : Answer := s.act (fun d => (d.readReg i 3 0 0x054 0).2)
/-- CLEAR (R261). -/
def execClear (i : Initiator) (ch : Nat) (s : State) : Answer := s.act (fun d => d.writeReg i 3 0 0x05C 0 (ch + 2 ^ 12))
/-- LDG_CFG_WRITE (R282). -/
def execLdgCfgWrite (i : Initiator) (v : Nat) (s : State) : Answer := s.act (fun d => d.writeReg i 3 0 0x040 0 v)
/-- CHANNEL_RECOVERY (R269). -/
def execChannelRecovery (ch : Nat) (s : State) : Answer := s.act (fun d => d.recoverChan ch)

end Sys2Proof.Machine
end

