-- ==== Sys2Proof/Machine/ManagementCommands.lean ====
section
/-! DEFINITION. Management and security: the meaning of each command, one line over the operations of the module. -/
namespace Sys2Proof.Machine

/-- PLDM_READ (R493). -/
def execPldmRead (binding what : Nat) (s : State) : Answer := s.act (fun d => d.pldmRead binding what)
/-- REQUEST_UPDATE (R493). -/
def execRequestUpdate (binding version svn : Nat) (image : List Byte) (s : State) : Answer :=
  s.act (fun d => d.requestUpdate binding version svn image)
/-- VERIFY_COMPLETE (R507). -/
def execVerifyComplete (binding : Nat) (s : State) : Answer := s.act (fun d => d.verifyComplete binding)
/-- ACTIVATE_FIRMWARE (R507). -/
def execActivateFirmware (binding : Nat) (s : State) : Answer := s.act (fun d => d.activateFirmware binding)
/-- KEY_EXCHANGE (R493). -/
def execKeyExchange (binding : Nat) (io cm : Bool) (s : State) : Answer := s.act (fun d => d.keyExchange binding io cm)
/-- SPDM_MEASUREMENTS (R493). -/
def execSpdmMeasurements (binding ix : Nat) (s : State) : Answer := s.act (fun d => d.measurements binding ix)
/-- OPEN (R495). -/
def execGateOpen (m : GateMsg) (s : State) : Answer := s.act (fun d => d.gateOpen m)
/-- PROVE (R495). -/
def execGateProve (m : GateMsg) (s : State) : Answer := s.act (fun d => d.gateProve m)
/-- PROVE_TIMEOUT (R497). -/
def execProveTimeout (s : State) : Answer := s.act (fun d => d.proveTimeout)
/-- INFO (R500). -/
def execGateInfo (m : GateMsg) (s : State) : Answer := s.act (fun d => d.gateCommand m 1 1 0 (fun d _ _ => d.infoReply))
/-- SET_ID (R500). -/
def execGateSetId (m : GateMsg) (s : State) : Answer := s.act (fun d => d.gateCommand m 2 3 1 (fun d _ a => d.setIdReply a))
/-- WARM_RESET (R500). -/
def execGateWarmReset (m : GateMsg) (s : State) : Answer :=
  s.act (fun d => d.gateCommand m 3 1 2 (fun _ _ _ => { status := 0, act := fun d => d.requestWarm }))
/-- POWER (R500). -/
def execGatePower (m : GateMsg) (s : State) : Answer := s.act (fun d => d.gateCommand m 4 2 3 (fun _ _ a => Device.powerReply a))
/-- CAL_SET (R505). -/
def execGateCalSet (m : GateMsg) (s : State) : Answer := s.act (fun d => d.gateCommand m 5 4 4 (fun _ _ a => Device.calSetReply a))
/-- CAL_COMMIT (R506). -/
def execGateCalCommit (m : GateMsg) (s : State) : Answer :=
  s.act (fun d => d.gateCommand m 6 1 4 (fun _ _ _ => { status := 0, act := fun d => d.calCommit }))
/-- LIFECYCLE (R502). -/
def execGateLifecycle (m : GateMsg) (s : State) : Answer := s.act (fun d => d.gateCommand m 7 3 5 (fun d _ a => d.lifecycleReply a))
/-- DEBUG_AUTH (R516). -/
def execGateDebugAuth (m : GateMsg) (s : State) : Answer := s.act (fun d => d.gateCommand m 8 4 6 (fun d _ a => d.debugAuthReply a))
/-- SVN_COMMIT (R509). -/
def execGateSvnCommit (m : GateMsg) (s : State) : Answer := s.act (fun d => d.gateCommand m 9 1 7 (fun d _ _ => d.svnCommitReply))
/-- KEY_SET (R499). -/
def execGateKeySet (m : GateMsg) (s : State) : Answer :=
  s.act (fun d => d.gateCommand m 0xA 36 16 (fun _ s a => Device.keySetReply s m.seq a))
/-- KEY_REVOKE (R499). -/
def execGateKeyRevoke (m : GateMsg) (s : State) : Answer :=
  s.act (fun d => d.gateCommand m 0xB 2 16 (fun _ s a => Device.keyRevokeReply s a))
/-- CLOSE (R496). -/
def execGateClose (m : GateMsg) (s : State) : Answer := s.act (fun d => d.gateClose m)
/-- PROVISION (R503). -/
def execProvision (m : GateMsg) (s : State) : Answer := s.act (fun d => d.provision m)
/-- SESSION_IDLE_TIMEOUT (R496). -/
def execSessionIdleTimeout (s : State) : Answer := s.act (fun d => d.sessionIdle)
/-- TAMPER (R504). -/
def execTamper (stays : Bool) (s : State) : Answer := s.act (fun d => d.tamperInput stays)
/-- WIPE_DONE (R203). -/
def execWipeDone (s : State) : Answer := s.act (fun d => d.wipeDone)
/-- SET_ENDPOINT_ID (R492). -/
def execSetEndpointId (binding eid : Nat) (s : State) : Answer := s.act (fun d => d.setEndpointId binding eid)

end Sys2Proof.Machine
end

