-- ==== Sys2Proof/Machine/MemoryCommands.lean ====
section
/-! DEFINITION. Memory, arbitration and address translation: the meaning of each command, one line over the operations of the module. -/
namespace Sys2Proof.Machine

/-- An invalidation: the address registers written, then XLT_INV_CMD with GO (R302). -/
def Device.invCommand (d : Device) (i : Initiator) (asid va type size : Nat) : Device :=
  ((d.writeReg i 5 0 0x044 0 (va % 2 ^ 32)).writeReg i 5 0 0x048 0 (va / 2 ^ 32 % 2 ^ 32)).writeReg i 5 0 0x04C 0
    (asid % 2 ^ 16 + type * 2 ^ 16 + size % 64 * 2 ^ 19 + 2 ^ 31)

/-- SCRUB_READ (R207). -/
def execScrubRead (pa found : Nat) (s : State) : Answer := s.act (fun d => d.scrubRead pa found)
/-- STACK_LOST (R208). -/
def execStackLost (k : Nat) (s : State) : Answer := s.act (fun d => d.stackLostNow k)
/-- MEMORY_ATOMIC (R198). -/
def execMemoryAtomic (swap : Bool) (pa width v : Nat) (s : State) : Answer := s.act (fun d => d.memoryAtomic swap pa width v)
/-- HIGH_CLASS_WINDOW_END (R211). -/
def execHighClassWindowEnd (point : Nat) (s : State) : Answer := s.act (fun d => d.windowEnd point)
/-- ARB_CFG_WRITE (R214). -/
def execArbCfgWrite (i : Initiator) (kind inst v : Nat) (s : State) : Answer :=
  s.act (fun d => d.writeReg i kind inst (if kind = 20 then 0x044 else 0x040) 0 v)
/-- INV_PAGE (R302). -/
def execInvPage (i : Initiator) (asid va : Nat) (s : State) : Answer := s.act (fun d => d.invCommand i asid va 0 0)
/-- INV_RANGE (R302). -/
def execInvRange (i : Initiator) (asid va sizeLog2 : Nat) (s : State) : Answer := s.act (fun d => d.invCommand i asid va 1 sizeLog2)
/-- INV_ASID (R302). -/
def execInvAsid (i : Initiator) (asid : Nat) (s : State) : Answer := s.act (fun d => d.invCommand i asid 0 2 0)
/-- INV_ALL (R302). -/
def execInvAll (i : Initiator) (s : State) : Answer := s.act (fun d => d.invCommand i 0 0 3 0)
/-- INV_FIRMWARE (R302). -/
def execInvFirmware (i : Initiator) (s : State) : Answer := s.act (fun d => d.invCommand i 0 0 4 0)
/-- XLT_INV_COMPLETE (R303). -/
def execXltInvComplete (s : State) : Answer := s.act (fun d => d.invComplete)
/-- SEW_WINDOW_WRITE (R307). -/
def execSewWindowWrite (i : Initiator) (n hi v : Nat) (s : State) : Answer := s.act (fun d => d.writeReg i 5 0 (0x080 + 8 * n + 4 * hi) 0 v)

end Sys2Proof.Machine
end

