-- ==== Sys2Proof/Machine/PageCommands.lean ====
section
/-! DEFINITION. Sparing, snapshots and the common registers of a page: the meaning of each command, one line over the operations of the module. -/
namespace Sys2Proof.Machine

/-- SPR_CMD_GO (R469). -/
def execSprCmdGo (i : Initiator) (kind unit : Nat) (s : State) : Answer :=
  s.act (fun d => d.writeReg i 11 0 0x044 0 (kind + unit * 2 ^ 4 + 2 ^ 31))
/-- BANK_COPY_COMPLETE (R469). -/
def execBankCopyComplete (s : State) : Answer := s.act (fun d => d.bankCopied)
/-- SPR_LOG_POP (R469). -/
def execSprLogPop (i : Initiator) (s : State) : Answer := s.act (fun d => (d.readReg i 11 0 0x050 0).2)
/-- TAKE (R485). -/
def execTake (i : Initiator) (kind inst : Nat) (s : State) : Answer := s.act (fun d => d.writeReg i kind inst 0x020 1 1)
/-- HOLD (R486). -/
def execHold (i : Initiator) (kind inst : Nat) (on : Bool) (s : State) : Answer :=
  s.act (fun d => d.writeReg i kind inst 0x020 (if on then 1 else 2) 2)
/-- DEVICE_SNAPSHOT_TAKE (R487). -/
def execDeviceSnapshotTake (i : Initiator) (s : State) : Answer := s.act (fun d => d.writeReg i 1 0 0x058 0 1)
/-- DEVICE_SNAPSHOT_ARM (R488). -/
def execDeviceSnapshotArm (i : Initiator) (s : State) : Answer := s.act (fun d => d.writeReg i 1 0 0x058 0 2)
/-- DEVICE_SNAPSHOT_CANCEL (R488). -/
def execDeviceSnapshotCancel (i : Initiator) (s : State) : Answer := s.act (fun d => d.writeReg i 1 0 0x058 0 4)
/-- DEVICE_SNAPSHOT_AT_T (R487). -/
def execDeviceSnapshotAtT (s : State) : Answer := s.act (fun d => d.snapAtT)
/-- ZERO (R482). -/
def execZero (i : Initiator) (kind inst fz : Nat) (s : State) : Answer := s.act (fun d => d.writeReg i kind inst 0x008 0 (2 + fz))
/-- FREEZE (R482). -/
def execFreeze (i : Initiator) (kind inst : Nat) (on : Bool) (s : State) : Answer :=
  s.act (fun d => d.writeReg i kind inst 0x008 (if on then 1 else 2) 1)
/-- LOCK (R480). -/
def execLock (i : Initiator) (kind inst : Nat) (s : State) : Answer := s.act (fun d => d.writeReg i kind inst 0x01C 0 1)
/-- EVENT_FORCE (R478). -/
def execEventForce (i : Initiator) (kind inst v : Nat) (s : State) : Answer := s.act (fun d => d.writeReg i kind inst 0x018 0 v)
/-- SET_VIEW_WRITE (R483). -/
def execSetViewWrite (i : Initiator) (kind inst off v : Nat) (s : State) : Answer := s.act (fun d => d.writeReg i kind inst off 1 v)
/-- CLEAR_VIEW_WRITE (R483). -/
def execClearViewWrite (i : Initiator) (kind inst off v : Nat) (s : State) : Answer := s.act (fun d => d.writeReg i kind inst off 2 v)
/-- TOGGLE_VIEW_WRITE (R483). -/
def execToggleViewWrite (i : Initiator) (kind inst off v : Nat) (s : State) : Answer := s.act (fun d => d.writeReg i kind inst off 3 v)
/-- PAIR_LO_READ (R485). -/
def execPairLoRead (i : Initiator) (kind inst off : Nat) (s : State) : Answer := s.act (fun d => (d.readReg i kind inst off 0).2)
/-- REGISTER_WRITE (R476). -/
def execRegisterWrite (i : Initiator) (kind inst off v : Nat) (s : State) : Answer := s.act (fun d => d.writeReg i kind inst off 0 v)

end Sys2Proof.Machine
end

