-- ==== Sys2Proof/Machine/PowerCommands.lean ====
section
/-! DEFINITION. Start-up, power, hot plug and safety: the meaning of each command, one line over the operations of the module. -/
namespace Sys2Proof.Machine

/-- POWER_UP_INSERTION (R431). -/
def execInsertion (s : State) : Answer := s.act (fun d => d.insertion)
/-- INPUT_SWITCH_CLOSE (R430). -/
def execSwitchClose (a b : Bool) (s : State) : Answer := s.act (fun d => d.switchClose a b)
/-- PWRGD_ASSERT (R532). -/
def execPwrgdAssert (s : State) : Answer := s.act (fun d => d.pwrgdAssert)
/-- PERST_RELEASE (R432). -/
def execPerstRelease (p : Nat) (s : State) : Answer := s.act (fun d => d.perstRelease p)
/-- LINK_TRAINED (R383). -/
def execLinkTrained (p speed width : Nat) (flit256 : Bool) (s : State) : Answer := s.act (fun d => d.linkTrained p speed width flit256)
/-- FIRMWARE_LOADED (R508). -/
def execFirmwareLoaded (bad : Bool) (failed : List Nat) (s : State) : Answer := s.act (fun d => d.firmwareLoaded bad failed)
/-- HBM_TRAINING_DONE (R431). -/
def execHbmTrainingDone (failed : List Nat) (s : State) : Answer := s.act (fun d => d.hbmTrained failed)
/-- ALNAR_TRAINING_DONE (R431). -/
def execAlnarTrainingDone (ports : List Nat) (s : State) : Answer := s.act (fun d => d.alnarTrained ports)
/-- READY_SET (R433). -/
def execReadySet (s : State) : Answer := s.act (fun d => d.readySet)
/-- START_STEP_TIMEOUT (R433). -/
def execStartStepTimeout (step : Nat) (s : State) : Answer := s.act (fun d => d.stepTimeout step)
/-- GLB_RESET_WARM (R490). -/
def execGlbResetWarm (i : Initiator) (v : Nat) (s : State) : Answer := s.act (fun d => d.writeReg i 1 0 0x054 0 v)
/-- LINK_DOWN (R396). -/
def execLinkDown (p : Nat) (s : State) : Answer := s.act (fun d => d.portReset p)
/-- HOT_RESET (R396). -/
def execHotReset (p : Nat) (s : State) : Answer := s.act (fun d => d.portReset p)
/-- PORT_RECOVERY_START (R396). -/
def execPortRecoveryStart (p : Nat) (s : State) : Answer := s.act (fun d => d.portRecovery p)
/-- FLR_PF (R398). -/
def execFlrPf (p : Nat) (s : State) : Answer := s.act (fun d => d.flrPf p)
/-- FLR_VF (R398). -/
def execFlrVf (p fn : Nat) (s : State) : Answer := s.act (fun d => d.flrVf p fn)
/-- IDE_INTEGRITY_FAILURE (R395). -/
def execIdeIntegrityFailure (p : Nat) (s : State) : Answer := s.act (fun d => d.ideFailure p)
/-- CLOCK_FAULT (R23). -/
def execClockFault (dom : Nat) (s : State) : Answer := s.act (fun d => d.clockFault dom)
/-- CROSSING_TIMEOUT (R26). -/
def execCrossingTimeout (kind inst off view : Nat) (s : State) : Answer := s.act (fun d => d.crossingTimeout kind inst off view)
/-- WEST_EAST_LINK_FAILURE (R16). -/
def execWestEastLinkFailure (s : State) : Answer := s.act (fun d => d.linkFailure)
/-- LATCH_OPEN (R441). -/
def execLatchOpen (s : State) : Answer := s.act (fun d => d.latchOpen)
/-- DETACH_LIMIT_EXPIRY (R280). -/
def execDetachLimitExpiry (s : State) : Answer := s.act (fun d => d.detachLimit)
/-- SAFE_REACHED (R441). -/
def execSafeReached (s : State) : Answer := s.act (fun d => d.safeReached)
/-- LATCH_CLOSED_IN_SAFE (R442). -/
def execLatchClosedInSafe (s : State) : Answer := s.act (fun d => d.latchClosed)
/-- PRESENCE_LOST (R443). -/
def execPresenceLost (s : State) : Answer := s.act (fun d => d.presenceLost)
/-- PRESENCE_GAINED (R532). -/
def execPresenceGained (s : State) : Answer := s.act (fun d => d.presenceGained)
/-- VIN_UV (R439). -/
def execVinUv (s : State) : Answer := s.act (fun d => d.vinTrip 0)
/-- VIN_OV (R439). -/
def execVinOv (s : State) : Answer := s.act (fun d => d.vinTrip 1)
/-- VIN_RECOVERY (R431). -/
def execVinRecovery (s : State) : Answer := s.act (fun d => d.vinRecovery)
/-- BOARD_OT (R439). -/
def execBoardOt (s : State) : Answer := s.act (fun d => d.nightwatchStop 2)
/-- COOL_LOW (R439). -/
def execCoolLow (s : State) : Answer := s.act (fun d => d.nightwatchStop 7)
/-- ALN_DETECT (R440). -/
def execAlnDetect (s : State) : Answer := s.act (fun d => d.detect 4)
/-- MGMT_WAKE (R440). -/
def execMgmtWake (s : State) : Answer := s.act (fun d => d.detect 5)
/-- BELL_LOST (R439). -/
def execBellLost (s : State) : Answer := s.act (fun d => d.bellLost)
/-- WAKE_AT_STROKE (R440). -/
def execWakeAtStroke (s : State) : Answer := s.act (fun d => d.wakeAt)
/-- BLOCKING_COMPARATOR_RELEASE (R440). -/
def execBlockingComparatorRelease (bit : Nat) (s : State) : Answer := s.act (fun d => d.blockRelease bit)
/-- POWER_LOSS (R439). -/
def execPowerLoss (s : State) : Answer := s.act (fun d => d.powerLoss)
/-- QUIET (R437). -/
def execQuiet (i : Initiator) (s : State) : Answer := s.act (fun d => d.writeReg i 9 0 0x040 0 1)
/-- WAKE (R437). -/
def execWake (i : Initiator) (s : State) : Answer := s.act (fun d => d.writeReg i 9 0 0x040 0 2)
/-- STANDBY (R438). -/
def execStandby (i : Initiator) (s : State) : Answer := s.act (fun d => d.writeReg i 9 0 0x040 0 3)
/-- HAMLET_CLOCK_GATING (R436). -/
def execHamletClockGating (h : Nat) (s : State) : Answer := s.act (fun d => d.gateHamlet h)
/-- PHASE_SHED (R471). -/
def execPhaseShed (rail unit : Nat) (s : State) : Answer := s.act (fun d => d.phaseShed rail unit)
/-- THERMAL_STEP_DOWN (R180). -/
def execThermalStepDown (die : Nat) (s : State) : Answer := s.act (fun d => d.thermalStep die)
/-- POWER_LIMIT_STEP (R180). -/
def execPowerLimitStep (mhz : Nat) (s : State) : Answer := s.act (fun d => d.powerStep mhz)
/-- STAGGER_SLOT (R445). -/
def execStaggerSlot (coolWest coolEast : Bool) (s : State) : Answer := s.act (fun d => d.staggerSlot coolWest coolEast)

end Sys2Proof.Machine
end

