-- ==== Sys2Proof/Machine/ReeveCommands.lean ====
section
/-! DEFINITION. The reeves: Dolter instructions and the events of a core: the meaning of each command, one line over the operations of the module. -/
namespace Sys2Proof.Machine

/-- SETQ (R323). -/
def execReeveSetq (n : Nat) (s : State) : Answer := s.act (fun d => d.reeveStep n .setq 0)
/-- ADDQ (R323). -/
def execReeveAddq (n : Nat) (s : State) : Answer := s.act (fun d => d.reeveStep n .addq 0)
/-- LDQ (R323). -/
def execReeveLdq (n ecc : Nat) (s : State) : Answer := s.act (fun d => d.reeveStep n .ldq ecc)
/-- STQ (R323). -/
def execReeveStq (n : Nat) (s : State) : Answer := s.act (fun d => d.reeveStep n .stq 0)
/-- SHLQ (R323). -/
def execReeveShlq (n : Nat) (s : State) : Answer := s.act (fun d => d.reeveStep n .shlq 0)
/-- SHRQ (R323). -/
def execReeveShrq (n : Nat) (s : State) : Answer := s.act (fun d => d.reeveStep n .shrq 0)
/-- RORQ (R323). -/
def execReeveRorq (n : Nat) (s : State) : Answer := s.act (fun d => d.reeveStep n .rorq 0)
/-- JZQ (R323). -/
def execReeveJzq (n : Nat) (s : State) : Answer := s.act (fun d => d.reeveStep n .jzq 0)
/-- JNZQ (R323). -/
def execReeveJnzq (n : Nat) (s : State) : Answer := s.act (fun d => d.reeveStep n .jnzq 0)
/-- DECQ (R323). -/
def execReeveDecq (n : Nat) (s : State) : Answer := s.act (fun d => d.reeveStep n .decq 0)
/-- GOQ (R323). -/
def execReeveGoq (n : Nat) (s : State) : Answer := s.act (fun d => d.reeveStep n .goq 0)
/-- CALLQ (R323). -/
def execReeveCallq (n : Nat) (s : State) : Answer := s.act (fun d => d.reeveStep n .callq 0)
/-- MOVQ (R323). -/
def execReeveMovq (n : Nat) (s : State) : Answer := s.act (fun d => d.reeveStep n .movq 0)
/-- ADDRQ (R323). -/
def execReeveAddrq (n : Nat) (s : State) : Answer := s.act (fun d => d.reeveStep n .addrq 0)
/-- SUBQ (R323). -/
def execReeveSubq (n : Nat) (s : State) : Answer := s.act (fun d => d.reeveStep n .subq 0)
/-- ANDQ (R323). -/
def execReeveAndq (n : Nat) (s : State) : Answer := s.act (fun d => d.reeveStep n .andq 0)
/-- JMPQ (R323). -/
def execReeveJmpq (n : Nat) (s : State) : Answer := s.act (fun d => d.reeveStep n .jmpq 0)
/-- RETQ (R323). -/
def execReeveRetq (n : Nat) (s : State) : Answer := s.act (fun d => d.reeveStep n .retq 0)
/-- NOPQ (R323). -/
def execReeveNopq (n : Nat) (s : State) : Answer := s.act (fun d => d.reeveStep n .nopq 0)
/-- BRKQ (R323). -/
def execReeveBrkq (n : Nat) (s : State) : Answer := s.act (fun d => d.reeveStep n .brkq 0)
/-- SOWQ (R335). -/
def execReeveSowq (n : Nat) (s : State) : Answer := s.act (fun d => d.reeveStep n .sowq 0)
/-- ALU_ADD (R324). -/
def execReeveAdd (n : Nat) (s : State) : Answer := s.act (fun d => d.reeveStep n .add 0)
/-- ALU_SUB (R324). -/
def execReeveSub (n : Nat) (s : State) : Answer := s.act (fun d => d.reeveStep n .sub 0)
/-- AND (R324). -/
def execReeveAnd (n : Nat) (s : State) : Answer := s.act (fun d => d.reeveStep n .and 0)
/-- OR (R324). -/
def execReeveOr (n : Nat) (s : State) : Answer := s.act (fun d => d.reeveStep n .or 0)
/-- XOR (R324). -/
def execReeveXor (n : Nat) (s : State) : Answer := s.act (fun d => d.reeveStep n .xor 0)
/-- ANDN (R324). -/
def execReeveAndn (n : Nat) (s : State) : Answer := s.act (fun d => d.reeveStep n .andn 0)
/-- SLL (R324). -/
def execReeveSll (n : Nat) (s : State) : Answer := s.act (fun d => d.reeveStep n .sll 0)
/-- SRL (R324). -/
def execReeveSrl (n : Nat) (s : State) : Answer := s.act (fun d => d.reeveStep n .srl 0)
/-- SRA (R324). -/
def execReeveSra (n : Nat) (s : State) : Answer := s.act (fun d => d.reeveStep n .sra 0)
/-- ROL (R324). -/
def execReeveRol (n : Nat) (s : State) : Answer := s.act (fun d => d.reeveStep n .rol 0)
/-- ROR (R324). -/
def execReeveRor (n : Nat) (s : State) : Answer := s.act (fun d => d.reeveStep n .ror 0)
/-- SLT (R324). -/
def execReeveSlt (n : Nat) (s : State) : Answer := s.act (fun d => d.reeveStep n .slt 0)
/-- SLTU (R324). -/
def execReeveSltu (n : Nat) (s : State) : Answer := s.act (fun d => d.reeveStep n .sltu 0)
/-- ALU_MIN (R324). -/
def execReeveMin (n : Nat) (s : State) : Answer := s.act (fun d => d.reeveStep n .min 0)
/-- ALU_MAX (R324). -/
def execReeveMax (n : Nat) (s : State) : Answer := s.act (fun d => d.reeveStep n .max 0)
/-- MINU (R324). -/
def execReeveMinu (n : Nat) (s : State) : Answer := s.act (fun d => d.reeveStep n .minu 0)
/-- MAXU (R324). -/
def execReeveMaxu (n : Nat) (s : State) : Answer := s.act (fun d => d.reeveStep n .maxu 0)
/-- ALU_CLZ (R324). -/
def execReeveClz (n : Nat) (s : State) : Answer := s.act (fun d => d.reeveStep n .clz 0)
/-- ALU_CTZ (R324). -/
def execReeveCtz (n : Nat) (s : State) : Answer := s.act (fun d => d.reeveStep n .ctz 0)
/-- POPC (R324). -/
def execReevePopc (n : Nat) (s : State) : Answer := s.act (fun d => d.reeveStep n .popc 0)
/-- SLLI (R324). -/
def execReeveSlli (n : Nat) (s : State) : Answer := s.act (fun d => d.reeveStep n .slli 0)
/-- SRLI (R324). -/
def execReeveSrli (n : Nat) (s : State) : Answer := s.act (fun d => d.reeveStep n .srli 0)
/-- SRAI (R324). -/
def execReeveSrai (n : Nat) (s : State) : Answer := s.act (fun d => d.reeveStep n .srai 0)
/-- MUL (R324). -/
def execReeveMul (n : Nat) (s : State) : Answer := s.act (fun d => d.reeveStep n .mul 0)
/-- MULH (R324). -/
def execReeveMulh (n : Nat) (s : State) : Answer := s.act (fun d => d.reeveStep n .mulh 0)
/-- MULHU (R324). -/
def execReeveMulhu (n : Nat) (s : State) : Answer := s.act (fun d => d.reeveStep n .mulhu 0)
/-- DIV (R324). -/
def execReeveDiv (n : Nat) (s : State) : Answer := s.act (fun d => d.reeveStep n .div 0)
/-- DIVU (R324). -/
def execReeveDivu (n : Nat) (s : State) : Answer := s.act (fun d => d.reeveStep n .divu 0)
/-- REM (R324). -/
def execReeveRem (n : Nat) (s : State) : Answer := s.act (fun d => d.reeveStep n .rem 0)
/-- REMU (R324). -/
def execReeveRemu (n : Nat) (s : State) : Answer := s.act (fun d => d.reeveStep n .remu 0)
/-- ADDI (R323). -/
def execReeveAddi (n : Nat) (s : State) : Answer := s.act (fun d => d.reeveStep n .addi 0)
/-- ANDI (R323). -/
def execReeveAndi (n : Nat) (s : State) : Answer := s.act (fun d => d.reeveStep n .andi 0)
/-- ORI (R323). -/
def execReeveOri (n : Nat) (s : State) : Answer := s.act (fun d => d.reeveStep n .ori 0)
/-- XORI (R323). -/
def execReeveXori (n : Nat) (s : State) : Answer := s.act (fun d => d.reeveStep n .xori 0)
/-- SLTI (R323). -/
def execReeveSlti (n : Nat) (s : State) : Answer := s.act (fun d => d.reeveStep n .slti 0)
/-- SLTIU (R323). -/
def execReeveSltiu (n : Nat) (s : State) : Answer := s.act (fun d => d.reeveStep n .sltiu 0)
/-- LDHI (R323). -/
def execReeveLdhi (n : Nat) (s : State) : Answer := s.act (fun d => d.reeveStep n .ldhi 0)
/-- PCADD (R323). -/
def execReevePcadd (n : Nat) (s : State) : Answer := s.act (fun d => d.reeveStep n .pcadd 0)
/-- LDB (R325). -/
def execReeveLdb (n ecc : Nat) (s : State) : Answer := s.act (fun d => d.reeveStep n .ldb ecc)
/-- LDBU (R325). -/
def execReeveLdbu (n ecc : Nat) (s : State) : Answer := s.act (fun d => d.reeveStep n .ldbu ecc)
/-- LDH (R325). -/
def execReeveLdh (n ecc : Nat) (s : State) : Answer := s.act (fun d => d.reeveStep n .ldh ecc)
/-- LDHU (R325). -/
def execReeveLdhu (n ecc : Nat) (s : State) : Answer := s.act (fun d => d.reeveStep n .ldhu ecc)
/-- LDW (R325). -/
def execReeveLdw (n ecc : Nat) (s : State) : Answer := s.act (fun d => d.reeveStep n .ldw ecc)
/-- LDWU (R325). -/
def execReeveLdwu (n ecc : Nat) (s : State) : Answer := s.act (fun d => d.reeveStep n .ldwu ecc)
/-- LDD (R325). -/
def execReeveLdd (n ecc : Nat) (s : State) : Answer := s.act (fun d => d.reeveStep n .ldd ecc)
/-- STB (R325). -/
def execReeveStb (n : Nat) (s : State) : Answer := s.act (fun d => d.reeveStep n .stb 0)
/-- STH (R325). -/
def execReeveSth (n : Nat) (s : State) : Answer := s.act (fun d => d.reeveStep n .sth 0)
/-- STW (R325). -/
def execReeveStw (n : Nat) (s : State) : Answer := s.act (fun d => d.reeveStep n .stw 0)
/-- STD (R325). -/
def execReeveStd (n : Nat) (s : State) : Answer := s.act (fun d => d.reeveStep n .std 0)
/-- BEQ (R323). -/
def execReeveBeq (n : Nat) (s : State) : Answer := s.act (fun d => d.reeveStep n .beq 0)
/-- BNE (R323). -/
def execReeveBne (n : Nat) (s : State) : Answer := s.act (fun d => d.reeveStep n .bne 0)
/-- BLT (R323). -/
def execReeveBlt (n : Nat) (s : State) : Answer := s.act (fun d => d.reeveStep n .blt 0)
/-- BGE (R323). -/
def execReeveBge (n : Nat) (s : State) : Answer := s.act (fun d => d.reeveStep n .bge 0)
/-- BLTU (R323). -/
def execReeveBltu (n : Nat) (s : State) : Answer := s.act (fun d => d.reeveStep n .bltu 0)
/-- BGEU (R323). -/
def execReeveBgeu (n : Nat) (s : State) : Answer := s.act (fun d => d.reeveStep n .bgeu 0)
/-- JMP (R323). -/
def execReeveJmp (n : Nat) (s : State) : Answer := s.act (fun d => d.reeveStep n .jmp 0)
/-- JMPR (R323). -/
def execReeveJmpr (n : Nat) (s : State) : Answer := s.act (fun d => d.reeveStep n .jmpr 0)
/-- CALL (R318). -/
def execReeveCall (n : Nat) (s : State) : Answer := s.act (fun d => d.reeveStep n .call 0)
/-- CALLR (R318). -/
def execReeveCallr (n : Nat) (s : State) : Answer := s.act (fun d => d.reeveStep n .callr 0)
/-- LOOP (R333). -/
def execReeveLoop (n : Nat) (s : State) : Answer := s.act (fun d => d.reeveStep n .loop 0)
/-- BLD (R322). -/
def execReeveBld (n ecc : Nat) (s : State) : Answer := s.act (fun d => d.reeveStep n .bld ecc)
/-- BLDU (R322). -/
def execReeveBldu (n ecc : Nat) (s : State) : Answer := s.act (fun d => d.reeveStep n .bldu ecc)
/-- BST (R322). -/
def execReeveBst (n : Nat) (s : State) : Answer := s.act (fun d => d.reeveStep n .bst 0)
/-- LL (R328). -/
def execReeveLl (n ecc : Nat) (s : State) : Answer := s.act (fun d => d.reeveStep n .ll ecc)
/-- SC (R328). -/
def execReeveSc (n : Nat) (s : State) : Answer := s.act (fun d => d.reeveStep n .sc 0)
/-- AADD (R198). -/
def execReeveAadd (n : Nat) (s : State) : Answer := s.act (fun d => d.reeveStep n .aadd 0)
/-- ASWP (R198). -/
def execReeveAswp (n : Nat) (s : State) : Answer := s.act (fun d => d.reeveStep n .aswp 0)
/-- RET (R319). -/
def execReeveRet (n : Nat) (s : State) : Answer := s.act (fun d => d.reeveStep n .ret 0)
/-- RETE (R348). -/
def execReeveRete (n : Nat) (s : State) : Answer := s.act (fun d => d.reeveStep n .rete 0)
/-- TRAP (R346). -/
def execReeveTrap (n : Nat) (s : State) : Answer := s.act (fun d => d.reeveStep n .trap 0)
/-- WFI (R349). -/
def execReeveWfi (n : Nat) (s : State) : Answer := s.act (fun d => d.reeveStep n .wfi 0)
/-- FENCE (R327). -/
def execReeveFence (n : Nat) (s : State) : Answer := s.act (fun d => d.reeveStep n .fence 0)
/-- BRK (R521). -/
def execReeveBrk (n : Nat) (s : State) : Answer := s.act (fun d => d.reeveStep n .brk 0)
/-- EXIT (R312). -/
def execReeveExit (n : Nat) (s : State) : Answer := s.act (fun d => d.reeveStep n .exit 0)
/-- SOW (R335). -/
def execReeveSow (n : Nat) (s : State) : Answer := s.act (fun d => d.reeveStep n .sow 0)
/-- SOWSYNC (R337). -/
def execReeveSowsync (n : Nat) (s : State) : Answer := s.act (fun d => d.reeveStep n .sowsync 0)
/-- CSRR (R316). -/
def execReeveCsrr (n : Nat) (s : State) : Answer := s.act (fun d => d.reeveStep n .csrr 0)
/-- CSRW (R340). -/
def execReeveCsrw (n : Nat) (s : State) : Answer := s.act (fun d => d.reeveStep n .csrw 0)
/-- CSRS (R340). -/
def execReeveCsrs (n : Nat) (s : State) : Answer := s.act (fun d => d.reeveStep n .csrs 0)
/-- CSRC (R340). -/
def execReeveCsrc (n : Nat) (s : State) : Answer := s.act (fun d => d.reeveStep n .csrc 0)
/-- LSIZE (R354). -/
def execReeveLsize (n : Nat) (s : State) : Answer := s.act (fun d => d.reeveStep n .lsize 0)
/-- LADD (R354). -/
def execReeveLadd (n : Nat) (s : State) : Answer := s.act (fun d => d.reeveStep n .ladd 0)
/-- LSUB (R354). -/
def execReeveLsub (n : Nat) (s : State) : Answer := s.act (fun d => d.reeveStep n .lsub 0)
/-- LMUL (R354). -/
def execReeveLmul (n : Nat) (s : State) : Answer := s.act (fun d => d.reeveStep n .lmul 0)
/-- LAND (R354). -/
def execReeveLand (n : Nat) (s : State) : Answer := s.act (fun d => d.reeveStep n .land 0)
/-- LOR (R354). -/
def execReeveLor (n : Nat) (s : State) : Answer := s.act (fun d => d.reeveStep n .lor 0)
/-- LXOR (R354). -/
def execReeveLxor (n : Nat) (s : State) : Answer := s.act (fun d => d.reeveStep n .lxor 0)
/-- LTEST (R354). -/
def execReeveLtest (n : Nat) (s : State) : Answer := s.act (fun d => d.reeveStep n .ltest 0)
/-- LGET (R356). -/
def execReeveLget (n : Nat) (s : State) : Answer := s.act (fun d => d.reeveStep n .lget 0)
/-- LGETS (R356). -/
def execReeveLgets (n : Nat) (s : State) : Answer := s.act (fun d => d.reeveStep n .lgets 0)
/-- LGATH (R356). -/
def execReeveLgath (n : Nat) (s : State) : Answer := s.act (fun d => d.reeveStep n .lgath 0)
/-- LPROBE (R357). -/
def execReeveLprobe (n : Nat) (s : State) : Answer := s.act (fun d => d.reeveStep n .lprobe 0)
/-- LPUT (R356). -/
def execReeveLput (n : Nat) (s : State) : Answer := s.act (fun d => d.reeveStep n .lput 0)
/-- LPUTS (R356). -/
def execReeveLputs (n : Nat) (s : State) : Answer := s.act (fun d => d.reeveStep n .lputs 0)
/-- LSCAT (R356). -/
def execReeveLscat (n : Nat) (s : State) : Answer := s.act (fun d => d.reeveStep n .lscat 0)
/-- LCOPY (R354). -/
def execReeveLcopy (n : Nat) (s : State) : Answer := s.act (fun d => d.reeveStep n .lcopy 0)
/-- LFILL (R354). -/
def execReeveLfill (n : Nat) (s : State) : Answer := s.act (fun d => d.reeveStep n .lfill 0)
/-- LSUM (R354). -/
def execReeveLsum (n : Nat) (s : State) : Answer := s.act (fun d => d.reeveStep n .lsum 0)
/-- SCALAR_RESULT_WRITEBACK (R329). -/
def execScalarResultWriteback (n : Nat) (s : State) : Answer := s.act (fun d => d.writeBackResult n)
/-- LL_RESERVATION_TIMEOUT (R328). -/
def execLlReservationTimeout (n : Nat) (s : State) : Answer := s.act (fun d => d.reservationTimeout n)
/-- SOW_RETIRE (R335). -/
def execSowRetire (n : Nat) (s : State) : Answer := s.act (fun d => d.sowRetire n)
/-- LONG_UNIT_READY (R360). -/
def execLongUnitReady (n : Nat) (s : State) : Answer := s.act (fun d => d.longUnitReady n)
/-- INTERRUPT_ENTRY (R343) of reeve `n`; with 8 added, another reeve has posted its interrupt to it (log entry 49). -/
def execInterruptEntry (n : Nat) (s : State) : Answer := s.act (fun d => d.interruptEntry (n % 8) (n ≥ 8))
/-- WATCHDOG_WARN (R458). -/
def execWatchdogWarn (n : Nat) (s : State) : Answer := s.act (fun d => d.watchdogWarn n)
/-- WATCHDOG_EXPIRY (R458). -/
def execWatchdogExpiry (n : Nat) (s : State) : Answer := s.act (fun d => d.watchdogExpiry n)
/-- REEVE_SELF_TEST_DONE (R470). -/
def execReeveSelfTestDone (n : Nat) (pass : Bool) (s : State) : Answer := s.act (fun d => d.reeveTested n pass)
/-- ILLEGAL_INSTR (R323). -/
def execIllegalInstr (n : Nat) (s : State) : Answer := s.act (fun d => d.illegalStep n)
/-- FETCH_FAULT (R345). -/
def execFetchFault (n ecc : Nat) (s : State) : Answer := s.act (fun d => d.fetchFaultStep n ecc)

end Sys2Proof.Machine
end

