-- ==== Sys2Proof/Machine/RingCommands.lean ====
section
/-! DEFINITION. The Alnar ring: the meaning of each command, one line over the operations of the module. -/
namespace Sys2Proof.Machine

/-- CODEWORD_RECEIVE (R416). -/
def execCodewordReceive (p : Nat) (cw : Codeword) (s : State) : Answer := s.act (fun d => d.codeword p cw)
/-- LANE_SPARE (R417). -/
def execLaneSpare (p : Nat) (sent lost : Bool) (lane : Nat) (s : State) : Answer := s.act (fun d => d.laneSpare p sent lost lane)
/-- PORT_DOWN (R417). -/
def execPortDown (p : Nat) (s : State) : Answer := s.act (fun d => d.portDown p)
/-- HALF_RETRAIN (R417). -/
def execHalfRetrain (p : Nat) (sent : Bool) (lane : Nat) (s : State) : Answer := s.act (fun d => d.halfRetrain p sent lane)
/-- TOPOLOGY (R419). -/
def execTopology (p src : Nat) (links : List (Nat × Nat)) (age : Nat) (s : State) : Answer := s.act (fun d => d.topology p src links age)
/-- READ (R422). -/
def execFarRead (p : Nat) (f : Frame) (s : State) : Answer := s.act (fun d => d.receive p 1 f (fun d => d.serveRead f))
/-- WRITE (R422). -/
def execFarWrite (p : Nat) (f : Frame) (s : State) : Answer := s.act (fun d => d.receive p 2 f (fun d => d.serveWrite f))
/-- ATOMIC (R422). -/
def execFarAtomic (p : Nat) (f : Frame) (s : State) : Answer := s.act (fun d => d.receive p 3 f (fun d => d.serveAtomic f))
/-- READ_RESP (R422). -/
def execReadResp (p : Nat) (f : Frame) (s : State) : Answer := s.act (fun d => d.receive p 4 f (fun d => d.farAnswer 1 f))
/-- WRITE_ACK (R422). -/
def execWriteAck (p : Nat) (f : Frame) (s : State) : Answer := s.act (fun d => d.receive p 5 f (fun d => d.farAnswer 2 f))
/-- ATOMIC_RESP (R422). -/
def execAtomicResp (p : Nat) (f : Frame) (s : State) : Answer := s.act (fun d => d.receive p 6 f (fun d => d.farAnswer 3 f))
/-- FAR_REQUEST_TIMEOUT (R422). -/
def execFarRequestTimeout (kind dest tag : Nat) (s : State) : Answer := s.act (fun d => d.farTimeout kind dest tag)
/-- MIRROR_SETUP (R272). -/
def execMirrorSetup (p : Nat) (f : Frame) (s : State) : Answer :=
  s.act (fun d => d.receive p 9 f (fun d => d.mirrorSetup f.src f.channel f.data))
/-- MIRROR_WRITE (R423). -/
def execMirrorWrite (p : Nat) (f : Frame) (s : State) : Answer :=
  s.act (fun d => d.receive p 7 f (fun d => d.mirrorWrite f.src f.channel f.addr f.data))
/-- MIRROR_ACK (R273). -/
def execMirrorAck (p : Nat) (f : Frame) (s : State) : Answer := s.act (fun d => d.receive p 8 f (fun d => d.mirrorAck f))
/-- HEARTBEAT (R423). -/
def execHeartbeat (p : Nat) (f : Frame) (s : State) : Answer := s.act (fun d => d.receive p 0xA f (fun d => d.heartbeat f))
/-- UNMIRRORED (R273). -/
def execUnmirrored (ch : Nat) (s : State) : Answer := s.act (fun d => d.unmirror ch)
/-- MIRROR_RESEND (R273). -/
def execMirrorResend (ch : Nat) (s : State) : Answer := s.act (fun d => d.mirrorResend ch)
/-- ALN_ID_WRITE (R426). -/
def execAlnIdWrite (i : Initiator) (v : Nat) (s : State) : Answer := s.act (fun d => d.writeReg i 8 0 0x048 0 v)
/-- ALN_OPEN_WRITE (R427). -/
def execAlnOpenWrite (i : Initiator) (n hi v : Nat) (s : State) : Answer := s.act (fun d => d.writeReg i 8 0 (0x0C0 + 8 * n + 4 * hi) 0 v)

end Sys2Proof.Machine
end

