-- ==== Sys2Proof/Machine/SafetyCommands.lean ====
section
/-! DEFINITION. The Constable, its causes and the firmware windows: the meaning of each command, one line over the operations of the module. -/
namespace Sys2Proof.Machine

/-- INPUT_OVERCURRENT (R449). -/
def execInputOvercurrent (s : State) : Answer := s.act (fun d => d.constable 1)
/-- REVERSE_INPUT_CURRENT (R449). -/
def execReverseInputCurrent (s : State) : Answer := s.act (fun d => d.constable 2)
/-- CONSTABLE_VIN_OVERVOLTAGE (R449). -/
def execConstableVinOvervoltage (s : State) : Answer := s.act (fun d => d.constable 3)
/-- RAIL_OVERVOLTAGE (R449). -/
def execRailOvervoltage (s : State) : Answer := s.act (fun d => d.constable 4)
/-- DIE_OVERTEMPERATURE (R449). -/
def execDieOvertemperature (s : State) : Answer := s.act (fun d => d.constable 5)
/-- BOARD_OVERTEMPERATURE (R449). -/
def execBoardOvertemperature (s : State) : Answer := s.act (fun d => d.constable 6)
/-- COOL_OK_LOW (R449). -/
def execCoolOkLow (s : State) : Answer := s.act (fun d => d.constable 7)
/-- SENSE_MISMATCH (R450). -/
def execSenseMismatch (s : State) : Answer := s.act (fun d => d.constable 8)
/-- CONTROLLER_A_HEARTBEAT_LOST (R451). -/
def execControllerAHeartbeatLost (s : State) : Answer := s.act (fun d => d.constable 0xE)
/-- CONSTABLE_HEARTBEAT_LOST (R451). -/
def execConstableHeartbeatLost (s : State) : Answer := s.act (fun d => d.constableLost)
/-- GREEN_COMPARE_MISMATCH (R454). -/
def execGreenCompareMismatch (s : State) : Answer := s.act (fun d => d.constable 0xB)
/-- STANDDOWN_STRIP_TIMEOUT (R461). -/
def execStanddownStripTimeout (s : State) : Answer := s.act (fun d => d.standDownTimeout)
/-- CAUSE_RELEASE (R561). -/
def execCauseRelease (cause : Nat) (s : State) : Answer := s.act (fun d => d.causeRelease cause)
/-- SAF_WDOG_KICK (R459). -/
def execSafWdogKick (i : Initiator) (key : Nat) (s : State) : Answer := s.act (fun d => d.writeReg i 10 0 0x048 0 key)
/-- SAF_WDOG_EXPIRY (R459). -/
def execSafWdogExpiry (s : State) : Answer := s.act (fun d => d.wdogExpiry)
/-- SAF_FORCE (R460). -/
def execSafForce (i : Initiator) (s : State) : Answer := s.act (fun d => d.writeReg i 10 0 0x04C 0 1)
/-- SAF_FWWIN_WRITE (R466). -/
def execSafFwwinWrite (i : Initiator) (n hi v : Nat) (s : State) : Answer := s.act (fun d => d.writeReg i 10 0 (0x0C0 + 8 * n + 4 * hi) 0 v)

end Sys2Proof.Machine
end

