-- ==== Sys2Proof/Machine/StreamCommands.lean ====
section
/-! DEFINITION. The Sower, the crofts and the strips of a job: the meaning of each command, one line over the operations of the module. -/
namespace Sys2Proof.Machine

/-- INSTRUCTION_ISSUE (R37). -/
def execInstructionIssue (tag : Nat) (s : State) : Answer := s.act (fun d => d.issue tag)
/-- TICKET_DEAL (R165). -/
def execTicketDeal (s : State) : Answer := s.act (fun d => d.deal)
/-- ORDERED_SEGMENT_DEAL (R161). -/
def execOrderedSegmentDeal (tag : Nat) (s : State) : Answer := s.act (fun d => d.dealOrdered tag)
/-- TICKET_TAKE (R146). -/
def execTicketTake (c : Nat) (s : State) : Answer := s.act (fun d => (d.takeTicket c).afterCroft c)
/-- GLEAN (R168). -/
def execGlean (c : Nat) (s : State) : Answer := s.act (fun d => d.glean c)
/-- GLEAN_RETRY_TIMER (R168). -/
def execGleanRetryTimer (c : Nat) (s : State) : Answer := s.act (fun d => d.glean c)
/-- ELEMENT_START (R109). -/
def execElementStart (c : Nat) (s : State) : Answer :=
  s.act (fun d => (d.withUpset c [1, 2] (fun u d => d.startElement c (u.1 = 1) (if u.1 = 2 then u.2 else 0))).afterCroft c)
/-- LOAD_RESPONSE (R133). `ecc` modulo 4 is what the ECC check finds; the rest, where it is not 0, is an upset that falls in the croft after the
response (DESIGN CHOICE, log entry 98). -/
def execLoadResponse (c ecc : Nat) (s : State) : Answer := s.act (fun d => ((d.loadNext c (ecc % 4)).setUpset c (ecc / 4)).afterCroft c)
/-- SHARED_TLB_RESPONSE (R140). -/
def execSharedTlbResponse (s : State) : Answer := s.act (fun d => d.tlbResponse.settleBanks)
/-- TABLE_WALK_COMPLETE (R297). -/
def execTableWalkComplete (s : State) : Answer := s.act (fun d => d.walkComplete.settleBanks)
/-- PIPE_RESULT (R142). -/
def execPipeResult (c : Nat) (s : State) : Answer :=
  s.act (fun d => (d.withUpset c [8, 9, 10, 11, 12, 13] (fun u d => d.pipeResult c (if 8 ≤ u.1 then u.1 - 8 else 7) u.2)).afterCroft c)
/-- STORE_ACK (R147). -/
def execStoreAck (c : Nat) (s : State) : Answer := s.act (fun d => (d.withUpset c [3] (fun u d => d.storeAck c (u.1 = 3))).afterCroft c)
/-- STRIP_COMMIT (R172). -/
def execStripCommit (tag : Nat) (s : State) : Answer := s.act (fun d => d.commitStrip tag)
/-- PARTIAL_COMBINE (R173). -/
def execPartialCombine (tag : Nat) (s : State) : Answer := s.act (fun d => ({ d with sower := { d.sower with upset := none } } : Device).combine tag (d.sower.upset.getD 0))
/-- CHAIN_COMPLETE (R172). -/
def execChainComplete (tag : Nat) (s : State) : Answer := s.act (fun d => d.chainComplete tag)
/-- WITNESS_COMPARE (R182). -/
def execWitnessCompare (tag : Nat) (s : State) : Answer := s.act (fun d => (d.witness tag).settleBanks)
/-- OVERFLOW_SLOT_FREE (R139). -/
def execOverflowSlotFree (s : State) : Answer := s.act (fun d => d.grantOverflow)
/-- JOURNAL_COMMIT (R264). -/
def execJournalCommit (tag : Nat) (s : State) : Answer := s.act (fun d => d.journalCommit tag)
/-- JOURNAL_SPACE_FREE (R266). -/
def execJournalSpaceFree (tag : Nat) (s : State) : Answer := s.act (fun d => d.journalSpace tag)
/-- HAMLET_FAULT (R453). -/
def execHamletFault (h : Nat) (s : State) : Answer := s.act (fun d => (d.hamletFault h).settleBanks)
/-- CROFT_SELF_TEST_DONE (R152). -/
def execCroftSelfTestDone (c : Nat) (pass : Bool) (s : State) : Answer := s.act (fun d => d.selfTestDone c pass)
/-- CROFT_STALL_TIMEOUT (R151). -/
def execCroftStallTimeout (c : Nat) (s : State) : Answer := s.act (fun d => (d.withUpset c [4] (fun u d => d.croftStall c (u.1 = 4))).settleBanks)
/-- CRF_RESET (R155). -/
def execCrfReset (i : Initiator) (c : Nat) (s : State) : Answer := s.act (fun d => d.writeReg i 19 c 0x040 0 1)
/-- CRF_QUARANTINE (R155). -/
def execCrfQuarantine (i : Initiator) (c : Nat) (s : State) : Answer := s.act (fun d => d.writeReg i 19 c 0x040 0 2)
/-- CRF_RELEASE (R155). -/
def execCrfRelease (i : Initiator) (c : Nat) (s : State) : Answer := s.act (fun d => d.writeReg i 19 c 0x040 0 4)
/-- FI_ARM (R156). -/
def execFiArm (i : Initiator) (c site : Nat) (s : State) : Answer := s.act (fun d => d.writeReg i 19 c 0x044 0 (site + 2 ^ 8))
/-- GLB_MODE_ARM (R177). -/
def execGlbModeArm (i : Initiator) (s : State) : Answer := s.act (fun d => d.writeReg i 1 0 0x050 0 1)
/-- GLB_MODE_CANCEL (R177). -/
def execGlbModeCancel (i : Initiator) (s : State) : Answer := s.act (fun d => d.writeReg i 1 0 0x050 0 2)
/-- PACE_CLOCK_MOVE (R178). -/
def execPaceClockMove (die : Nat) (s : State) : Answer := s.act (fun d => d.paceMove die)

end Sys2Proof.Machine
end

