-- ==== Sys2Proof/Machine/StreamOpcodes.lean ====
section
/-! DEFINITION. The stream opcodes: a member of a chain computed on one element: the meaning of each command, one line over the operations of the module. -/
namespace Sys2Proof.Machine

/-- ADD (R88). -/
def execStreamAdd (c : Nat) (s : State) : Answer := s.act (fun d => d.runMember c 0x01 (laneWise laneAdd))
/-- SUB (R88). -/
def execStreamSub (c : Nat) (s : State) : Answer := s.act (fun d => d.runMember c 0x02 (laneWise laneSub))
/-- ADDC (R93). -/
def execStreamAddc (c : Nat) (s : State) : Answer := s.act (fun d => d.runMember c 0x03 (laneWise laneAddc))
/-- SUBB (R93). -/
def execStreamSubb (c : Nat) (s : State) : Answer := s.act (fun d => d.runMember c 0x04 (laneWise laneSubb))
/-- NEG (R88). -/
def execStreamNeg (c : Nat) (s : State) : Answer := s.act (fun d => d.runMember c 0x05 (laneWise laneNeg))
/-- ABS (R88). -/
def execStreamAbs (c : Nat) (s : State) : Answer := s.act (fun d => d.runMember c 0x06 (laneWise laneAbs))
/-- MIN (R88). -/
def execStreamMin (c : Nat) (s : State) : Answer := s.act (fun d => d.runMember c 0x07 (laneWise laneMin))
/-- MAX (R88). -/
def execStreamMax (c : Nat) (s : State) : Answer := s.act (fun d => d.runMember c 0x08 (laneWise laneMax))
/-- CMP (R90). -/
def execStreamCmp (c : Nat) (s : State) : Answer := s.act (fun d => d.runMember c 0x10 (laneWise laneCmp))
/-- LOGIC (R90). -/
def execStreamLogic (c : Nat) (s : State) : Answer := s.act (fun d => d.runMember c 0x11 (laneWise laneLogic))
/-- SHL (R92). -/
def execStreamShl (c : Nat) (s : State) : Answer := s.act (fun d => d.runMember c 0x12 (laneWise laneShl))
/-- SHR (R92). -/
def execStreamShr (c : Nat) (s : State) : Answer := s.act (fun d => d.runMember c 0x13 (laneWise laneShr))
/-- ROTL (R92). -/
def execStreamRotl (c : Nat) (s : State) : Answer := s.act (fun d => d.runMember c 0x14 (laneWise laneRotl))
/-- ROTR (R92). -/
def execStreamRotr (c : Nat) (s : State) : Answer := s.act (fun d => d.runMember c 0x15 (laneWise laneRotr))
/-- POPCNT (R88). -/
def execStreamPopcnt (c : Nat) (s : State) : Answer := s.act (fun d => d.runMember c 0x16 (laneWise lanePopcnt))
/-- CLZ (R88). -/
def execStreamClz (c : Nat) (s : State) : Answer := s.act (fun d => d.runMember c 0x17 (laneWise laneClz))
/-- CTZ (R88). -/
def execStreamCtz (c : Nat) (s : State) : Answer := s.act (fun d => d.runMember c 0x18 (laneWise laneCtz))
/-- MULLO (R118). -/
def execStreamMullo (c : Nat) (s : State) : Answer := s.act (fun d => d.runMember c 0x20 (laneWise laneMullo))
/-- MULHI (R118). -/
def execStreamMulhi (c : Nat) (s : State) : Answer := s.act (fun d => d.runMember c 0x21 (laneWise laneMulhi))
/-- MULW (R117). -/
def execStreamMulw (c : Nat) (s : State) : Answer := s.act (fun d => d.runMember c 0x22 (laneWise laneMulw))
/-- DIVSTEP (R94). -/
def execStreamDivstep (c : Nat) (s : State) : Answer := s.act (fun d => d.runMember c 0x23 (laneWise laneDivstep))
/-- MADD (R95). -/
def execStreamMadd (c : Nat) (s : State) : Answer := s.act (fun d => d.runMember c 0x30 (laneWise laneMadd))
/-- MMUL (R95). -/
def execStreamMmul (c : Nat) (s : State) : Answer := s.act (fun d => d.runMember c 0x31 (laneWise laneMmul))
/-- MADDQ (R95). -/
def execStreamMaddq (c : Nat) (s : State) : Answer := s.act (fun d => d.runMember c 0x32 (laneWise laneMaddq))
/-- MSUBQ (R95). -/
def execStreamMsubq (c : Nat) (s : State) : Answer := s.act (fun d => d.runMember c 0x33 (laneWise laneMsubq))
/-- MRED (R95). -/
def execStreamMred (c : Nat) (s : State) : Answer := s.act (fun d => d.runMember c 0x34 (laneWise laneMred))
/-- MTOM (R95). -/
def execStreamMtom (c : Nat) (s : State) : Answer := s.act (fun d => d.runMember c 0x35 (laneWise laneMtom))
/-- MFROM (R95). -/
def execStreamMfrom (c : Nat) (s : State) : Answer := s.act (fun d => d.runMember c 0x36 (laneWise laneMfrom))
/-- BFLY (R96). -/
def execStreamBfly (c : Nat) (s : State) : Answer := s.act (fun d => d.runMember c 0x37 (laneWise laneBfly))
/-- SEL (R98). -/
def execStreamSel (c : Nat) (s : State) : Answer := s.act (fun d => d.runMember c 0x40 (laneWise laneSel))
/-- COPY (R98). -/
def execStreamCopy (c : Nat) (s : State) : Answer := s.act (fun d => d.runMember c 0x41 (laneWise laneCopy))
/-- FILL (R98). -/
def execStreamFill (c : Nat) (s : State) : Answer := s.act (fun d => d.runMember c 0x42 (laneWise laneFill))
/-- NARROW (R97). -/
def execStreamNarrow (c : Nat) (s : State) : Answer := s.act (fun d => d.runMember c 0x43 (laneWise laneNarrow))
/-- WIDEN (R97). -/
def execStreamWiden (c : Nat) (s : State) : Answer := s.act (fun d => d.runMember c 0x44 (laneWise laneWiden))
/-- COMPRESS (R99). -/
def execStreamCompress (c : Nat) (s : State) : Answer := s.act (fun d => d.runMember c 0x45 compressStep)
/-- EXPAND (R100). -/
def execStreamExpand (c : Nat) (s : State) : Answer := s.act (fun d => d.runMember c 0x46 expandStep)
/-- GATHER (R102). -/
def execStreamGather (c : Nat) (s : State) : Answer := s.act (fun d => d.runMember c 0x50 (laneWise laneCopy))
/-- SCATTER (R103). -/
def execStreamScatter (c : Nat) (s : State) : Answer := s.act (fun d => d.runMember c 0x51 (laneWise laneCopy))
/-- SCATTER_ADD (R67). -/
def execStreamScatterAdd (c : Nat) (s : State) : Answer := s.act (fun d => d.runMember c 0x52 (laneWise laneCopy))
/-- REDUCE (R68). -/
def execStreamReduce (c : Nat) (s : State) : Answer := s.act (fun d => d.runMember c 0x60 reduceStep)
/-- SCAN (R70). -/
def execStreamScan (c : Nat) (s : State) : Answer := s.act (fun d => d.runMember c 0x61 scanStep)
/-- CMPX (R105). -/
def execStreamCmpx (c : Nat) (s : State) : Answer := s.act (fun d => d.runMember c 0x62 (laneWise laneCmpx))
/-- ZMIX (R106). -/
def execStreamZmix (c : Nat) (s : State) : Answer := s.act (fun d => d.runMember c 0x70 (laneWise laneZmix))

end Sys2Proof.Machine
end

