-- ==== Sys2Proof/Machine/Dispatch.lean ====
section
/-! DEFINITION. The one match of the machine: which meaning answers for which command. -/
namespace Sys2Proof.Machine

def exec (i : Instr) (s : State) : Host.Outcome State Fault Refusal :=
  match i with
  | .insertion => Sys2Proof.Machine.execInsertion s
  | .switchClose a b => Sys2Proof.Machine.execSwitchClose a b s
  | .pwrgdAssert => Sys2Proof.Machine.execPwrgdAssert s
  | .perstRelease p => Sys2Proof.Machine.execPerstRelease p s
  | .linkTrained p speed width flit256 => Sys2Proof.Machine.execLinkTrained p speed width flit256 s
  | .firmwareLoaded bad failed => Sys2Proof.Machine.execFirmwareLoaded bad failed s
  | .hbmTrainingDone failed => Sys2Proof.Machine.execHbmTrainingDone failed s
  | .alnarTrainingDone ports => Sys2Proof.Machine.execAlnarTrainingDone ports s
  | .readySet => Sys2Proof.Machine.execReadySet s
  | .startStepTimeout step => Sys2Proof.Machine.execStartStepTimeout step s
  | .glbResetWarm who v => Sys2Proof.Machine.execGlbResetWarm who v s
  | .linkDown p => Sys2Proof.Machine.execLinkDown p s
  | .hotReset p => Sys2Proof.Machine.execHotReset p s
  | .portRecoveryStart p => Sys2Proof.Machine.execPortRecoveryStart p s
  | .flrPf p => Sys2Proof.Machine.execFlrPf p s
  | .flrVf p fn => Sys2Proof.Machine.execFlrVf p fn s
  | .ideIntegrityFailure p => Sys2Proof.Machine.execIdeIntegrityFailure p s
  | .clockFault dom => Sys2Proof.Machine.execClockFault dom s
  | .crossingTimeout kind inst off view => Sys2Proof.Machine.execCrossingTimeout kind inst off view s
  | .westEastLinkFailure => Sys2Proof.Machine.execWestEastLinkFailure s
  | .doorbell p fn ch v => Sys2Proof.Machine.execDoorbell p fn ch v s
  | .descriptorFetch ch => Sys2Proof.Machine.execDescriptorFetch ch s
  | .jobAccept ch => Sys2Proof.Machine.execJobAccept ch s
  | .ledgerWriteDurable ch => Sys2Proof.Machine.execLedgerWriteDurable ch s
  | .streamJob tag => Sys2Proof.Machine.execStreamJob tag s
  | .controlJob tag => Sys2Proof.Machine.execControlJob tag s
  | .copyJob tag => Sys2Proof.Machine.execCopyJob tag s
  | .fillJob tag => Sys2Proof.Machine.execFillJob tag s
  | .fenceJob tag => Sys2Proof.Machine.execFenceJob tag s
  | .markJob tag => Sys2Proof.Machine.execMarkJob tag s
  | .jobFinish tag => Sys2Proof.Machine.execJobFinish tag s
  | .completionRecordWrite ch => Sys2Proof.Machine.execCompletionRecordWrite ch s
  | .msixMessage p => Sys2Proof.Machine.execMsixMessage p s
  | .ledgerRetire ch => Sys2Proof.Machine.execLedgerRetire ch s
  | .recordWriteFailure ch => Sys2Proof.Machine.execRecordWriteFailure ch s
  | .crHeadWrite p fn ch v => Sys2Proof.Machine.execCrHeadWrite p fn ch v s
  | .fqHeadWrite p fn ch v => Sys2Proof.Machine.execFqHeadWrite p fn ch v s
  | .faultEntryPost ch => Sys2Proof.Machine.execFaultEntryPost ch s
  | .enable p fn ch => Sys2Proof.Machine.execEnable p fn ch s
  | .pause p fn ch => Sys2Proof.Machine.execPause p fn ch s
  | .resume p fn ch => Sys2Proof.Machine.execResume p fn ch s
  | .abort p fn ch => Sys2Proof.Machine.execAbort p fn ch s
  | .drain p fn ch => Sys2Proof.Machine.execDrain p fn ch s
  | .drainComplete ch => Sys2Proof.Machine.execDrainComplete ch s
  | .channelEntryLoad ch => Sys2Proof.Machine.execChannelEntryLoad ch s
  | .chnInv who ch all => Sys2Proof.Machine.execChnInv who ch all s
  | .chnInvComplete => Sys2Proof.Machine.execChnInvComplete s
  | .commit p fn ch v => Sys2Proof.Machine.execCommit p fn ch v s
  | .shadowApply ch => Sys2Proof.Machine.execShadowApply ch s
  | .instructionIssue tag => Sys2Proof.Machine.execInstructionIssue tag s
  | .ticketDeal => Sys2Proof.Machine.execTicketDeal s
  | .orderedSegmentDeal tag => Sys2Proof.Machine.execOrderedSegmentDeal tag s
  | .ticketTake c => Sys2Proof.Machine.execTicketTake c s
  | .glean c => Sys2Proof.Machine.execGlean c s
  | .gleanRetryTimer c => Sys2Proof.Machine.execGleanRetryTimer c s
  | .elementStart c => Sys2Proof.Machine.execElementStart c s
  | .loadResponse c ecc => Sys2Proof.Machine.execLoadResponse c ecc s
  | .sharedTlbResponse => Sys2Proof.Machine.execSharedTlbResponse s
  | .tableWalkComplete => Sys2Proof.Machine.execTableWalkComplete s
  | .pipeResult c => Sys2Proof.Machine.execPipeResult c s
  | .storeAck c => Sys2Proof.Machine.execStoreAck c s
  | .stripCommit tag => Sys2Proof.Machine.execStripCommit tag s
  | .partialCombine tag => Sys2Proof.Machine.execPartialCombine tag s
  | .chainComplete tag => Sys2Proof.Machine.execChainComplete tag s
  | .witnessCompare tag => Sys2Proof.Machine.execWitnessCompare tag s
  | .overflowSlotFree => Sys2Proof.Machine.execOverflowSlotFree s
  | .journalCommit tag => Sys2Proof.Machine.execJournalCommit tag s
  | .journalSpaceFree tag => Sys2Proof.Machine.execJournalSpaceFree tag s
  | .hamletFault h => Sys2Proof.Machine.execHamletFault h s
  | .croftSelfTestDone c pass => Sys2Proof.Machine.execCroftSelfTestDone c pass s
  | .croftStallTimeout c => Sys2Proof.Machine.execCroftStallTimeout c s
  | .crfReset who c => Sys2Proof.Machine.execCrfReset who c s
  | .crfQuarantine who c => Sys2Proof.Machine.execCrfQuarantine who c s
  | .crfRelease who c => Sys2Proof.Machine.execCrfRelease who c s
  | .fiArm who c site => Sys2Proof.Machine.execFiArm who c site s
  | .glbModeArm who => Sys2Proof.Machine.execGlbModeArm who s
  | .glbModeCancel who => Sys2Proof.Machine.execGlbModeCancel who s
  | .paceClockMove die => Sys2Proof.Machine.execPaceClockMove die s
  | .thermalStepDown die => Sys2Proof.Machine.execThermalStepDown die s
  | .powerLimitStep mhz => Sys2Proof.Machine.execPowerLimitStep mhz s
  | .staggerSlot coolWest coolEast => Sys2Proof.Machine.execStaggerSlot coolWest coolEast s
  | .scrubRead pa found => Sys2Proof.Machine.execScrubRead pa found s
  | .stackLost k => Sys2Proof.Machine.execStackLost k s
  | .memoryAtomic swap pa width v => Sys2Proof.Machine.execMemoryAtomic swap pa width v s
  | .highClassWindowEnd point => Sys2Proof.Machine.execHighClassWindowEnd point s
  | .arbCfgWrite who kind inst v => Sys2Proof.Machine.execArbCfgWrite who kind inst v s
  | .invPage who asid va => Sys2Proof.Machine.execInvPage who asid va s
  | .invRange who asid va sizeLog2 => Sys2Proof.Machine.execInvRange who asid va sizeLog2 s
  | .invAsid who asid => Sys2Proof.Machine.execInvAsid who asid s
  | .invAll who => Sys2Proof.Machine.execInvAll who s
  | .invFirmware who => Sys2Proof.Machine.execInvFirmware who s
  | .xltInvComplete => Sys2Proof.Machine.execXltInvComplete s
  | .sewWindowWrite who n hi v => Sys2Proof.Machine.execSewWindowWrite who n hi v s
  | .streamAdd c => Sys2Proof.Machine.execStreamAdd c s
  | .streamSub c => Sys2Proof.Machine.execStreamSub c s
  | .streamAddc c => Sys2Proof.Machine.execStreamAddc c s
  | .streamSubb c => Sys2Proof.Machine.execStreamSubb c s
  | .streamNeg c => Sys2Proof.Machine.execStreamNeg c s
  | .streamAbs c => Sys2Proof.Machine.execStreamAbs c s
  | .streamMin c => Sys2Proof.Machine.execStreamMin c s
  | .streamMax c => Sys2Proof.Machine.execStreamMax c s
  | .streamCmp c => Sys2Proof.Machine.execStreamCmp c s
  | .streamLogic c => Sys2Proof.Machine.execStreamLogic c s
  | .streamShl c => Sys2Proof.Machine.execStreamShl c s
  | .streamShr c => Sys2Proof.Machine.execStreamShr c s
  | .streamRotl c => Sys2Proof.Machine.execStreamRotl c s
  | .streamRotr c => Sys2Proof.Machine.execStreamRotr c s
  | .streamPopcnt c => Sys2Proof.Machine.execStreamPopcnt c s
  | .streamClz c => Sys2Proof.Machine.execStreamClz c s
  | .streamCtz c => Sys2Proof.Machine.execStreamCtz c s
  | .streamMullo c => Sys2Proof.Machine.execStreamMullo c s
  | .streamMulhi c => Sys2Proof.Machine.execStreamMulhi c s
  | .streamMulw c => Sys2Proof.Machine.execStreamMulw c s
  | .streamDivstep c => Sys2Proof.Machine.execStreamDivstep c s
  | .streamMadd c => Sys2Proof.Machine.execStreamMadd c s
  | .streamMmul c => Sys2Proof.Machine.execStreamMmul c s
  | .streamMaddq c => Sys2Proof.Machine.execStreamMaddq c s
  | .streamMsubq c => Sys2Proof.Machine.execStreamMsubq c s
  | .streamMred c => Sys2Proof.Machine.execStreamMred c s
  | .streamMtom c => Sys2Proof.Machine.execStreamMtom c s
  | .streamMfrom c => Sys2Proof.Machine.execStreamMfrom c s
  | .streamBfly c => Sys2Proof.Machine.execStreamBfly c s
  | .streamSel c => Sys2Proof.Machine.execStreamSel c s
  | .streamCopy c => Sys2Proof.Machine.execStreamCopy c s
  | .streamFill c => Sys2Proof.Machine.execStreamFill c s
  | .streamNarrow c => Sys2Proof.Machine.execStreamNarrow c s
  | .streamWiden c => Sys2Proof.Machine.execStreamWiden c s
  | .streamCompress c => Sys2Proof.Machine.execStreamCompress c s
  | .streamExpand c => Sys2Proof.Machine.execStreamExpand c s
  | .streamGather c => Sys2Proof.Machine.execStreamGather c s
  | .streamScatter c => Sys2Proof.Machine.execStreamScatter c s
  | .streamScatterAdd c => Sys2Proof.Machine.execStreamScatterAdd c s
  | .streamReduce c => Sys2Proof.Machine.execStreamReduce c s
  | .streamScan c => Sys2Proof.Machine.execStreamScan c s
  | .streamCmpx c => Sys2Proof.Machine.execStreamCmpx c s
  | .streamZmix c => Sys2Proof.Machine.execStreamZmix c s
  | .reeveSetq n => Sys2Proof.Machine.execReeveSetq n s
  | .reeveAddq n => Sys2Proof.Machine.execReeveAddq n s
  | .reeveLdq n ecc => Sys2Proof.Machine.execReeveLdq n ecc s
  | .reeveStq n => Sys2Proof.Machine.execReeveStq n s
  | .reeveShlq n => Sys2Proof.Machine.execReeveShlq n s
  | .reeveShrq n => Sys2Proof.Machine.execReeveShrq n s
  | .reeveRorq n => Sys2Proof.Machine.execReeveRorq n s
  | .reeveJzq n => Sys2Proof.Machine.execReeveJzq n s
  | .reeveJnzq n => Sys2Proof.Machine.execReeveJnzq n s
  | .reeveDecq n => Sys2Proof.Machine.execReeveDecq n s
  | .reeveGoq n => Sys2Proof.Machine.execReeveGoq n s
  | .reeveCallq n => Sys2Proof.Machine.execReeveCallq n s
  | .reeveMovq n => Sys2Proof.Machine.execReeveMovq n s
  | .reeveAddrq n => Sys2Proof.Machine.execReeveAddrq n s
  | .reeveSubq n => Sys2Proof.Machine.execReeveSubq n s
  | .reeveAndq n => Sys2Proof.Machine.execReeveAndq n s
  | .reeveJmpq n => Sys2Proof.Machine.execReeveJmpq n s
  | .reeveRetq n => Sys2Proof.Machine.execReeveRetq n s
  | .reeveNopq n => Sys2Proof.Machine.execReeveNopq n s
  | .reeveBrkq n => Sys2Proof.Machine.execReeveBrkq n s
  | .reeveSowq n => Sys2Proof.Machine.execReeveSowq n s
  | .reeveAdd n => Sys2Proof.Machine.execReeveAdd n s
  | .reeveSub n => Sys2Proof.Machine.execReeveSub n s
  | .reeveAnd n => Sys2Proof.Machine.execReeveAnd n s
  | .reeveOr n => Sys2Proof.Machine.execReeveOr n s
  | .reeveXor n => Sys2Proof.Machine.execReeveXor n s
  | .reeveAndn n => Sys2Proof.Machine.execReeveAndn n s
  | .reeveSll n => Sys2Proof.Machine.execReeveSll n s
  | .reeveSrl n => Sys2Proof.Machine.execReeveSrl n s
  | .reeveSra n => Sys2Proof.Machine.execReeveSra n s
  | .reeveRol n => Sys2Proof.Machine.execReeveRol n s
  | .reeveRor n => Sys2Proof.Machine.execReeveRor n s
  | .reeveSlt n => Sys2Proof.Machine.execReeveSlt n s
  | .reeveSltu n => Sys2Proof.Machine.execReeveSltu n s
  | .reeveMin n => Sys2Proof.Machine.execReeveMin n s
  | .reeveMax n => Sys2Proof.Machine.execReeveMax n s
  | .reeveMinu n => Sys2Proof.Machine.execReeveMinu n s
  | .reeveMaxu n => Sys2Proof.Machine.execReeveMaxu n s
  | .reeveClz n => Sys2Proof.Machine.execReeveClz n s
  | .reeveCtz n => Sys2Proof.Machine.execReeveCtz n s
  | .reevePopc n => Sys2Proof.Machine.execReevePopc n s
  | .reeveSlli n => Sys2Proof.Machine.execReeveSlli n s
  | .reeveSrli n => Sys2Proof.Machine.execReeveSrli n s
  | .reeveSrai n => Sys2Proof.Machine.execReeveSrai n s
  | .reeveMul n => Sys2Proof.Machine.execReeveMul n s
  | .reeveMulh n => Sys2Proof.Machine.execReeveMulh n s
  | .reeveMulhu n => Sys2Proof.Machine.execReeveMulhu n s
  | .reeveDiv n => Sys2Proof.Machine.execReeveDiv n s
  | .reeveDivu n => Sys2Proof.Machine.execReeveDivu n s
  | .reeveRem n => Sys2Proof.Machine.execReeveRem n s
  | .reeveRemu n => Sys2Proof.Machine.execReeveRemu n s
  | .scalarResultWriteback n => Sys2Proof.Machine.execScalarResultWriteback n s
  | .reeveAddi n => Sys2Proof.Machine.execReeveAddi n s
  | .reeveAndi n => Sys2Proof.Machine.execReeveAndi n s
  | .reeveOri n => Sys2Proof.Machine.execReeveOri n s
  | .reeveXori n => Sys2Proof.Machine.execReeveXori n s
  | .reeveSlti n => Sys2Proof.Machine.execReeveSlti n s
  | .reeveSltiu n => Sys2Proof.Machine.execReeveSltiu n s
  | .reeveLdhi n => Sys2Proof.Machine.execReeveLdhi n s
  | .reevePcadd n => Sys2Proof.Machine.execReevePcadd n s
  | .reeveLdb n ecc => Sys2Proof.Machine.execReeveLdb n ecc s
  | .reeveLdbu n ecc => Sys2Proof.Machine.execReeveLdbu n ecc s
  | .reeveLdh n ecc => Sys2Proof.Machine.execReeveLdh n ecc s
  | .reeveLdhu n ecc => Sys2Proof.Machine.execReeveLdhu n ecc s
  | .reeveLdw n ecc => Sys2Proof.Machine.execReeveLdw n ecc s
  | .reeveLdwu n ecc => Sys2Proof.Machine.execReeveLdwu n ecc s
  | .reeveLdd n ecc => Sys2Proof.Machine.execReeveLdd n ecc s
  | .reeveStb n => Sys2Proof.Machine.execReeveStb n s
  | .reeveSth n => Sys2Proof.Machine.execReeveSth n s
  | .reeveStw n => Sys2Proof.Machine.execReeveStw n s
  | .reeveStd n => Sys2Proof.Machine.execReeveStd n s
  | .reeveBeq n => Sys2Proof.Machine.execReeveBeq n s
  | .reeveBne n => Sys2Proof.Machine.execReeveBne n s
  | .reeveBlt n => Sys2Proof.Machine.execReeveBlt n s
  | .reeveBge n => Sys2Proof.Machine.execReeveBge n s
  | .reeveBltu n => Sys2Proof.Machine.execReeveBltu n s
  | .reeveBgeu n => Sys2Proof.Machine.execReeveBgeu n s
  | .reeveJmp n => Sys2Proof.Machine.execReeveJmp n s
  | .reeveJmpr n => Sys2Proof.Machine.execReeveJmpr n s
  | .reeveCall n => Sys2Proof.Machine.execReeveCall n s
  | .reeveCallr n => Sys2Proof.Machine.execReeveCallr n s
  | .reeveLoop n => Sys2Proof.Machine.execReeveLoop n s
  | .reeveBld n ecc => Sys2Proof.Machine.execReeveBld n ecc s
  | .reeveBldu n ecc => Sys2Proof.Machine.execReeveBldu n ecc s
  | .reeveBst n => Sys2Proof.Machine.execReeveBst n s
  | .reeveLl n ecc => Sys2Proof.Machine.execReeveLl n ecc s
  | .reeveSc n => Sys2Proof.Machine.execReeveSc n s
  | .llReservationTimeout n => Sys2Proof.Machine.execLlReservationTimeout n s
  | .reeveAadd n => Sys2Proof.Machine.execReeveAadd n s
  | .reeveAswp n => Sys2Proof.Machine.execReeveAswp n s
  | .reeveRet n => Sys2Proof.Machine.execReeveRet n s
  | .reeveRete n => Sys2Proof.Machine.execReeveRete n s
  | .reeveTrap n => Sys2Proof.Machine.execReeveTrap n s
  | .reeveWfi n => Sys2Proof.Machine.execReeveWfi n s
  | .reeveFence n => Sys2Proof.Machine.execReeveFence n s
  | .reeveBrk n => Sys2Proof.Machine.execReeveBrk n s
  | .reeveExit n => Sys2Proof.Machine.execReeveExit n s
  | .reeveSow n => Sys2Proof.Machine.execReeveSow n s
  | .sowRetire n => Sys2Proof.Machine.execSowRetire n s
  | .reeveSowsync n => Sys2Proof.Machine.execReeveSowsync n s
  | .reeveCsrr n => Sys2Proof.Machine.execReeveCsrr n s
  | .reeveCsrw n => Sys2Proof.Machine.execReeveCsrw n s
  | .reeveCsrs n => Sys2Proof.Machine.execReeveCsrs n s
  | .reeveCsrc n => Sys2Proof.Machine.execReeveCsrc n s
  | .reeveLsize n => Sys2Proof.Machine.execReeveLsize n s
  | .reeveLadd n => Sys2Proof.Machine.execReeveLadd n s
  | .reeveLsub n => Sys2Proof.Machine.execReeveLsub n s
  | .reeveLmul n => Sys2Proof.Machine.execReeveLmul n s
  | .reeveLand n => Sys2Proof.Machine.execReeveLand n s
  | .reeveLor n => Sys2Proof.Machine.execReeveLor n s
  | .reeveLxor n => Sys2Proof.Machine.execReeveLxor n s
  | .reeveLtest n => Sys2Proof.Machine.execReeveLtest n s
  | .reeveLget n => Sys2Proof.Machine.execReeveLget n s
  | .reeveLgets n => Sys2Proof.Machine.execReeveLgets n s
  | .reeveLgath n => Sys2Proof.Machine.execReeveLgath n s
  | .reeveLprobe n => Sys2Proof.Machine.execReeveLprobe n s
  | .reeveLput n => Sys2Proof.Machine.execReeveLput n s
  | .reeveLputs n => Sys2Proof.Machine.execReeveLputs n s
  | .reeveLscat n => Sys2Proof.Machine.execReeveLscat n s
  | .reeveLcopy n => Sys2Proof.Machine.execReeveLcopy n s
  | .reeveLfill n => Sys2Proof.Machine.execReeveLfill n s
  | .reeveLsum n => Sys2Proof.Machine.execReeveLsum n s
  | .longUnitReady n => Sys2Proof.Machine.execLongUnitReady n s
  | .interruptEntry n => Sys2Proof.Machine.execInterruptEntry n s
  | .watchdogWarn n => Sys2Proof.Machine.execWatchdogWarn n s
  | .watchdogExpiry n => Sys2Proof.Machine.execWatchdogExpiry n s
  | .reeveSelfTestDone n pass => Sys2Proof.Machine.execReeveSelfTestDone n pass s
  | .remap who => Sys2Proof.Machine.execRemap who s
  | .hkdCopy who n => Sys2Proof.Machine.execHkdCopy who n s
  | .hkdFill who n => Sys2Proof.Machine.execHkdFill who n s
  | .hkdCompare who n => Sys2Proof.Machine.execHkdCompare who n s
  | .hkdBurstResponse n => Sys2Proof.Machine.execHkdBurstResponse n s
  | .hkdDisable who n => Sys2Proof.Machine.execHkdDisable who n s
  | .hkdResume who => Sys2Proof.Machine.execHkdResume who s
  | .mbxTxLoWrite who n v => Sys2Proof.Machine.execMbxTxLoWrite who n v s
  | .mbxPush who n v => Sys2Proof.Machine.execMbxPush who n v s
  | .mbxPop who n => Sys2Proof.Machine.execMbxPop who n s
  | .mbxCrossed n => Sys2Proof.Machine.execMbxCrossed n s
  | .barAccess p fn bar off len wdata => Sys2Proof.Machine.execBarAccess p fn bar off len wdata s
  | .hdmCommit p base size ways => Sys2Proof.Machine.execHdmCommit p base size ways s
  | .cxlMemRead p hpa => Sys2Proof.Machine.execCxlMemRead p hpa s
  | .cxlMemWrite p hpa enables data poison => Sys2Proof.Machine.execCxlMemWrite p hpa enables data poison s
  | .h2dSnoop p line inval => Sys2Proof.Machine.execH2dSnoop p line inval s
  | .linkWaitExpiry p => Sys2Proof.Machine.execLinkWaitExpiry p s
  | .hlkCfgWrite who p v => Sys2Proof.Machine.execHlkCfgWrite who p v s
  | .bellFrame v interval => Sys2Proof.Machine.execBellFrame v interval s
  | .alnarMark p stroke period free hops origin interval => Sys2Proof.Machine.execAlnarMark p stroke period free hops origin interval s
  | .freeStroke => Sys2Proof.Machine.execFreeStroke s
  | .sourceLost => Sys2Proof.Machine.execSourceLost s
  | .timingExchange p echo r2 => Sys2Proof.Machine.execTimingExchange p echo r2 s
  | .belCfgWrite who v => Sys2Proof.Machine.execBelCfgWrite who v s
  | .codewordReceive p cw => Sys2Proof.Machine.execCodewordReceive p cw s
  | .laneSpare p sent lost lane => Sys2Proof.Machine.execLaneSpare p sent lost lane s
  | .portDown p => Sys2Proof.Machine.execPortDown p s
  | .halfRetrain p sent lane => Sys2Proof.Machine.execHalfRetrain p sent lane s
  | .topology p src links age => Sys2Proof.Machine.execTopology p src links age s
  | .farRead p f => Sys2Proof.Machine.execFarRead p f s
  | .farWrite p f => Sys2Proof.Machine.execFarWrite p f s
  | .farAtomic p f => Sys2Proof.Machine.execFarAtomic p f s
  | .readResp p f => Sys2Proof.Machine.execReadResp p f s
  | .writeAck p f => Sys2Proof.Machine.execWriteAck p f s
  | .atomicResp p f => Sys2Proof.Machine.execAtomicResp p f s
  | .farRequestTimeout kind dest tag => Sys2Proof.Machine.execFarRequestTimeout kind dest tag s
  | .mirrorSetup p f => Sys2Proof.Machine.execMirrorSetup p f s
  | .mirrorWrite p f => Sys2Proof.Machine.execMirrorWrite p f s
  | .mirrorAck p f => Sys2Proof.Machine.execMirrorAck p f s
  | .heartbeat p f => Sys2Proof.Machine.execHeartbeat p f s
  | .unmirrored ch => Sys2Proof.Machine.execUnmirrored ch s
  | .mirrorResend ch => Sys2Proof.Machine.execMirrorResend ch s
  | .alnIdWrite who v => Sys2Proof.Machine.execAlnIdWrite who v s
  | .alnOpenWrite who n hi v => Sys2Proof.Machine.execAlnOpenWrite who n hi v s
  | .leaseReadback ch => Sys2Proof.Machine.execLeaseReadback ch s
  | .adoption origin ch => Sys2Proof.Machine.execAdoption origin ch s
  | .ldgAdoptCmd who origin => Sys2Proof.Machine.execLdgAdoptCmd who origin s
  | .adoptLogPop who => Sys2Proof.Machine.execAdoptLogPop who s
  | .clear who ch => Sys2Proof.Machine.execClear who ch s
  | .ldgCfgWrite who v => Sys2Proof.Machine.execLdgCfgWrite who v s
  | .channelRecovery ch => Sys2Proof.Machine.execChannelRecovery ch s
  | .latchOpen => Sys2Proof.Machine.execLatchOpen s
  | .detachLimitExpiry => Sys2Proof.Machine.execDetachLimitExpiry s
  | .safeReached => Sys2Proof.Machine.execSafeReached s
  | .latchClosedInSafe => Sys2Proof.Machine.execLatchClosedInSafe s
  | .presenceLost => Sys2Proof.Machine.execPresenceLost s
  | .presenceGained => Sys2Proof.Machine.execPresenceGained s
  | .vinUv => Sys2Proof.Machine.execVinUv s
  | .vinOv => Sys2Proof.Machine.execVinOv s
  | .vinRecovery => Sys2Proof.Machine.execVinRecovery s
  | .boardOt => Sys2Proof.Machine.execBoardOt s
  | .coolLow => Sys2Proof.Machine.execCoolLow s
  | .alnDetect => Sys2Proof.Machine.execAlnDetect s
  | .mgmtWake => Sys2Proof.Machine.execMgmtWake s
  | .bellLost => Sys2Proof.Machine.execBellLost s
  | .wakeAtStroke => Sys2Proof.Machine.execWakeAtStroke s
  | .quiet who => Sys2Proof.Machine.execQuiet who s
  | .wake who => Sys2Proof.Machine.execWake who s
  | .standby who => Sys2Proof.Machine.execStandby who s
  | .inputOvercurrent => Sys2Proof.Machine.execInputOvercurrent s
  | .reverseInputCurrent => Sys2Proof.Machine.execReverseInputCurrent s
  | .constableVinOvervoltage => Sys2Proof.Machine.execConstableVinOvervoltage s
  | .railOvervoltage => Sys2Proof.Machine.execRailOvervoltage s
  | .dieOvertemperature => Sys2Proof.Machine.execDieOvertemperature s
  | .boardOvertemperature => Sys2Proof.Machine.execBoardOvertemperature s
  | .coolOkLow => Sys2Proof.Machine.execCoolOkLow s
  | .senseMismatch => Sys2Proof.Machine.execSenseMismatch s
  | .controllerAHeartbeatLost => Sys2Proof.Machine.execControllerAHeartbeatLost s
  | .constableHeartbeatLost => Sys2Proof.Machine.execConstableHeartbeatLost s
  | .greenCompareMismatch => Sys2Proof.Machine.execGreenCompareMismatch s
  | .standdownStripTimeout => Sys2Proof.Machine.execStanddownStripTimeout s
  | .causeRelease cause => Sys2Proof.Machine.execCauseRelease cause s
  | .safWdogKick who key => Sys2Proof.Machine.execSafWdogKick who key s
  | .safWdogExpiry => Sys2Proof.Machine.execSafWdogExpiry s
  | .safForce who => Sys2Proof.Machine.execSafForce who s
  | .safFwwinWrite who n hi v => Sys2Proof.Machine.execSafFwwinWrite who n hi v s
  | .sprCmdGo who kind unit => Sys2Proof.Machine.execSprCmdGo who kind unit s
  | .bankCopyComplete => Sys2Proof.Machine.execBankCopyComplete s
  | .phaseShed rail unit => Sys2Proof.Machine.execPhaseShed rail unit s
  | .sprLogPop who => Sys2Proof.Machine.execSprLogPop who s
  | .take who kind inst => Sys2Proof.Machine.execTake who kind inst s
  | .hold who kind inst on => Sys2Proof.Machine.execHold who kind inst on s
  | .deviceSnapshotTake who => Sys2Proof.Machine.execDeviceSnapshotTake who s
  | .deviceSnapshotArm who => Sys2Proof.Machine.execDeviceSnapshotArm who s
  | .deviceSnapshotCancel who => Sys2Proof.Machine.execDeviceSnapshotCancel who s
  | .deviceSnapshotAtT => Sys2Proof.Machine.execDeviceSnapshotAtT s
  | .zero who kind inst fz => Sys2Proof.Machine.execZero who kind inst fz s
  | .freeze who kind inst on => Sys2Proof.Machine.execFreeze who kind inst on s
  | .lock who kind inst => Sys2Proof.Machine.execLock who kind inst s
  | .eventForce who kind inst v => Sys2Proof.Machine.execEventForce who kind inst v s
  | .setViewWrite who kind inst off v => Sys2Proof.Machine.execSetViewWrite who kind inst off v s
  | .clearViewWrite who kind inst off v => Sys2Proof.Machine.execClearViewWrite who kind inst off v s
  | .toggleViewWrite who kind inst off v => Sys2Proof.Machine.execToggleViewWrite who kind inst off v s
  | .pairLoRead who kind inst off => Sys2Proof.Machine.execPairLoRead who kind inst off s
  | .registerWrite who kind inst off v => Sys2Proof.Machine.execRegisterWrite who kind inst off v s
  | .pldmRead binding what => Sys2Proof.Machine.execPldmRead binding what s
  | .requestUpdate binding version svn image => Sys2Proof.Machine.execRequestUpdate binding version svn image s
  | .verifyComplete binding => Sys2Proof.Machine.execVerifyComplete binding s
  | .activateFirmware binding => Sys2Proof.Machine.execActivateFirmware binding s
  | .keyExchange binding io cm => Sys2Proof.Machine.execKeyExchange binding io cm s
  | .spdmMeasurements binding ix => Sys2Proof.Machine.execSpdmMeasurements binding ix s
  | .gateOpen m => Sys2Proof.Machine.execGateOpen m s
  | .gateProve m => Sys2Proof.Machine.execGateProve m s
  | .proveTimeout => Sys2Proof.Machine.execProveTimeout s
  | .gateInfo m => Sys2Proof.Machine.execGateInfo m s
  | .gateSetId m => Sys2Proof.Machine.execGateSetId m s
  | .gateWarmReset m => Sys2Proof.Machine.execGateWarmReset m s
  | .gatePower m => Sys2Proof.Machine.execGatePower m s
  | .gateCalSet m => Sys2Proof.Machine.execGateCalSet m s
  | .gateCalCommit m => Sys2Proof.Machine.execGateCalCommit m s
  | .gateLifecycle m => Sys2Proof.Machine.execGateLifecycle m s
  | .gateDebugAuth m => Sys2Proof.Machine.execGateDebugAuth m s
  | .gateSvnCommit m => Sys2Proof.Machine.execGateSvnCommit m s
  | .gateKeySet m => Sys2Proof.Machine.execGateKeySet m s
  | .gateKeyRevoke m => Sys2Proof.Machine.execGateKeyRevoke m s
  | .gateClose m => Sys2Proof.Machine.execGateClose m s
  | .provision m => Sys2Proof.Machine.execProvision m s
  | .sessionIdleTimeout => Sys2Proof.Machine.execSessionIdleTimeout s
  | .tamper stays => Sys2Proof.Machine.execTamper stays s
  | .wipeDone => Sys2Proof.Machine.execWipeDone s
  | .tallyWakeSequence => Sys2Proof.Machine.execTallyWakeSequence s
  | .tallyDioLowReset => Sys2Proof.Machine.execTallyDioLowReset s
  | .tallyReadFrame hdr crc => Sys2Proof.Machine.execTallyReadFrame hdr crc s
  | .tallyWriteFrame hdr wdata crc => Sys2Proof.Machine.execTallyWriteFrame hdr wdata crc s
  | .dbgHalt who n => Sys2Proof.Machine.execDbgHalt who n s
  | .haltTakesEffect n => Sys2Proof.Machine.execHaltTakesEffect n s
  | .forcedHalt n => Sys2Proof.Machine.execForcedHalt n s
  | .dbgResume who n => Sys2Proof.Machine.execDbgResume who n s
  | .dbgStep who n => Sys2Proof.Machine.execDbgStep who n s
  | .dbgRegRead who => Sys2Proof.Machine.execDbgRegRead who s
  | .dbgRegWrite who v => Sys2Proof.Machine.execDbgRegWrite who v s
  | .dbgMmGo who write auto consume => Sys2Proof.Machine.execDbgMmGo who write auto consume s
  | .dbgMmDataAuto who wdata => Sys2Proof.Machine.execDbgMmDataAuto who wdata s
  | .mmAccessDone => Sys2Proof.Machine.execMmAccessDone s
  | .debugReset who => Sys2Proof.Machine.execDebugReset who s
  | .dropAuth who => Sys2Proof.Machine.execDropAuth who s
  | .dbgMark who v => Sys2Proof.Machine.execDbgMark who v s
  | .authExpiry => Sys2Proof.Machine.execAuthExpiry s
  | .msixTableWrite p fn off v => Sys2Proof.Machine.execMsixTableWrite p fn off v s
  | .configurationSpaceWrite p fn field v => Sys2Proof.Machine.execConfigurationSpaceWrite p fn field v s
  | .setEndpointId binding eid => Sys2Proof.Machine.execSetEndpointId binding eid s
  | .illegalInstr n => Sys2Proof.Machine.execIllegalInstr n s
  | .fetchFault n ecc => Sys2Proof.Machine.execFetchFault n ecc s
  | .powerLoss => Sys2Proof.Machine.execPowerLoss s
  | .blockingComparatorRelease bit => Sys2Proof.Machine.execBlockingComparatorRelease bit s
  | .hamletClockGating h => Sys2Proof.Machine.execHamletClockGating h s

end Sys2Proof.Machine
end

