-- ==== Sys2Proof/Machine/Step.lean ====
section
/-! DEFINITION. One step: the command at the front of the queue, or a step of bell time when none waits. -/
namespace Sys2Proof.Machine

/-- The command at the front of the queue is executed with the queue's rest; with none waiting the phase of the bell advances (log
entry 33). -/
def step (s : State) : Host.Outcome State Fault Refusal :=
  match s.pending with
  | c :: rest => exec c { s with pending := rest }
  | [] => .next { s with dev := s.dev.tick }

/-- The state with the command that a word spells put at the front of its queue (log entry 1). -/
def State.withFetchWord (s : State) (nbits w : Nat) : State :=
  match decodeTableWord nbits w with
  | some c => { s with pending := c :: s.pending }
  | none => s

end Sys2Proof.Machine
end

