-- ==== Sys2Proof/Laws/Maps.lean ====
section
/-! SUPPORT. What a finite map finds after an update. -/
namespace Sys2Proof.Machine.Map

variable {α : Type}

@[simp] theorem find?_nil (k : Nat) : find? ([] : Map α) k = none := rfl

theorem find?_set (m : Map α) (k j : Nat) (v : α) : (m.set k v).find? j = if k = j then some v else m.find? j := by
  induction m with
  | nil => simp [set, find?]
  | cons e m ih =>
    obtain ⟨a, u⟩ := e
    simp only [set]
    split
    · simp [find?]
    · split
      · subst_vars; simp [find?]; split <;> simp_all
      · simp only [find?, ih]
        split <;> simp_all

@[simp] theorem find?_set_same (m : Map α) (k : Nat) (v : α) : (m.set k v).find? k = some v := by simp [find?_set]
theorem find?_set_ne (m : Map α) {k j : Nat} (v : α) (h : k ≠ j) : (m.set k v).find? j = m.find? j := by simp [find?_set, h]

@[simp] theorem get_nil (dflt : α) (k : Nat) : get ([] : Map α) dflt k = dflt := rfl
theorem get_set (m : Map α) (dflt : α) (k j : Nat) (v : α) : (m.set k v).get dflt j = if k = j then v else m.get dflt j := by
  simp only [get, find?_set]; split <;> rfl
@[simp] theorem get_set_same (m : Map α) (dflt : α) (k : Nat) (v : α) : (m.set k v).get dflt k = v := by simp [get_set]
theorem get_set_ne (m : Map α) (dflt : α) {k j : Nat} (v : α) (h : k ≠ j) : (m.set k v).get dflt j = m.get dflt j := by simp [get_set, h]

end Sys2Proof.Machine.Map
end

