-- ==== Sys2Proof/Laws/State.lean ====
section
/-! SUPPORT. One lemma per update of the state and per field it leaves alone: no later proof unfolds a record update. -/
namespace Sys2Proof.Machine.Device

@[simp] theorem setRg_mem (d : Device) (k i o v : Nat) : (d.setRg k i o v).mem = d.mem := rfl
@[simp] theorem setRg_poison (d : Device) (k i o v : Nat) : (d.setRg k i o v).poison = d.poison := rfl
@[simp] theorem setRg_latent (d : Device) (k i o v : Nat) : (d.setRg k i o v).latent = d.latent := rfl
@[simp] theorem setRg_corrected (d : Device) (k i o v : Nat) : (d.setRg k i o v).corrected = d.corrected := rfl
@[simp] theorem setRg_snaps (d : Device) (k i o v : Nat) : (d.setRg k i o v).snaps = d.snaps := rfl
@[simp] theorem setRg_latches (d : Device) (k i o v : Nat) : (d.setRg k i o v).latches = d.latches := rfl
@[simp] theorem setRg_free (d : Device) (k i o v : Nat) : (d.setRg k i o v).free = d.free := rfl
@[simp] theorem setRg_out (d : Device) (k i o v : Nat) : (d.setRg k i o v).out = d.out := rfl
@[simp] theorem setRg_elog (d : Device) (k i o v : Nat) : (d.setRg k i o v).elog = d.elog := rfl
@[simp] theorem setRg_bell (d : Device) (k i o v : Nat) : (d.setRg k i o v).bell = d.bell := rfl
@[simp] theorem setRg_hosts (d : Device) (k i o v : Nat) : (d.setRg k i o v).hosts = d.hosts := rfl
@[simp] theorem setRg_xlt (d : Device) (k i o v : Nat) : (d.setRg k i o v).xlt = d.xlt := rfl
@[simp] theorem setRg_crofts (d : Device) (k i o v : Nat) : (d.setRg k i o v).crofts = d.crofts := rfl
@[simp] theorem setRg_chans (d : Device) (k i o v : Nat) : (d.setRg k i o v).chans = d.chans := rfl
@[simp] theorem setRg_jobs (d : Device) (k i o v : Nat) : (d.setRg k i o v).jobs = d.jobs := rfl
@[simp] theorem setRg_sower (d : Device) (k i o v : Nat) : (d.setRg k i o v).sower = d.sower := rfl
@[simp] theorem setRg_ledger (d : Device) (k i o v : Nat) : (d.setRg k i o v).ledger = d.ledger := rfl
@[simp] theorem setRg_ring (d : Device) (k i o v : Nat) : (d.setRg k i o v).ring = d.ring := rfl
@[simp] theorem setRg_spare (d : Device) (k i o v : Nat) : (d.setRg k i o v).spare = d.spare := rfl
@[simp] theorem setRg_trace (d : Device) (k i o v : Nat) : (d.setRg k i o v).trace = d.trace := rfl
@[simp] theorem setRg_reeves (d : Device) (k i o v : Nat) : (d.setRg k i o v).reeves = d.reeves := rfl
@[simp] theorem setRg_boxes (d : Device) (k i o v : Nat) : (d.setRg k i o v).boxes = d.boxes := rfl
@[simp] theorem setRg_hkdTurn (d : Device) (k i o v : Nat) : (d.setRg k i o v).hkdTurn = d.hkdTurn := rfl
@[simp] theorem setRg_ports (d : Device) (k i o v : Nat) : (d.setRg k i o v).ports = d.ports := rfl
@[simp] theorem setRg_snapT (d : Device) (k i o v : Nat) : (d.setRg k i o v).snapT = d.snapT := rfl
@[simp] theorem setRg_snapAt (d : Device) (k i o v : Nat) : (d.setRg k i o v).snapAt = d.snapAt := rfl
@[simp] theorem setRg_grants (d : Device) (k i o v : Nat) : (d.setRg k i o v).grants = d.grants := rfl
@[simp] theorem setRg_arbCfg (d : Device) (k i o v : Nat) : (d.setRg k i o v).arbCfg = d.arbCfg := rfl
@[simp] theorem setRg_power (d : Device) (k i o v : Nat) : (d.setRg k i o v).power = d.power := rfl
@[simp] theorem setRg_gate (d : Device) (k i o v : Nat) : (d.setRg k i o v).gate = d.gate := rfl
@[simp] theorem setRg_dbg (d : Device) (k i o v : Nat) : (d.setRg k i o v).dbg = d.dbg := rfl

@[simp] theorem setFld_mem (d : Device) (k i o lo n v : Nat) : (d.setFld k i o lo n v).mem = d.mem := rfl
@[simp] theorem setFld_poison (d : Device) (k i o lo n v : Nat) : (d.setFld k i o lo n v).poison = d.poison := rfl
@[simp] theorem setFld_latent (d : Device) (k i o lo n v : Nat) : (d.setFld k i o lo n v).latent = d.latent := rfl
@[simp] theorem setFld_corrected (d : Device) (k i o lo n v : Nat) : (d.setFld k i o lo n v).corrected = d.corrected := rfl
@[simp] theorem setFld_snaps (d : Device) (k i o lo n v : Nat) : (d.setFld k i o lo n v).snaps = d.snaps := rfl
@[simp] theorem setFld_latches (d : Device) (k i o lo n v : Nat) : (d.setFld k i o lo n v).latches = d.latches := rfl
@[simp] theorem setFld_free (d : Device) (k i o lo n v : Nat) : (d.setFld k i o lo n v).free = d.free := rfl
@[simp] theorem setFld_out (d : Device) (k i o lo n v : Nat) : (d.setFld k i o lo n v).out = d.out := rfl
@[simp] theorem setFld_elog (d : Device) (k i o lo n v : Nat) : (d.setFld k i o lo n v).elog = d.elog := rfl
@[simp] theorem setFld_bell (d : Device) (k i o lo n v : Nat) : (d.setFld k i o lo n v).bell = d.bell := rfl
@[simp] theorem setFld_hosts (d : Device) (k i o lo n v : Nat) : (d.setFld k i o lo n v).hosts = d.hosts := rfl
@[simp] theorem setFld_xlt (d : Device) (k i o lo n v : Nat) : (d.setFld k i o lo n v).xlt = d.xlt := rfl
@[simp] theorem setFld_crofts (d : Device) (k i o lo n v : Nat) : (d.setFld k i o lo n v).crofts = d.crofts := rfl
@[simp] theorem setFld_chans (d : Device) (k i o lo n v : Nat) : (d.setFld k i o lo n v).chans = d.chans := rfl
@[simp] theorem setFld_jobs (d : Device) (k i o lo n v : Nat) : (d.setFld k i o lo n v).jobs = d.jobs := rfl
@[simp] theorem setFld_sower (d : Device) (k i o lo n v : Nat) : (d.setFld k i o lo n v).sower = d.sower := rfl
@[simp] theorem setFld_ledger (d : Device) (k i o lo n v : Nat) : (d.setFld k i o lo n v).ledger = d.ledger := rfl
@[simp] theorem setFld_ring (d : Device) (k i o lo n v : Nat) : (d.setFld k i o lo n v).ring = d.ring := rfl
@[simp] theorem setFld_spare (d : Device) (k i o lo n v : Nat) : (d.setFld k i o lo n v).spare = d.spare := rfl
@[simp] theorem setFld_trace (d : Device) (k i o lo n v : Nat) : (d.setFld k i o lo n v).trace = d.trace := rfl
@[simp] theorem setFld_reeves (d : Device) (k i o lo n v : Nat) : (d.setFld k i o lo n v).reeves = d.reeves := rfl
@[simp] theorem setFld_boxes (d : Device) (k i o lo n v : Nat) : (d.setFld k i o lo n v).boxes = d.boxes := rfl
@[simp] theorem setFld_hkdTurn (d : Device) (k i o lo n v : Nat) : (d.setFld k i o lo n v).hkdTurn = d.hkdTurn := rfl
@[simp] theorem setFld_ports (d : Device) (k i o lo n v : Nat) : (d.setFld k i o lo n v).ports = d.ports := rfl
@[simp] theorem setFld_snapT (d : Device) (k i o lo n v : Nat) : (d.setFld k i o lo n v).snapT = d.snapT := rfl
@[simp] theorem setFld_snapAt (d : Device) (k i o lo n v : Nat) : (d.setFld k i o lo n v).snapAt = d.snapAt := rfl
@[simp] theorem setFld_grants (d : Device) (k i o lo n v : Nat) : (d.setFld k i o lo n v).grants = d.grants := rfl
@[simp] theorem setFld_arbCfg (d : Device) (k i o lo n v : Nat) : (d.setFld k i o lo n v).arbCfg = d.arbCfg := rfl
@[simp] theorem setFld_power (d : Device) (k i o lo n v : Nat) : (d.setFld k i o lo n v).power = d.power := rfl
@[simp] theorem setFld_gate (d : Device) (k i o lo n v : Nat) : (d.setFld k i o lo n v).gate = d.gate := rfl
@[simp] theorem setFld_dbg (d : Device) (k i o lo n v : Nat) : (d.setFld k i o lo n v).dbg = d.dbg := rfl

@[simp] theorem emit_mem (d : Device) (x : Out) : (d.emit x).mem = d.mem := rfl
@[simp] theorem emit_poison (d : Device) (x : Out) : (d.emit x).poison = d.poison := rfl
@[simp] theorem emit_latent (d : Device) (x : Out) : (d.emit x).latent = d.latent := rfl
@[simp] theorem emit_corrected (d : Device) (x : Out) : (d.emit x).corrected = d.corrected := rfl
@[simp] theorem emit_regs (d : Device) (x : Out) : (d.emit x).regs = d.regs := rfl
@[simp] theorem emit_snaps (d : Device) (x : Out) : (d.emit x).snaps = d.snaps := rfl
@[simp] theorem emit_latches (d : Device) (x : Out) : (d.emit x).latches = d.latches := rfl
@[simp] theorem emit_free (d : Device) (x : Out) : (d.emit x).free = d.free := rfl
@[simp] theorem emit_elog (d : Device) (x : Out) : (d.emit x).elog = d.elog := rfl
@[simp] theorem emit_bell (d : Device) (x : Out) : (d.emit x).bell = d.bell := rfl
@[simp] theorem emit_hosts (d : Device) (x : Out) : (d.emit x).hosts = d.hosts := rfl
@[simp] theorem emit_xlt (d : Device) (x : Out) : (d.emit x).xlt = d.xlt := rfl
@[simp] theorem emit_crofts (d : Device) (x : Out) : (d.emit x).crofts = d.crofts := rfl
@[simp] theorem emit_chans (d : Device) (x : Out) : (d.emit x).chans = d.chans := rfl
@[simp] theorem emit_jobs (d : Device) (x : Out) : (d.emit x).jobs = d.jobs := rfl
@[simp] theorem emit_sower (d : Device) (x : Out) : (d.emit x).sower = d.sower := rfl
@[simp] theorem emit_ledger (d : Device) (x : Out) : (d.emit x).ledger = d.ledger := rfl
@[simp] theorem emit_ring (d : Device) (x : Out) : (d.emit x).ring = d.ring := rfl
@[simp] theorem emit_spare (d : Device) (x : Out) : (d.emit x).spare = d.spare := rfl
@[simp] theorem emit_trace (d : Device) (x : Out) : (d.emit x).trace = d.trace := rfl
@[simp] theorem emit_reeves (d : Device) (x : Out) : (d.emit x).reeves = d.reeves := rfl
@[simp] theorem emit_boxes (d : Device) (x : Out) : (d.emit x).boxes = d.boxes := rfl
@[simp] theorem emit_hkdTurn (d : Device) (x : Out) : (d.emit x).hkdTurn = d.hkdTurn := rfl
@[simp] theorem emit_ports (d : Device) (x : Out) : (d.emit x).ports = d.ports := rfl
@[simp] theorem emit_snapT (d : Device) (x : Out) : (d.emit x).snapT = d.snapT := rfl
@[simp] theorem emit_snapAt (d : Device) (x : Out) : (d.emit x).snapAt = d.snapAt := rfl
@[simp] theorem emit_grants (d : Device) (x : Out) : (d.emit x).grants = d.grants := rfl
@[simp] theorem emit_arbCfg (d : Device) (x : Out) : (d.emit x).arbCfg = d.arbCfg := rfl
@[simp] theorem emit_power (d : Device) (x : Out) : (d.emit x).power = d.power := rfl
@[simp] theorem emit_gate (d : Device) (x : Out) : (d.emit x).gate = d.gate := rfl
@[simp] theorem emit_dbg (d : Device) (x : Out) : (d.emit x).dbg = d.dbg := rfl

@[simp] theorem setHost_mem (d : Device) (p : Nat) (h : HostPort) : (d.setHost p h).mem = d.mem := rfl
@[simp] theorem setHost_poison (d : Device) (p : Nat) (h : HostPort) : (d.setHost p h).poison = d.poison := rfl
@[simp] theorem setHost_latent (d : Device) (p : Nat) (h : HostPort) : (d.setHost p h).latent = d.latent := rfl
@[simp] theorem setHost_corrected (d : Device) (p : Nat) (h : HostPort) : (d.setHost p h).corrected = d.corrected := rfl
@[simp] theorem setHost_regs (d : Device) (p : Nat) (h : HostPort) : (d.setHost p h).regs = d.regs := rfl
@[simp] theorem setHost_snaps (d : Device) (p : Nat) (h : HostPort) : (d.setHost p h).snaps = d.snaps := rfl
@[simp] theorem setHost_latches (d : Device) (p : Nat) (h : HostPort) : (d.setHost p h).latches = d.latches := rfl
@[simp] theorem setHost_free (d : Device) (p : Nat) (h : HostPort) : (d.setHost p h).free = d.free := rfl
@[simp] theorem setHost_out (d : Device) (p : Nat) (h : HostPort) : (d.setHost p h).out = d.out := rfl
@[simp] theorem setHost_elog (d : Device) (p : Nat) (h : HostPort) : (d.setHost p h).elog = d.elog := rfl
@[simp] theorem setHost_bell (d : Device) (p : Nat) (h : HostPort) : (d.setHost p h).bell = d.bell := rfl
@[simp] theorem setHost_xlt (d : Device) (p : Nat) (h : HostPort) : (d.setHost p h).xlt = d.xlt := rfl
@[simp] theorem setHost_crofts (d : Device) (p : Nat) (h : HostPort) : (d.setHost p h).crofts = d.crofts := rfl
@[simp] theorem setHost_chans (d : Device) (p : Nat) (h : HostPort) : (d.setHost p h).chans = d.chans := rfl
@[simp] theorem setHost_jobs (d : Device) (p : Nat) (h : HostPort) : (d.setHost p h).jobs = d.jobs := rfl
@[simp] theorem setHost_sower (d : Device) (p : Nat) (h : HostPort) : (d.setHost p h).sower = d.sower := rfl
@[simp] theorem setHost_ledger (d : Device) (p : Nat) (h : HostPort) : (d.setHost p h).ledger = d.ledger := rfl
@[simp] theorem setHost_ring (d : Device) (p : Nat) (h : HostPort) : (d.setHost p h).ring = d.ring := rfl
@[simp] theorem setHost_spare (d : Device) (p : Nat) (h : HostPort) : (d.setHost p h).spare = d.spare := rfl
@[simp] theorem setHost_trace (d : Device) (p : Nat) (h : HostPort) : (d.setHost p h).trace = d.trace := rfl
@[simp] theorem setHost_reeves (d : Device) (p : Nat) (h : HostPort) : (d.setHost p h).reeves = d.reeves := rfl
@[simp] theorem setHost_boxes (d : Device) (p : Nat) (h : HostPort) : (d.setHost p h).boxes = d.boxes := rfl
@[simp] theorem setHost_hkdTurn (d : Device) (p : Nat) (h : HostPort) : (d.setHost p h).hkdTurn = d.hkdTurn := rfl
@[simp] theorem setHost_ports (d : Device) (p : Nat) (h : HostPort) : (d.setHost p h).ports = d.ports := rfl
@[simp] theorem setHost_snapT (d : Device) (p : Nat) (h : HostPort) : (d.setHost p h).snapT = d.snapT := rfl
@[simp] theorem setHost_snapAt (d : Device) (p : Nat) (h : HostPort) : (d.setHost p h).snapAt = d.snapAt := rfl
@[simp] theorem setHost_grants (d : Device) (p : Nat) (h : HostPort) : (d.setHost p h).grants = d.grants := rfl
@[simp] theorem setHost_arbCfg (d : Device) (p : Nat) (h : HostPort) : (d.setHost p h).arbCfg = d.arbCfg := rfl
@[simp] theorem setHost_power (d : Device) (p : Nat) (h : HostPort) : (d.setHost p h).power = d.power := rfl
@[simp] theorem setHost_gate (d : Device) (p : Nat) (h : HostPort) : (d.setHost p h).gate = d.gate := rfl
@[simp] theorem setHost_dbg (d : Device) (p : Nat) (h : HostPort) : (d.setHost p h).dbg = d.dbg := rfl

@[simp] theorem oweMsg_mem (d : Device) (p fn v : Nat) : (d.oweMsg p fn v).mem = d.mem := rfl
@[simp] theorem oweMsg_poison (d : Device) (p fn v : Nat) : (d.oweMsg p fn v).poison = d.poison := rfl
@[simp] theorem oweMsg_latent (d : Device) (p fn v : Nat) : (d.oweMsg p fn v).latent = d.latent := rfl
@[simp] theorem oweMsg_corrected (d : Device) (p fn v : Nat) : (d.oweMsg p fn v).corrected = d.corrected := rfl
@[simp] theorem oweMsg_regs (d : Device) (p fn v : Nat) : (d.oweMsg p fn v).regs = d.regs := rfl
@[simp] theorem oweMsg_snaps (d : Device) (p fn v : Nat) : (d.oweMsg p fn v).snaps = d.snaps := rfl
@[simp] theorem oweMsg_latches (d : Device) (p fn v : Nat) : (d.oweMsg p fn v).latches = d.latches := rfl
@[simp] theorem oweMsg_free (d : Device) (p fn v : Nat) : (d.oweMsg p fn v).free = d.free := rfl
@[simp] theorem oweMsg_out (d : Device) (p fn v : Nat) : (d.oweMsg p fn v).out = d.out := rfl
@[simp] theorem oweMsg_elog (d : Device) (p fn v : Nat) : (d.oweMsg p fn v).elog = d.elog := rfl
@[simp] theorem oweMsg_bell (d : Device) (p fn v : Nat) : (d.oweMsg p fn v).bell = d.bell := rfl
@[simp] theorem oweMsg_xlt (d : Device) (p fn v : Nat) : (d.oweMsg p fn v).xlt = d.xlt := rfl
@[simp] theorem oweMsg_crofts (d : Device) (p fn v : Nat) : (d.oweMsg p fn v).crofts = d.crofts := rfl
@[simp] theorem oweMsg_chans (d : Device) (p fn v : Nat) : (d.oweMsg p fn v).chans = d.chans := rfl
@[simp] theorem oweMsg_jobs (d : Device) (p fn v : Nat) : (d.oweMsg p fn v).jobs = d.jobs := rfl
@[simp] theorem oweMsg_sower (d : Device) (p fn v : Nat) : (d.oweMsg p fn v).sower = d.sower := rfl
@[simp] theorem oweMsg_ledger (d : Device) (p fn v : Nat) : (d.oweMsg p fn v).ledger = d.ledger := rfl
@[simp] theorem oweMsg_ring (d : Device) (p fn v : Nat) : (d.oweMsg p fn v).ring = d.ring := rfl
@[simp] theorem oweMsg_spare (d : Device) (p fn v : Nat) : (d.oweMsg p fn v).spare = d.spare := rfl
@[simp] theorem oweMsg_trace (d : Device) (p fn v : Nat) : (d.oweMsg p fn v).trace = d.trace := rfl
@[simp] theorem oweMsg_reeves (d : Device) (p fn v : Nat) : (d.oweMsg p fn v).reeves = d.reeves := rfl
@[simp] theorem oweMsg_boxes (d : Device) (p fn v : Nat) : (d.oweMsg p fn v).boxes = d.boxes := rfl
@[simp] theorem oweMsg_hkdTurn (d : Device) (p fn v : Nat) : (d.oweMsg p fn v).hkdTurn = d.hkdTurn := rfl
@[simp] theorem oweMsg_ports (d : Device) (p fn v : Nat) : (d.oweMsg p fn v).ports = d.ports := rfl
@[simp] theorem oweMsg_snapT (d : Device) (p fn v : Nat) : (d.oweMsg p fn v).snapT = d.snapT := rfl
@[simp] theorem oweMsg_snapAt (d : Device) (p fn v : Nat) : (d.oweMsg p fn v).snapAt = d.snapAt := rfl
@[simp] theorem oweMsg_grants (d : Device) (p fn v : Nat) : (d.oweMsg p fn v).grants = d.grants := rfl
@[simp] theorem oweMsg_arbCfg (d : Device) (p fn v : Nat) : (d.oweMsg p fn v).arbCfg = d.arbCfg := rfl
@[simp] theorem oweMsg_power (d : Device) (p fn v : Nat) : (d.oweMsg p fn v).power = d.power := rfl
@[simp] theorem oweMsg_gate (d : Device) (p fn v : Nat) : (d.oweMsg p fn v).gate = d.gate := rfl
@[simp] theorem oweMsg_dbg (d : Device) (p fn v : Nat) : (d.oweMsg p fn v).dbg = d.dbg := rfl

@[simp] theorem setPort_mem (d : Device) (p : Nat) (a : AlnPort) : (d.setPort p a).mem = d.mem := rfl
@[simp] theorem setPort_poison (d : Device) (p : Nat) (a : AlnPort) : (d.setPort p a).poison = d.poison := rfl
@[simp] theorem setPort_latent (d : Device) (p : Nat) (a : AlnPort) : (d.setPort p a).latent = d.latent := rfl
@[simp] theorem setPort_corrected (d : Device) (p : Nat) (a : AlnPort) : (d.setPort p a).corrected = d.corrected := rfl
@[simp] theorem setPort_regs (d : Device) (p : Nat) (a : AlnPort) : (d.setPort p a).regs = d.regs := rfl
@[simp] theorem setPort_snaps (d : Device) (p : Nat) (a : AlnPort) : (d.setPort p a).snaps = d.snaps := rfl
@[simp] theorem setPort_latches (d : Device) (p : Nat) (a : AlnPort) : (d.setPort p a).latches = d.latches := rfl
@[simp] theorem setPort_free (d : Device) (p : Nat) (a : AlnPort) : (d.setPort p a).free = d.free := rfl
@[simp] theorem setPort_out (d : Device) (p : Nat) (a : AlnPort) : (d.setPort p a).out = d.out := rfl
@[simp] theorem setPort_elog (d : Device) (p : Nat) (a : AlnPort) : (d.setPort p a).elog = d.elog := rfl
@[simp] theorem setPort_bell (d : Device) (p : Nat) (a : AlnPort) : (d.setPort p a).bell = d.bell := rfl
@[simp] theorem setPort_hosts (d : Device) (p : Nat) (a : AlnPort) : (d.setPort p a).hosts = d.hosts := rfl
@[simp] theorem setPort_xlt (d : Device) (p : Nat) (a : AlnPort) : (d.setPort p a).xlt = d.xlt := rfl
@[simp] theorem setPort_crofts (d : Device) (p : Nat) (a : AlnPort) : (d.setPort p a).crofts = d.crofts := rfl
@[simp] theorem setPort_chans (d : Device) (p : Nat) (a : AlnPort) : (d.setPort p a).chans = d.chans := rfl
@[simp] theorem setPort_jobs (d : Device) (p : Nat) (a : AlnPort) : (d.setPort p a).jobs = d.jobs := rfl
@[simp] theorem setPort_sower (d : Device) (p : Nat) (a : AlnPort) : (d.setPort p a).sower = d.sower := rfl
@[simp] theorem setPort_ledger (d : Device) (p : Nat) (a : AlnPort) : (d.setPort p a).ledger = d.ledger := rfl
@[simp] theorem setPort_ring (d : Device) (p : Nat) (a : AlnPort) : (d.setPort p a).ring = d.ring := rfl
@[simp] theorem setPort_spare (d : Device) (p : Nat) (a : AlnPort) : (d.setPort p a).spare = d.spare := rfl
@[simp] theorem setPort_trace (d : Device) (p : Nat) (a : AlnPort) : (d.setPort p a).trace = d.trace := rfl
@[simp] theorem setPort_reeves (d : Device) (p : Nat) (a : AlnPort) : (d.setPort p a).reeves = d.reeves := rfl
@[simp] theorem setPort_boxes (d : Device) (p : Nat) (a : AlnPort) : (d.setPort p a).boxes = d.boxes := rfl
@[simp] theorem setPort_hkdTurn (d : Device) (p : Nat) (a : AlnPort) : (d.setPort p a).hkdTurn = d.hkdTurn := rfl
@[simp] theorem setPort_snapT (d : Device) (p : Nat) (a : AlnPort) : (d.setPort p a).snapT = d.snapT := rfl
@[simp] theorem setPort_snapAt (d : Device) (p : Nat) (a : AlnPort) : (d.setPort p a).snapAt = d.snapAt := rfl
@[simp] theorem setPort_grants (d : Device) (p : Nat) (a : AlnPort) : (d.setPort p a).grants = d.grants := rfl
@[simp] theorem setPort_arbCfg (d : Device) (p : Nat) (a : AlnPort) : (d.setPort p a).arbCfg = d.arbCfg := rfl
@[simp] theorem setPort_power (d : Device) (p : Nat) (a : AlnPort) : (d.setPort p a).power = d.power := rfl
@[simp] theorem setPort_gate (d : Device) (p : Nat) (a : AlnPort) : (d.setPort p a).gate = d.gate := rfl
@[simp] theorem setPort_dbg (d : Device) (p : Nat) (a : AlnPort) : (d.setPort p a).dbg = d.dbg := rfl

@[simp] theorem setChan_mem (d : Device) (n : Nat) (c : Channel) : (d.setChan n c).mem = d.mem := rfl
@[simp] theorem setChan_poison (d : Device) (n : Nat) (c : Channel) : (d.setChan n c).poison = d.poison := rfl
@[simp] theorem setChan_latent (d : Device) (n : Nat) (c : Channel) : (d.setChan n c).latent = d.latent := rfl
@[simp] theorem setChan_corrected (d : Device) (n : Nat) (c : Channel) : (d.setChan n c).corrected = d.corrected := rfl
@[simp] theorem setChan_regs (d : Device) (n : Nat) (c : Channel) : (d.setChan n c).regs = d.regs := rfl
@[simp] theorem setChan_snaps (d : Device) (n : Nat) (c : Channel) : (d.setChan n c).snaps = d.snaps := rfl
@[simp] theorem setChan_latches (d : Device) (n : Nat) (c : Channel) : (d.setChan n c).latches = d.latches := rfl
@[simp] theorem setChan_free (d : Device) (n : Nat) (c : Channel) : (d.setChan n c).free = d.free := rfl
@[simp] theorem setChan_out (d : Device) (n : Nat) (c : Channel) : (d.setChan n c).out = d.out := rfl
@[simp] theorem setChan_elog (d : Device) (n : Nat) (c : Channel) : (d.setChan n c).elog = d.elog := rfl
@[simp] theorem setChan_bell (d : Device) (n : Nat) (c : Channel) : (d.setChan n c).bell = d.bell := rfl
@[simp] theorem setChan_hosts (d : Device) (n : Nat) (c : Channel) : (d.setChan n c).hosts = d.hosts := rfl
@[simp] theorem setChan_xlt (d : Device) (n : Nat) (c : Channel) : (d.setChan n c).xlt = d.xlt := rfl
@[simp] theorem setChan_crofts (d : Device) (n : Nat) (c : Channel) : (d.setChan n c).crofts = d.crofts := rfl
@[simp] theorem setChan_jobs (d : Device) (n : Nat) (c : Channel) : (d.setChan n c).jobs = d.jobs := rfl
@[simp] theorem setChan_sower (d : Device) (n : Nat) (c : Channel) : (d.setChan n c).sower = d.sower := rfl
@[simp] theorem setChan_ledger (d : Device) (n : Nat) (c : Channel) : (d.setChan n c).ledger = d.ledger := rfl
@[simp] theorem setChan_ring (d : Device) (n : Nat) (c : Channel) : (d.setChan n c).ring = d.ring := rfl
@[simp] theorem setChan_spare (d : Device) (n : Nat) (c : Channel) : (d.setChan n c).spare = d.spare := rfl
@[simp] theorem setChan_trace (d : Device) (n : Nat) (c : Channel) : (d.setChan n c).trace = d.trace := rfl
@[simp] theorem setChan_reeves (d : Device) (n : Nat) (c : Channel) : (d.setChan n c).reeves = d.reeves := rfl
@[simp] theorem setChan_boxes (d : Device) (n : Nat) (c : Channel) : (d.setChan n c).boxes = d.boxes := rfl
@[simp] theorem setChan_hkdTurn (d : Device) (n : Nat) (c : Channel) : (d.setChan n c).hkdTurn = d.hkdTurn := rfl
@[simp] theorem setChan_ports (d : Device) (n : Nat) (c : Channel) : (d.setChan n c).ports = d.ports := rfl
@[simp] theorem setChan_snapT (d : Device) (n : Nat) (c : Channel) : (d.setChan n c).snapT = d.snapT := rfl
@[simp] theorem setChan_snapAt (d : Device) (n : Nat) (c : Channel) : (d.setChan n c).snapAt = d.snapAt := rfl
@[simp] theorem setChan_grants (d : Device) (n : Nat) (c : Channel) : (d.setChan n c).grants = d.grants := rfl
@[simp] theorem setChan_arbCfg (d : Device) (n : Nat) (c : Channel) : (d.setChan n c).arbCfg = d.arbCfg := rfl
@[simp] theorem setChan_power (d : Device) (n : Nat) (c : Channel) : (d.setChan n c).power = d.power := rfl
@[simp] theorem setChan_gate (d : Device) (n : Nat) (c : Channel) : (d.setChan n c).gate = d.gate := rfl
@[simp] theorem setChan_dbg (d : Device) (n : Nat) (c : Channel) : (d.setChan n c).dbg = d.dbg := rfl

@[simp] theorem upChan_mem (d : Device) (n : Nat) (f : Channel → Channel) : (d.upChan n f).mem = d.mem := rfl
@[simp] theorem upChan_poison (d : Device) (n : Nat) (f : Channel → Channel) : (d.upChan n f).poison = d.poison := rfl
@[simp] theorem upChan_latent (d : Device) (n : Nat) (f : Channel → Channel) : (d.upChan n f).latent = d.latent := rfl
@[simp] theorem upChan_corrected (d : Device) (n : Nat) (f : Channel → Channel) : (d.upChan n f).corrected = d.corrected := rfl
@[simp] theorem upChan_regs (d : Device) (n : Nat) (f : Channel → Channel) : (d.upChan n f).regs = d.regs := rfl
@[simp] theorem upChan_snaps (d : Device) (n : Nat) (f : Channel → Channel) : (d.upChan n f).snaps = d.snaps := rfl
@[simp] theorem upChan_latches (d : Device) (n : Nat) (f : Channel → Channel) : (d.upChan n f).latches = d.latches := rfl
@[simp] theorem upChan_free (d : Device) (n : Nat) (f : Channel → Channel) : (d.upChan n f).free = d.free := rfl
@[simp] theorem upChan_out (d : Device) (n : Nat) (f : Channel → Channel) : (d.upChan n f).out = d.out := rfl
@[simp] theorem upChan_elog (d : Device) (n : Nat) (f : Channel → Channel) : (d.upChan n f).elog = d.elog := rfl
@[simp] theorem upChan_bell (d : Device) (n : Nat) (f : Channel → Channel) : (d.upChan n f).bell = d.bell := rfl
@[simp] theorem upChan_hosts (d : Device) (n : Nat) (f : Channel → Channel) : (d.upChan n f).hosts = d.hosts := rfl
@[simp] theorem upChan_xlt (d : Device) (n : Nat) (f : Channel → Channel) : (d.upChan n f).xlt = d.xlt := rfl
@[simp] theorem upChan_crofts (d : Device) (n : Nat) (f : Channel → Channel) : (d.upChan n f).crofts = d.crofts := rfl
@[simp] theorem upChan_jobs (d : Device) (n : Nat) (f : Channel → Channel) : (d.upChan n f).jobs = d.jobs := rfl
@[simp] theorem upChan_sower (d : Device) (n : Nat) (f : Channel → Channel) : (d.upChan n f).sower = d.sower := rfl
@[simp] theorem upChan_ledger (d : Device) (n : Nat) (f : Channel → Channel) : (d.upChan n f).ledger = d.ledger := rfl
@[simp] theorem upChan_ring (d : Device) (n : Nat) (f : Channel → Channel) : (d.upChan n f).ring = d.ring := rfl
@[simp] theorem upChan_spare (d : Device) (n : Nat) (f : Channel → Channel) : (d.upChan n f).spare = d.spare := rfl
@[simp] theorem upChan_trace (d : Device) (n : Nat) (f : Channel → Channel) : (d.upChan n f).trace = d.trace := rfl
@[simp] theorem upChan_reeves (d : Device) (n : Nat) (f : Channel → Channel) : (d.upChan n f).reeves = d.reeves := rfl
@[simp] theorem upChan_boxes (d : Device) (n : Nat) (f : Channel → Channel) : (d.upChan n f).boxes = d.boxes := rfl
@[simp] theorem upChan_hkdTurn (d : Device) (n : Nat) (f : Channel → Channel) : (d.upChan n f).hkdTurn = d.hkdTurn := rfl
@[simp] theorem upChan_ports (d : Device) (n : Nat) (f : Channel → Channel) : (d.upChan n f).ports = d.ports := rfl
@[simp] theorem upChan_snapT (d : Device) (n : Nat) (f : Channel → Channel) : (d.upChan n f).snapT = d.snapT := rfl
@[simp] theorem upChan_snapAt (d : Device) (n : Nat) (f : Channel → Channel) : (d.upChan n f).snapAt = d.snapAt := rfl
@[simp] theorem upChan_grants (d : Device) (n : Nat) (f : Channel → Channel) : (d.upChan n f).grants = d.grants := rfl
@[simp] theorem upChan_arbCfg (d : Device) (n : Nat) (f : Channel → Channel) : (d.upChan n f).arbCfg = d.arbCfg := rfl
@[simp] theorem upChan_power (d : Device) (n : Nat) (f : Channel → Channel) : (d.upChan n f).power = d.power := rfl
@[simp] theorem upChan_gate (d : Device) (n : Nat) (f : Channel → Channel) : (d.upChan n f).gate = d.gate := rfl
@[simp] theorem upChan_dbg (d : Device) (n : Nat) (f : Channel → Channel) : (d.upChan n f).dbg = d.dbg := rfl

@[simp] theorem setJob_mem (d : Device) (t : Nat) (j : Job) : (d.setJob t j).mem = d.mem := rfl
@[simp] theorem setJob_poison (d : Device) (t : Nat) (j : Job) : (d.setJob t j).poison = d.poison := rfl
@[simp] theorem setJob_latent (d : Device) (t : Nat) (j : Job) : (d.setJob t j).latent = d.latent := rfl
@[simp] theorem setJob_corrected (d : Device) (t : Nat) (j : Job) : (d.setJob t j).corrected = d.corrected := rfl
@[simp] theorem setJob_regs (d : Device) (t : Nat) (j : Job) : (d.setJob t j).regs = d.regs := rfl
@[simp] theorem setJob_snaps (d : Device) (t : Nat) (j : Job) : (d.setJob t j).snaps = d.snaps := rfl
@[simp] theorem setJob_latches (d : Device) (t : Nat) (j : Job) : (d.setJob t j).latches = d.latches := rfl
@[simp] theorem setJob_free (d : Device) (t : Nat) (j : Job) : (d.setJob t j).free = d.free := rfl
@[simp] theorem setJob_out (d : Device) (t : Nat) (j : Job) : (d.setJob t j).out = d.out := rfl
@[simp] theorem setJob_elog (d : Device) (t : Nat) (j : Job) : (d.setJob t j).elog = d.elog := rfl
@[simp] theorem setJob_bell (d : Device) (t : Nat) (j : Job) : (d.setJob t j).bell = d.bell := rfl
@[simp] theorem setJob_hosts (d : Device) (t : Nat) (j : Job) : (d.setJob t j).hosts = d.hosts := rfl
@[simp] theorem setJob_xlt (d : Device) (t : Nat) (j : Job) : (d.setJob t j).xlt = d.xlt := rfl
@[simp] theorem setJob_crofts (d : Device) (t : Nat) (j : Job) : (d.setJob t j).crofts = d.crofts := rfl
@[simp] theorem setJob_chans (d : Device) (t : Nat) (j : Job) : (d.setJob t j).chans = d.chans := rfl
@[simp] theorem setJob_sower (d : Device) (t : Nat) (j : Job) : (d.setJob t j).sower = d.sower := rfl
@[simp] theorem setJob_ledger (d : Device) (t : Nat) (j : Job) : (d.setJob t j).ledger = d.ledger := rfl
@[simp] theorem setJob_ring (d : Device) (t : Nat) (j : Job) : (d.setJob t j).ring = d.ring := rfl
@[simp] theorem setJob_spare (d : Device) (t : Nat) (j : Job) : (d.setJob t j).spare = d.spare := rfl
@[simp] theorem setJob_trace (d : Device) (t : Nat) (j : Job) : (d.setJob t j).trace = d.trace := rfl
@[simp] theorem setJob_reeves (d : Device) (t : Nat) (j : Job) : (d.setJob t j).reeves = d.reeves := rfl
@[simp] theorem setJob_boxes (d : Device) (t : Nat) (j : Job) : (d.setJob t j).boxes = d.boxes := rfl
@[simp] theorem setJob_hkdTurn (d : Device) (t : Nat) (j : Job) : (d.setJob t j).hkdTurn = d.hkdTurn := rfl
@[simp] theorem setJob_ports (d : Device) (t : Nat) (j : Job) : (d.setJob t j).ports = d.ports := rfl
@[simp] theorem setJob_snapT (d : Device) (t : Nat) (j : Job) : (d.setJob t j).snapT = d.snapT := rfl
@[simp] theorem setJob_snapAt (d : Device) (t : Nat) (j : Job) : (d.setJob t j).snapAt = d.snapAt := rfl
@[simp] theorem setJob_grants (d : Device) (t : Nat) (j : Job) : (d.setJob t j).grants = d.grants := rfl
@[simp] theorem setJob_arbCfg (d : Device) (t : Nat) (j : Job) : (d.setJob t j).arbCfg = d.arbCfg := rfl
@[simp] theorem setJob_power (d : Device) (t : Nat) (j : Job) : (d.setJob t j).power = d.power := rfl
@[simp] theorem setJob_gate (d : Device) (t : Nat) (j : Job) : (d.setJob t j).gate = d.gate := rfl
@[simp] theorem setJob_dbg (d : Device) (t : Nat) (j : Job) : (d.setJob t j).dbg = d.dbg := rfl

@[simp] theorem setReeve_mem (d : Device) (n : Nat) (r : Reeve) : (d.setReeve n r).mem = d.mem := rfl
@[simp] theorem setReeve_poison (d : Device) (n : Nat) (r : Reeve) : (d.setReeve n r).poison = d.poison := rfl
@[simp] theorem setReeve_latent (d : Device) (n : Nat) (r : Reeve) : (d.setReeve n r).latent = d.latent := rfl
@[simp] theorem setReeve_corrected (d : Device) (n : Nat) (r : Reeve) : (d.setReeve n r).corrected = d.corrected := rfl
@[simp] theorem setReeve_regs (d : Device) (n : Nat) (r : Reeve) : (d.setReeve n r).regs = d.regs := rfl
@[simp] theorem setReeve_snaps (d : Device) (n : Nat) (r : Reeve) : (d.setReeve n r).snaps = d.snaps := rfl
@[simp] theorem setReeve_latches (d : Device) (n : Nat) (r : Reeve) : (d.setReeve n r).latches = d.latches := rfl
@[simp] theorem setReeve_free (d : Device) (n : Nat) (r : Reeve) : (d.setReeve n r).free = d.free := rfl
@[simp] theorem setReeve_out (d : Device) (n : Nat) (r : Reeve) : (d.setReeve n r).out = d.out := rfl
@[simp] theorem setReeve_elog (d : Device) (n : Nat) (r : Reeve) : (d.setReeve n r).elog = d.elog := rfl
@[simp] theorem setReeve_bell (d : Device) (n : Nat) (r : Reeve) : (d.setReeve n r).bell = d.bell := rfl
@[simp] theorem setReeve_hosts (d : Device) (n : Nat) (r : Reeve) : (d.setReeve n r).hosts = d.hosts := rfl
@[simp] theorem setReeve_xlt (d : Device) (n : Nat) (r : Reeve) : (d.setReeve n r).xlt = d.xlt := rfl
@[simp] theorem setReeve_crofts (d : Device) (n : Nat) (r : Reeve) : (d.setReeve n r).crofts = d.crofts := rfl
@[simp] theorem setReeve_chans (d : Device) (n : Nat) (r : Reeve) : (d.setReeve n r).chans = d.chans := rfl
@[simp] theorem setReeve_jobs (d : Device) (n : Nat) (r : Reeve) : (d.setReeve n r).jobs = d.jobs := rfl
@[simp] theorem setReeve_sower (d : Device) (n : Nat) (r : Reeve) : (d.setReeve n r).sower = d.sower := rfl
@[simp] theorem setReeve_ledger (d : Device) (n : Nat) (r : Reeve) : (d.setReeve n r).ledger = d.ledger := rfl
@[simp] theorem setReeve_ring (d : Device) (n : Nat) (r : Reeve) : (d.setReeve n r).ring = d.ring := rfl
@[simp] theorem setReeve_spare (d : Device) (n : Nat) (r : Reeve) : (d.setReeve n r).spare = d.spare := rfl
@[simp] theorem setReeve_trace (d : Device) (n : Nat) (r : Reeve) : (d.setReeve n r).trace = d.trace := rfl
@[simp] theorem setReeve_boxes (d : Device) (n : Nat) (r : Reeve) : (d.setReeve n r).boxes = d.boxes := rfl
@[simp] theorem setReeve_hkdTurn (d : Device) (n : Nat) (r : Reeve) : (d.setReeve n r).hkdTurn = d.hkdTurn := rfl
@[simp] theorem setReeve_ports (d : Device) (n : Nat) (r : Reeve) : (d.setReeve n r).ports = d.ports := rfl
@[simp] theorem setReeve_snapT (d : Device) (n : Nat) (r : Reeve) : (d.setReeve n r).snapT = d.snapT := rfl
@[simp] theorem setReeve_snapAt (d : Device) (n : Nat) (r : Reeve) : (d.setReeve n r).snapAt = d.snapAt := rfl
@[simp] theorem setReeve_grants (d : Device) (n : Nat) (r : Reeve) : (d.setReeve n r).grants = d.grants := rfl
@[simp] theorem setReeve_arbCfg (d : Device) (n : Nat) (r : Reeve) : (d.setReeve n r).arbCfg = d.arbCfg := rfl
@[simp] theorem setReeve_power (d : Device) (n : Nat) (r : Reeve) : (d.setReeve n r).power = d.power := rfl
@[simp] theorem setReeve_gate (d : Device) (n : Nat) (r : Reeve) : (d.setReeve n r).gate = d.gate := rfl
@[simp] theorem setReeve_dbg (d : Device) (n : Nat) (r : Reeve) : (d.setReeve n r).dbg = d.dbg := rfl

@[simp] theorem upReeve_mem (d : Device) (n : Nat) (f : Reeve → Reeve) : (d.upReeve n f).mem = d.mem := rfl
@[simp] theorem upReeve_poison (d : Device) (n : Nat) (f : Reeve → Reeve) : (d.upReeve n f).poison = d.poison := rfl
@[simp] theorem upReeve_latent (d : Device) (n : Nat) (f : Reeve → Reeve) : (d.upReeve n f).latent = d.latent := rfl
@[simp] theorem upReeve_corrected (d : Device) (n : Nat) (f : Reeve → Reeve) : (d.upReeve n f).corrected = d.corrected := rfl
@[simp] theorem upReeve_regs (d : Device) (n : Nat) (f : Reeve → Reeve) : (d.upReeve n f).regs = d.regs := rfl
@[simp] theorem upReeve_snaps (d : Device) (n : Nat) (f : Reeve → Reeve) : (d.upReeve n f).snaps = d.snaps := rfl
@[simp] theorem upReeve_latches (d : Device) (n : Nat) (f : Reeve → Reeve) : (d.upReeve n f).latches = d.latches := rfl
@[simp] theorem upReeve_free (d : Device) (n : Nat) (f : Reeve → Reeve) : (d.upReeve n f).free = d.free := rfl
@[simp] theorem upReeve_out (d : Device) (n : Nat) (f : Reeve → Reeve) : (d.upReeve n f).out = d.out := rfl
@[simp] theorem upReeve_elog (d : Device) (n : Nat) (f : Reeve → Reeve) : (d.upReeve n f).elog = d.elog := rfl
@[simp] theorem upReeve_bell (d : Device) (n : Nat) (f : Reeve → Reeve) : (d.upReeve n f).bell = d.bell := rfl
@[simp] theorem upReeve_hosts (d : Device) (n : Nat) (f : Reeve → Reeve) : (d.upReeve n f).hosts = d.hosts := rfl
@[simp] theorem upReeve_xlt (d : Device) (n : Nat) (f : Reeve → Reeve) : (d.upReeve n f).xlt = d.xlt := rfl
@[simp] theorem upReeve_crofts (d : Device) (n : Nat) (f : Reeve → Reeve) : (d.upReeve n f).crofts = d.crofts := rfl
@[simp] theorem upReeve_chans (d : Device) (n : Nat) (f : Reeve → Reeve) : (d.upReeve n f).chans = d.chans := rfl
@[simp] theorem upReeve_jobs (d : Device) (n : Nat) (f : Reeve → Reeve) : (d.upReeve n f).jobs = d.jobs := rfl
@[simp] theorem upReeve_sower (d : Device) (n : Nat) (f : Reeve → Reeve) : (d.upReeve n f).sower = d.sower := rfl
@[simp] theorem upReeve_ledger (d : Device) (n : Nat) (f : Reeve → Reeve) : (d.upReeve n f).ledger = d.ledger := rfl
@[simp] theorem upReeve_ring (d : Device) (n : Nat) (f : Reeve → Reeve) : (d.upReeve n f).ring = d.ring := rfl
@[simp] theorem upReeve_spare (d : Device) (n : Nat) (f : Reeve → Reeve) : (d.upReeve n f).spare = d.spare := rfl
@[simp] theorem upReeve_trace (d : Device) (n : Nat) (f : Reeve → Reeve) : (d.upReeve n f).trace = d.trace := rfl
@[simp] theorem upReeve_boxes (d : Device) (n : Nat) (f : Reeve → Reeve) : (d.upReeve n f).boxes = d.boxes := rfl
@[simp] theorem upReeve_hkdTurn (d : Device) (n : Nat) (f : Reeve → Reeve) : (d.upReeve n f).hkdTurn = d.hkdTurn := rfl
@[simp] theorem upReeve_ports (d : Device) (n : Nat) (f : Reeve → Reeve) : (d.upReeve n f).ports = d.ports := rfl
@[simp] theorem upReeve_snapT (d : Device) (n : Nat) (f : Reeve → Reeve) : (d.upReeve n f).snapT = d.snapT := rfl
@[simp] theorem upReeve_snapAt (d : Device) (n : Nat) (f : Reeve → Reeve) : (d.upReeve n f).snapAt = d.snapAt := rfl
@[simp] theorem upReeve_grants (d : Device) (n : Nat) (f : Reeve → Reeve) : (d.upReeve n f).grants = d.grants := rfl
@[simp] theorem upReeve_arbCfg (d : Device) (n : Nat) (f : Reeve → Reeve) : (d.upReeve n f).arbCfg = d.arbCfg := rfl
@[simp] theorem upReeve_power (d : Device) (n : Nat) (f : Reeve → Reeve) : (d.upReeve n f).power = d.power := rfl
@[simp] theorem upReeve_gate (d : Device) (n : Nat) (f : Reeve → Reeve) : (d.upReeve n f).gate = d.gate := rfl
@[simp] theorem upReeve_dbg (d : Device) (n : Nat) (f : Reeve → Reeve) : (d.upReeve n f).dbg = d.dbg := rfl

@[simp] theorem setBox_mem (d : Device) (n : Nat) (b : Mailbox) : (d.setBox n b).mem = d.mem := rfl
@[simp] theorem setBox_poison (d : Device) (n : Nat) (b : Mailbox) : (d.setBox n b).poison = d.poison := rfl
@[simp] theorem setBox_latent (d : Device) (n : Nat) (b : Mailbox) : (d.setBox n b).latent = d.latent := rfl
@[simp] theorem setBox_corrected (d : Device) (n : Nat) (b : Mailbox) : (d.setBox n b).corrected = d.corrected := rfl
@[simp] theorem setBox_regs (d : Device) (n : Nat) (b : Mailbox) : (d.setBox n b).regs = d.regs := rfl
@[simp] theorem setBox_snaps (d : Device) (n : Nat) (b : Mailbox) : (d.setBox n b).snaps = d.snaps := rfl
@[simp] theorem setBox_latches (d : Device) (n : Nat) (b : Mailbox) : (d.setBox n b).latches = d.latches := rfl
@[simp] theorem setBox_free (d : Device) (n : Nat) (b : Mailbox) : (d.setBox n b).free = d.free := rfl
@[simp] theorem setBox_out (d : Device) (n : Nat) (b : Mailbox) : (d.setBox n b).out = d.out := rfl
@[simp] theorem setBox_elog (d : Device) (n : Nat) (b : Mailbox) : (d.setBox n b).elog = d.elog := rfl
@[simp] theorem setBox_bell (d : Device) (n : Nat) (b : Mailbox) : (d.setBox n b).bell = d.bell := rfl
@[simp] theorem setBox_hosts (d : Device) (n : Nat) (b : Mailbox) : (d.setBox n b).hosts = d.hosts := rfl
@[simp] theorem setBox_xlt (d : Device) (n : Nat) (b : Mailbox) : (d.setBox n b).xlt = d.xlt := rfl
@[simp] theorem setBox_crofts (d : Device) (n : Nat) (b : Mailbox) : (d.setBox n b).crofts = d.crofts := rfl
@[simp] theorem setBox_chans (d : Device) (n : Nat) (b : Mailbox) : (d.setBox n b).chans = d.chans := rfl
@[simp] theorem setBox_jobs (d : Device) (n : Nat) (b : Mailbox) : (d.setBox n b).jobs = d.jobs := rfl
@[simp] theorem setBox_sower (d : Device) (n : Nat) (b : Mailbox) : (d.setBox n b).sower = d.sower := rfl
@[simp] theorem setBox_ledger (d : Device) (n : Nat) (b : Mailbox) : (d.setBox n b).ledger = d.ledger := rfl
@[simp] theorem setBox_ring (d : Device) (n : Nat) (b : Mailbox) : (d.setBox n b).ring = d.ring := rfl
@[simp] theorem setBox_spare (d : Device) (n : Nat) (b : Mailbox) : (d.setBox n b).spare = d.spare := rfl
@[simp] theorem setBox_trace (d : Device) (n : Nat) (b : Mailbox) : (d.setBox n b).trace = d.trace := rfl
@[simp] theorem setBox_reeves (d : Device) (n : Nat) (b : Mailbox) : (d.setBox n b).reeves = d.reeves := rfl
@[simp] theorem setBox_hkdTurn (d : Device) (n : Nat) (b : Mailbox) : (d.setBox n b).hkdTurn = d.hkdTurn := rfl
@[simp] theorem setBox_ports (d : Device) (n : Nat) (b : Mailbox) : (d.setBox n b).ports = d.ports := rfl
@[simp] theorem setBox_snapT (d : Device) (n : Nat) (b : Mailbox) : (d.setBox n b).snapT = d.snapT := rfl
@[simp] theorem setBox_snapAt (d : Device) (n : Nat) (b : Mailbox) : (d.setBox n b).snapAt = d.snapAt := rfl
@[simp] theorem setBox_grants (d : Device) (n : Nat) (b : Mailbox) : (d.setBox n b).grants = d.grants := rfl
@[simp] theorem setBox_arbCfg (d : Device) (n : Nat) (b : Mailbox) : (d.setBox n b).arbCfg = d.arbCfg := rfl
@[simp] theorem setBox_power (d : Device) (n : Nat) (b : Mailbox) : (d.setBox n b).power = d.power := rfl
@[simp] theorem setBox_gate (d : Device) (n : Nat) (b : Mailbox) : (d.setBox n b).gate = d.gate := rfl
@[simp] theorem setBox_dbg (d : Device) (n : Nat) (b : Mailbox) : (d.setBox n b).dbg = d.dbg := rfl

@[simp] theorem setCroft_mem (d : Device) (n : Nat) (c : Croft) : (d.setCroft n c).mem = d.mem := rfl
@[simp] theorem setCroft_poison (d : Device) (n : Nat) (c : Croft) : (d.setCroft n c).poison = d.poison := rfl
@[simp] theorem setCroft_latent (d : Device) (n : Nat) (c : Croft) : (d.setCroft n c).latent = d.latent := rfl
@[simp] theorem setCroft_corrected (d : Device) (n : Nat) (c : Croft) : (d.setCroft n c).corrected = d.corrected := rfl
@[simp] theorem setCroft_regs (d : Device) (n : Nat) (c : Croft) : (d.setCroft n c).regs = d.regs := rfl
@[simp] theorem setCroft_snaps (d : Device) (n : Nat) (c : Croft) : (d.setCroft n c).snaps = d.snaps := rfl
@[simp] theorem setCroft_latches (d : Device) (n : Nat) (c : Croft) : (d.setCroft n c).latches = d.latches := rfl
@[simp] theorem setCroft_free (d : Device) (n : Nat) (c : Croft) : (d.setCroft n c).free = d.free := rfl
@[simp] theorem setCroft_out (d : Device) (n : Nat) (c : Croft) : (d.setCroft n c).out = d.out := rfl
@[simp] theorem setCroft_elog (d : Device) (n : Nat) (c : Croft) : (d.setCroft n c).elog = d.elog := rfl
@[simp] theorem setCroft_bell (d : Device) (n : Nat) (c : Croft) : (d.setCroft n c).bell = d.bell := rfl
@[simp] theorem setCroft_hosts (d : Device) (n : Nat) (c : Croft) : (d.setCroft n c).hosts = d.hosts := rfl
@[simp] theorem setCroft_xlt (d : Device) (n : Nat) (c : Croft) : (d.setCroft n c).xlt = d.xlt := rfl
@[simp] theorem setCroft_chans (d : Device) (n : Nat) (c : Croft) : (d.setCroft n c).chans = d.chans := rfl
@[simp] theorem setCroft_jobs (d : Device) (n : Nat) (c : Croft) : (d.setCroft n c).jobs = d.jobs := rfl
@[simp] theorem setCroft_sower (d : Device) (n : Nat) (c : Croft) : (d.setCroft n c).sower = d.sower := rfl
@[simp] theorem setCroft_ledger (d : Device) (n : Nat) (c : Croft) : (d.setCroft n c).ledger = d.ledger := rfl
@[simp] theorem setCroft_ring (d : Device) (n : Nat) (c : Croft) : (d.setCroft n c).ring = d.ring := rfl
@[simp] theorem setCroft_spare (d : Device) (n : Nat) (c : Croft) : (d.setCroft n c).spare = d.spare := rfl
@[simp] theorem setCroft_trace (d : Device) (n : Nat) (c : Croft) : (d.setCroft n c).trace = d.trace := rfl
@[simp] theorem setCroft_reeves (d : Device) (n : Nat) (c : Croft) : (d.setCroft n c).reeves = d.reeves := rfl
@[simp] theorem setCroft_boxes (d : Device) (n : Nat) (c : Croft) : (d.setCroft n c).boxes = d.boxes := rfl
@[simp] theorem setCroft_hkdTurn (d : Device) (n : Nat) (c : Croft) : (d.setCroft n c).hkdTurn = d.hkdTurn := rfl
@[simp] theorem setCroft_ports (d : Device) (n : Nat) (c : Croft) : (d.setCroft n c).ports = d.ports := rfl
@[simp] theorem setCroft_snapT (d : Device) (n : Nat) (c : Croft) : (d.setCroft n c).snapT = d.snapT := rfl
@[simp] theorem setCroft_snapAt (d : Device) (n : Nat) (c : Croft) : (d.setCroft n c).snapAt = d.snapAt := rfl
@[simp] theorem setCroft_grants (d : Device) (n : Nat) (c : Croft) : (d.setCroft n c).grants = d.grants := rfl
@[simp] theorem setCroft_arbCfg (d : Device) (n : Nat) (c : Croft) : (d.setCroft n c).arbCfg = d.arbCfg := rfl
@[simp] theorem setCroft_power (d : Device) (n : Nat) (c : Croft) : (d.setCroft n c).power = d.power := rfl
@[simp] theorem setCroft_gate (d : Device) (n : Nat) (c : Croft) : (d.setCroft n c).gate = d.gate := rfl
@[simp] theorem setCroft_dbg (d : Device) (n : Nat) (c : Croft) : (d.setCroft n c).dbg = d.dbg := rfl

@[simp] theorem upCroft_mem (d : Device) (n : Nat) (f : Croft → Croft) : (d.upCroft n f).mem = d.mem := rfl
@[simp] theorem upCroft_poison (d : Device) (n : Nat) (f : Croft → Croft) : (d.upCroft n f).poison = d.poison := rfl
@[simp] theorem upCroft_latent (d : Device) (n : Nat) (f : Croft → Croft) : (d.upCroft n f).latent = d.latent := rfl
@[simp] theorem upCroft_corrected (d : Device) (n : Nat) (f : Croft → Croft) : (d.upCroft n f).corrected = d.corrected := rfl
@[simp] theorem upCroft_regs (d : Device) (n : Nat) (f : Croft → Croft) : (d.upCroft n f).regs = d.regs := rfl
@[simp] theorem upCroft_snaps (d : Device) (n : Nat) (f : Croft → Croft) : (d.upCroft n f).snaps = d.snaps := rfl
@[simp] theorem upCroft_latches (d : Device) (n : Nat) (f : Croft → Croft) : (d.upCroft n f).latches = d.latches := rfl
@[simp] theorem upCroft_free (d : Device) (n : Nat) (f : Croft → Croft) : (d.upCroft n f).free = d.free := rfl
@[simp] theorem upCroft_out (d : Device) (n : Nat) (f : Croft → Croft) : (d.upCroft n f).out = d.out := rfl
@[simp] theorem upCroft_elog (d : Device) (n : Nat) (f : Croft → Croft) : (d.upCroft n f).elog = d.elog := rfl
@[simp] theorem upCroft_bell (d : Device) (n : Nat) (f : Croft → Croft) : (d.upCroft n f).bell = d.bell := rfl
@[simp] theorem upCroft_hosts (d : Device) (n : Nat) (f : Croft → Croft) : (d.upCroft n f).hosts = d.hosts := rfl
@[simp] theorem upCroft_xlt (d : Device) (n : Nat) (f : Croft → Croft) : (d.upCroft n f).xlt = d.xlt := rfl
@[simp] theorem upCroft_chans (d : Device) (n : Nat) (f : Croft → Croft) : (d.upCroft n f).chans = d.chans := rfl
@[simp] theorem upCroft_jobs (d : Device) (n : Nat) (f : Croft → Croft) : (d.upCroft n f).jobs = d.jobs := rfl
@[simp] theorem upCroft_sower (d : Device) (n : Nat) (f : Croft → Croft) : (d.upCroft n f).sower = d.sower := rfl
@[simp] theorem upCroft_ledger (d : Device) (n : Nat) (f : Croft → Croft) : (d.upCroft n f).ledger = d.ledger := rfl
@[simp] theorem upCroft_ring (d : Device) (n : Nat) (f : Croft → Croft) : (d.upCroft n f).ring = d.ring := rfl
@[simp] theorem upCroft_spare (d : Device) (n : Nat) (f : Croft → Croft) : (d.upCroft n f).spare = d.spare := rfl
@[simp] theorem upCroft_trace (d : Device) (n : Nat) (f : Croft → Croft) : (d.upCroft n f).trace = d.trace := rfl
@[simp] theorem upCroft_reeves (d : Device) (n : Nat) (f : Croft → Croft) : (d.upCroft n f).reeves = d.reeves := rfl
@[simp] theorem upCroft_boxes (d : Device) (n : Nat) (f : Croft → Croft) : (d.upCroft n f).boxes = d.boxes := rfl
@[simp] theorem upCroft_hkdTurn (d : Device) (n : Nat) (f : Croft → Croft) : (d.upCroft n f).hkdTurn = d.hkdTurn := rfl
@[simp] theorem upCroft_ports (d : Device) (n : Nat) (f : Croft → Croft) : (d.upCroft n f).ports = d.ports := rfl
@[simp] theorem upCroft_snapT (d : Device) (n : Nat) (f : Croft → Croft) : (d.upCroft n f).snapT = d.snapT := rfl
@[simp] theorem upCroft_snapAt (d : Device) (n : Nat) (f : Croft → Croft) : (d.upCroft n f).snapAt = d.snapAt := rfl
@[simp] theorem upCroft_grants (d : Device) (n : Nat) (f : Croft → Croft) : (d.upCroft n f).grants = d.grants := rfl
@[simp] theorem upCroft_arbCfg (d : Device) (n : Nat) (f : Croft → Croft) : (d.upCroft n f).arbCfg = d.arbCfg := rfl
@[simp] theorem upCroft_power (d : Device) (n : Nat) (f : Croft → Croft) : (d.upCroft n f).power = d.power := rfl
@[simp] theorem upCroft_gate (d : Device) (n : Nat) (f : Croft → Croft) : (d.upCroft n f).gate = d.gate := rfl
@[simp] theorem upCroft_dbg (d : Device) (n : Nat) (f : Croft → Croft) : (d.upCroft n f).dbg = d.dbg := rfl

theorem host_setHost (d : Device) (p q : Nat) (h : HostPort) : (d.setHost p h).host q = if p = q then h else d.host q := by
  simp only [host, setHost, Map.get_set]
@[simp] theorem host_setHost_same (d : Device) (p : Nat) (h : HostPort) : (d.setHost p h).host p = h := by simp [host_setHost]
theorem host_setHost_ne (d : Device) (p q : Nat) (h : HostPort) (e : p ≠ q) : (d.setHost p h).host q = d.host q := by simp [host_setHost, e]
theorem port_setPort (d : Device) (p q : Nat) (h : AlnPort) : (d.setPort p h).port q = if p = q then h else d.port q := by
  simp only [port, setPort, Map.get_set]
@[simp] theorem port_setPort_same (d : Device) (p : Nat) (h : AlnPort) : (d.setPort p h).port p = h := by simp [port_setPort]
theorem port_setPort_ne (d : Device) (p q : Nat) (h : AlnPort) (e : p ≠ q) : (d.setPort p h).port q = d.port q := by simp [port_setPort, e]
theorem chan_setChan (d : Device) (p q : Nat) (h : Channel) : (d.setChan p h).chan q = if p = q then h else d.chan q := by
  simp only [chan, setChan, Map.get_set]
@[simp] theorem chan_setChan_same (d : Device) (p : Nat) (h : Channel) : (d.setChan p h).chan p = h := by simp [chan_setChan]
theorem chan_setChan_ne (d : Device) (p q : Nat) (h : Channel) (e : p ≠ q) : (d.setChan p h).chan q = d.chan q := by simp [chan_setChan, e]
@[simp] theorem chan_upChan_same (d : Device) (p : Nat) (f : Channel → Channel) : (d.upChan p f).chan p = f (d.chan p) := by simp [upChan]
theorem chan_upChan_ne (d : Device) (p q : Nat) (f : Channel → Channel) (e : p ≠ q) : (d.upChan p f).chan q = d.chan q := by simp [upChan, chan_setChan, e]
theorem reeve_setReeve (d : Device) (p q : Nat) (h : Reeve) : (d.setReeve p h).reeve q = if p = q then h else d.reeve q := by
  simp only [reeve, setReeve, Map.get, Map.find?_set]; split <;> simp_all
@[simp] theorem reeve_setReeve_same (d : Device) (p : Nat) (h : Reeve) : (d.setReeve p h).reeve p = h := by simp [reeve_setReeve]
theorem reeve_setReeve_ne (d : Device) (p q : Nat) (h : Reeve) (e : p ≠ q) : (d.setReeve p h).reeve q = d.reeve q := by simp [reeve_setReeve, e]
@[simp] theorem reeve_upReeve_same (d : Device) (p : Nat) (f : Reeve → Reeve) : (d.upReeve p f).reeve p = f (d.reeve p) := by simp [upReeve]
theorem reeve_upReeve_ne (d : Device) (p q : Nat) (f : Reeve → Reeve) (e : p ≠ q) : (d.upReeve p f).reeve q = d.reeve q := by simp [upReeve, reeve_setReeve, e]
theorem box_setBox (d : Device) (p q : Nat) (h : Mailbox) : (d.setBox p h).box q = if p = q then h else d.box q := by
  simp only [box, setBox, Map.get_set]
@[simp] theorem box_setBox_same (d : Device) (p : Nat) (h : Mailbox) : (d.setBox p h).box p = h := by simp [box_setBox]
theorem box_setBox_ne (d : Device) (p q : Nat) (h : Mailbox) (e : p ≠ q) : (d.setBox p h).box q = d.box q := by simp [box_setBox, e]
theorem croft_setCroft (d : Device) (p q : Nat) (h : Croft) : (d.setCroft p h).croft q = if p = q then h else d.croft q := by
  simp only [croft, setCroft, Map.get_set]
@[simp] theorem croft_setCroft_same (d : Device) (p : Nat) (h : Croft) : (d.setCroft p h).croft p = h := by simp [croft_setCroft]
theorem croft_setCroft_ne (d : Device) (p q : Nat) (h : Croft) (e : p ≠ q) : (d.setCroft p h).croft q = d.croft q := by simp [croft_setCroft, e]
@[simp] theorem croft_upCroft_same (d : Device) (p : Nat) (f : Croft → Croft) : (d.upCroft p f).croft p = f (d.croft p) := by simp [upCroft]
theorem croft_upCroft_ne (d : Device) (p q : Nat) (f : Croft → Croft) (e : p ≠ q) : (d.upCroft p f).croft q = d.croft q := by simp [upCroft, croft_setCroft, e]
theorem job?_setJob (d : Device) (t u : Nat) (j : Job) : (d.setJob t j).job? u = if t = u then some j else d.job? u := by
  simp only [job?, setJob, Map.find?_set]
@[simp] theorem job?_setJob_same (d : Device) (t : Nat) (j : Job) : (d.setJob t j).job? t = some j := by simp [job?_setJob]
theorem job?_upJob (d : Device) (t : Nat) (f : Job → Job) : (d.upJob t f).job? t = (d.job? t).map f := by
  simp only [upJob]; cases h : d.job? t <;> simp [h]

@[simp] theorem upJob_mem (d : Device) (t : Nat) (f : Job → Job) : (d.upJob t f).mem = d.mem := by
  simp only [upJob]; split <;> rfl
@[simp] theorem upJob_poison (d : Device) (t : Nat) (f : Job → Job) : (d.upJob t f).poison = d.poison := by
  simp only [upJob]; split <;> rfl
@[simp] theorem upJob_latent (d : Device) (t : Nat) (f : Job → Job) : (d.upJob t f).latent = d.latent := by
  simp only [upJob]; split <;> rfl
@[simp] theorem upJob_corrected (d : Device) (t : Nat) (f : Job → Job) : (d.upJob t f).corrected = d.corrected := by
  simp only [upJob]; split <;> rfl
@[simp] theorem upJob_regs (d : Device) (t : Nat) (f : Job → Job) : (d.upJob t f).regs = d.regs := by
  simp only [upJob]; split <;> rfl
@[simp] theorem upJob_snaps (d : Device) (t : Nat) (f : Job → Job) : (d.upJob t f).snaps = d.snaps := by
  simp only [upJob]; split <;> rfl
@[simp] theorem upJob_latches (d : Device) (t : Nat) (f : Job → Job) : (d.upJob t f).latches = d.latches := by
  simp only [upJob]; split <;> rfl
@[simp] theorem upJob_free (d : Device) (t : Nat) (f : Job → Job) : (d.upJob t f).free = d.free := by
  simp only [upJob]; split <;> rfl
@[simp] theorem upJob_out (d : Device) (t : Nat) (f : Job → Job) : (d.upJob t f).out = d.out := by
  simp only [upJob]; split <;> rfl
@[simp] theorem upJob_elog (d : Device) (t : Nat) (f : Job → Job) : (d.upJob t f).elog = d.elog := by
  simp only [upJob]; split <;> rfl
@[simp] theorem upJob_bell (d : Device) (t : Nat) (f : Job → Job) : (d.upJob t f).bell = d.bell := by
  simp only [upJob]; split <;> rfl
@[simp] theorem upJob_hosts (d : Device) (t : Nat) (f : Job → Job) : (d.upJob t f).hosts = d.hosts := by
  simp only [upJob]; split <;> rfl
@[simp] theorem upJob_xlt (d : Device) (t : Nat) (f : Job → Job) : (d.upJob t f).xlt = d.xlt := by
  simp only [upJob]; split <;> rfl
@[simp] theorem upJob_crofts (d : Device) (t : Nat) (f : Job → Job) : (d.upJob t f).crofts = d.crofts := by
  simp only [upJob]; split <;> rfl
@[simp] theorem upJob_chans (d : Device) (t : Nat) (f : Job → Job) : (d.upJob t f).chans = d.chans := by
  simp only [upJob]; split <;> rfl
@[simp] theorem upJob_sower (d : Device) (t : Nat) (f : Job → Job) : (d.upJob t f).sower = d.sower := by
  simp only [upJob]; split <;> rfl
@[simp] theorem upJob_ledger (d : Device) (t : Nat) (f : Job → Job) : (d.upJob t f).ledger = d.ledger := by
  simp only [upJob]; split <;> rfl
@[simp] theorem upJob_ring (d : Device) (t : Nat) (f : Job → Job) : (d.upJob t f).ring = d.ring := by
  simp only [upJob]; split <;> rfl
@[simp] theorem upJob_spare (d : Device) (t : Nat) (f : Job → Job) : (d.upJob t f).spare = d.spare := by
  simp only [upJob]; split <;> rfl
@[simp] theorem upJob_trace (d : Device) (t : Nat) (f : Job → Job) : (d.upJob t f).trace = d.trace := by
  simp only [upJob]; split <;> rfl
@[simp] theorem upJob_reeves (d : Device) (t : Nat) (f : Job → Job) : (d.upJob t f).reeves = d.reeves := by
  simp only [upJob]; split <;> rfl
@[simp] theorem upJob_boxes (d : Device) (t : Nat) (f : Job → Job) : (d.upJob t f).boxes = d.boxes := by
  simp only [upJob]; split <;> rfl
@[simp] theorem upJob_hkdTurn (d : Device) (t : Nat) (f : Job → Job) : (d.upJob t f).hkdTurn = d.hkdTurn := by
  simp only [upJob]; split <;> rfl
@[simp] theorem upJob_ports (d : Device) (t : Nat) (f : Job → Job) : (d.upJob t f).ports = d.ports := by
  simp only [upJob]; split <;> rfl
@[simp] theorem upJob_snapT (d : Device) (t : Nat) (f : Job → Job) : (d.upJob t f).snapT = d.snapT := by
  simp only [upJob]; split <;> rfl
@[simp] theorem upJob_snapAt (d : Device) (t : Nat) (f : Job → Job) : (d.upJob t f).snapAt = d.snapAt := by
  simp only [upJob]; split <;> rfl
@[simp] theorem upJob_grants (d : Device) (t : Nat) (f : Job → Job) : (d.upJob t f).grants = d.grants := by
  simp only [upJob]; split <;> rfl
@[simp] theorem upJob_arbCfg (d : Device) (t : Nat) (f : Job → Job) : (d.upJob t f).arbCfg = d.arbCfg := by
  simp only [upJob]; split <;> rfl
@[simp] theorem upJob_power (d : Device) (t : Nat) (f : Job → Job) : (d.upJob t f).power = d.power := by
  simp only [upJob]; split <;> rfl
@[simp] theorem upJob_gate (d : Device) (t : Nat) (f : Job → Job) : (d.upJob t f).gate = d.gate := by
  simp only [upJob]; split <;> rfl
@[simp] theorem upJob_dbg (d : Device) (t : Nat) (f : Job → Job) : (d.upJob t f).dbg = d.dbg := by
  simp only [upJob]; split <;> rfl

end Sys2Proof.Machine.Device
end

