-- ==== Sys2Proof/Laws/Registers.lean ====
section
/-! SUPPORT. Bit fields and registers: what a read finds after an update, and what counters, events, errors and log entries leave alone. -/
namespace Sys2Proof.Machine

/-! ## Fields -/

theorem field_eq (v lo len : Nat) : field v lo len = v / 2 ^ lo % 2 ^ len := by simp [field, Nat.shiftRight_eq_div_pow]

theorem field_lt (v lo len : Nat) : field v lo len < 2 ^ len := Nat.mod_lt _ (Nat.two_pow_pos len)

/-- The three parts of a number about a field. -/
theorem split_field (v lo len : Nat) : v = v / 2 ^ (lo + len) * 2 ^ (lo + len) + field v lo len * 2 ^ lo + v % 2 ^ lo := by
  have h1 := Nat.div_add_mod v (2 ^ lo)
  have h2 := Nat.div_add_mod (v / 2 ^ lo) (2 ^ len)
  rw [Nat.div_div_eq_div_mul, ← Nat.pow_add] at h2
  rw [field_eq]
  generalize v / 2 ^ (lo + len) = q at *
  generalize hr : v / 2 ^ lo % 2 ^ len = r at *
  rw [← h2] at h1
  rw [Nat.pow_add]
  nlinarith

theorem putField_eq (v lo len x : Nat) :
    putField v lo len x = v / 2 ^ (lo + len) * 2 ^ (lo + len) + x % 2 ^ len * 2 ^ lo + v % 2 ^ lo := by
  have h := split_field v lo len
  simp only [putField]
  omega

theorem putField_high (v lo len x : Nat) : putField v lo len x / 2 ^ (lo + len) = v / 2 ^ (lo + len) := by
  rw [putField_eq]
  have hl := Nat.mod_lt v (Nat.two_pow_pos lo)
  have hx := Nat.mod_lt x (Nat.two_pow_pos len)
  have : x % 2 ^ len * 2 ^ lo + v % 2 ^ lo < 2 ^ (lo + len) := by
    have := Nat.mul_le_mul_right (2 ^ lo) (Nat.succ_le_of_lt hx)
    rw [Nat.pow_add, Nat.mul_comm (2 ^ lo)]; rw [Nat.succ_mul] at this; omega
  rw [Nat.add_assoc, Nat.mul_comm, Nat.mul_add_div (Nat.two_pow_pos _), Nat.div_eq_of_lt this, Nat.add_zero]

theorem putField_low (v lo len x : Nat) : putField v lo len x % 2 ^ lo = v % 2 ^ lo := by
  rw [putField_eq, Nat.pow_add]
  have : v / (2 ^ lo * 2 ^ len) * (2 ^ lo * 2 ^ len) + x % 2 ^ len * 2 ^ lo + v % 2 ^ lo =
      2 ^ lo * (v / (2 ^ lo * 2 ^ len) * 2 ^ len + x % 2 ^ len) + v % 2 ^ lo := by ring
  rw [this, Nat.mul_add_mod, Nat.mod_mod]

@[simp] theorem field_putField (v lo len x : Nat) : field (putField v lo len x) lo len = x % 2 ^ len := by
  have h := split_field (putField v lo len x) lo len
  rw [putField_high, putField_low] at h
  have h2 := putField_eq v lo len x
  have : field (putField v lo len x) lo len * 2 ^ lo = x % 2 ^ len * 2 ^ lo := by omega
  exact Nat.eq_of_mul_eq_mul_right (Nat.two_pow_pos lo) this

/-- A field above the one replaced. -/
theorem field_putField_above (v lo len x a n : Nat) (h : lo + len ≤ a) : field (putField v lo len x) a n = field v a n := by
  obtain ⟨k, rfl⟩ := Nat.exists_eq_add_of_le h
  rw [field_eq, field_eq, Nat.pow_add 2 (lo + len) k, ← Nat.div_div_eq_div_mul, ← Nat.div_div_eq_div_mul, putField_high]

/-- A field below the one replaced. -/
theorem field_putField_below (v lo len x a n : Nat) (h : a + n ≤ lo) : field (putField v lo len x) a n = field v a n := by
  have key : ∀ w : Nat, field w a n = field (w % 2 ^ lo) a n := by
    intro w
    obtain ⟨k, rfl⟩ := Nat.exists_eq_add_of_le h
    rw [field_eq, field_eq, Nat.pow_add, Nat.pow_add, Nat.mul_assoc, Nat.mod_mul_right_div_self, Nat.mod_mul_right_mod]
  rw [key, putField_low, ← key]

theorem field_mod (v lo len w : Nat) (h : lo + len ≤ w) : field (v % 2 ^ w) lo len = field v lo len := by
  obtain ⟨k, rfl⟩ := Nat.exists_eq_add_of_le h
  rw [field_eq, field_eq, Nat.pow_add, Nat.pow_add, Nat.mul_assoc, Nat.mod_mul_right_div_self, Nat.mod_mul_right_mod]

theorem putField_lt {v lo len w : Nat} (x : Nat) (hv : v < 2 ^ w) (h : lo + len ≤ w) : putField v lo len x < 2 ^ w := by
  obtain ⟨k, rfl⟩ := Nat.exists_eq_add_of_le h
  have h1 : v / 2 ^ (lo + len) < 2 ^ k := by
    rw [Nat.div_lt_iff_lt_mul (Nat.two_pow_pos _), ← Nat.pow_add, Nat.add_comm k]; exact hv
  have h2 : putField v lo len x / 2 ^ (lo + len) < 2 ^ k := by rw [putField_high]; exact h1
  rw [Nat.div_lt_iff_lt_mul (Nat.two_pow_pos _), ← Nat.pow_add, Nat.add_comm k] at h2
  exact h2

namespace Device

/-! ## Registers -/

theorem rg_setRg (d : Device) (k i o v k' i' o' : Nat) :
    (d.setRg k i o v).rg k' i' o' = if regKey k i o = regKey k' i' o' then v % 2 ^ 32 else d.rg k' i' o' := by
  simp only [rg, setRg, Map.get_set]
  split <;> simp

@[simp] theorem rg_setRg_same (d : Device) (k i o v : Nat) : (d.setRg k i o v).rg k i o = v % 2 ^ 32 := by simp [rg_setRg]

theorem rg_setRg_ne (d : Device) (k i o v k' i' o' : Nat) (h : regKey k i o ≠ regKey k' i' o') :
    (d.setRg k i o v).rg k' i' o' = d.rg k' i' o' := by simp [rg_setRg, h]

theorem rg_lt (d : Device) (k i o : Nat) : d.rg k i o < 2 ^ 32 := by simp only [rg]; exact BitVec.isLt _

@[simp] theorem rg_setFld_same (d : Device) (k i o lo len v : Nat) (h : lo + len ≤ 32 := by decide) :
    (d.setFld k i o lo len v).rg k i o = putField (d.rg k i o) lo len v := by
  simp only [setFld, rg_setRg_same]
  exact Nat.mod_eq_of_lt (putField_lt v (d.rg_lt k i o) h)

theorem rg_setFld_ne (d : Device) (k i o lo len v k' i' o' : Nat) (h : regKey k i o ≠ regKey k' i' o') :
    (d.setFld k i o lo len v).rg k' i' o' = d.rg k' i' o' := rg_setRg_ne d k i o _ k' i' o' h

theorem fld_setFld_same (d : Device) (k i o lo len v : Nat) (h : lo + len ≤ 32) : (d.setFld k i o lo len v).fld k i o lo len = v % 2 ^ len := by
  simp [fld, rg_setFld_same d k i o lo len v h]

end Device
end Sys2Proof.Machine
end

