-- ==== Sys2Proof/Laws/Events.lean ====
section
/-! SUPPORT. What the shared operations over counters, events, errors, the error log and free values change, and what they leave alone. -/
namespace Sys2Proof.Machine.Device

/-- Raising a signal changes registers and the messages of the host ports alone. -/
theorem afterSignal_eq (a d : Device) (k i : Nat) : ∃ r h, afterSignal a d k i = { d with regs := r, hosts := h } := by
  simp only [afterSignal, glbMessage]
  repeat' split
  all_goals exact ⟨_, _, rfl⟩

theorem eventMask_eq (d : Device) (k i m : Nat) : ∃ r h, d.eventMask k i m = { d with regs := r, hosts := h } :=
  afterSignal_eq d (d.setRg k i 0x010 (d.rg k i 0x010 ||| m)) k i

theorem event_eq (d : Device) (k i b : Nat) : ∃ r h, d.event k i b = { d with regs := r, hosts := h } := eventMask_eq d k i (2 ^ b)

theorem logErr_eq (d : Device) (b i c n x y : Nat) (j : Bool) :
    ∃ r h e, d.logErr b i c n x y j = { d with regs := r, hosts := h, elog := e } := by
  simp only [logErr]
  split
  · obtain ⟨r1, h1, e1⟩ := event_eq (count (setRg { d with elog := d.elog.set (d.rg 1 0 0x094 % 1024) _ } 1 0 0x094 _) 1 0 0x070) 1 0 9
    obtain ⟨r2, h2, e2⟩ := event_eq (event (count (setRg { d with elog := d.elog.set (d.rg 1 0 0x094 % 1024) _ } 1 0 0x094 _) 1 0 0x070) 1 0 9) 1 0 8
    rw [e2, e1]
    simp only [count, countBy]
    split <;> exact ⟨_, _, _, rfl⟩
  · obtain ⟨r2, h2, e2⟩ := event_eq (setRg { d with elog := d.elog.set (d.rg 1 0 0x094 % 1024) _ } 1 0 0x094 _) 1 0 8
    rw [e2]
    exact ⟨_, _, _, rfl⟩

@[simp] theorem countBy_mem (d : Device) (k i o n : Nat) : (d.countBy k i o n).mem = d.mem := by
  simp only [countBy]; split <;> rfl
@[simp] theorem countBy_poison (d : Device) (k i o n : Nat) : (d.countBy k i o n).poison = d.poison := by
  simp only [countBy]; split <;> rfl
@[simp] theorem countBy_latent (d : Device) (k i o n : Nat) : (d.countBy k i o n).latent = d.latent := by
  simp only [countBy]; split <;> rfl
@[simp] theorem countBy_corrected (d : Device) (k i o n : Nat) : (d.countBy k i o n).corrected = d.corrected := by
  simp only [countBy]; split <;> rfl
@[simp] theorem countBy_snaps (d : Device) (k i o n : Nat) : (d.countBy k i o n).snaps = d.snaps := by
  simp only [countBy]; split <;> rfl
@[simp] theorem countBy_latches (d : Device) (k i o n : Nat) : (d.countBy k i o n).latches = d.latches := by
  simp only [countBy]; split <;> rfl
@[simp] theorem countBy_free (d : Device) (k i o n : Nat) : (d.countBy k i o n).free = d.free := by
  simp only [countBy]; split <;> rfl
@[simp] theorem countBy_out (d : Device) (k i o n : Nat) : (d.countBy k i o n).out = d.out := by
  simp only [countBy]; split <;> rfl
@[simp] theorem countBy_elog (d : Device) (k i o n : Nat) : (d.countBy k i o n).elog = d.elog := by
  simp only [countBy]; split <;> rfl
@[simp] theorem countBy_bell (d : Device) (k i o n : Nat) : (d.countBy k i o n).bell = d.bell := by
  simp only [countBy]; split <;> rfl
@[simp] theorem countBy_hosts (d : Device) (k i o n : Nat) : (d.countBy k i o n).hosts = d.hosts := by
  simp only [countBy]; split <;> rfl
@[simp] theorem countBy_xlt (d : Device) (k i o n : Nat) : (d.countBy k i o n).xlt = d.xlt := by
  simp only [countBy]; split <;> rfl
@[simp] theorem countBy_crofts (d : Device) (k i o n : Nat) : (d.countBy k i o n).crofts = d.crofts := by
  simp only [countBy]; split <;> rfl
@[simp] theorem countBy_chans (d : Device) (k i o n : Nat) : (d.countBy k i o n).chans = d.chans := by
  simp only [countBy]; split <;> rfl
@[simp] theorem countBy_jobs (d : Device) (k i o n : Nat) : (d.countBy k i o n).jobs = d.jobs := by
  simp only [countBy]; split <;> rfl
@[simp] theorem countBy_sower (d : Device) (k i o n : Nat) : (d.countBy k i o n).sower = d.sower := by
  simp only [countBy]; split <;> rfl
@[simp] theorem countBy_ledger (d : Device) (k i o n : Nat) : (d.countBy k i o n).ledger = d.ledger := by
  simp only [countBy]; split <;> rfl
@[simp] theorem countBy_ring (d : Device) (k i o n : Nat) : (d.countBy k i o n).ring = d.ring := by
  simp only [countBy]; split <;> rfl
@[simp] theorem countBy_spare (d : Device) (k i o n : Nat) : (d.countBy k i o n).spare = d.spare := by
  simp only [countBy]; split <;> rfl
@[simp] theorem countBy_trace (d : Device) (k i o n : Nat) : (d.countBy k i o n).trace = d.trace := by
  simp only [countBy]; split <;> rfl
@[simp] theorem countBy_reeves (d : Device) (k i o n : Nat) : (d.countBy k i o n).reeves = d.reeves := by
  simp only [countBy]; split <;> rfl
@[simp] theorem countBy_boxes (d : Device) (k i o n : Nat) : (d.countBy k i o n).boxes = d.boxes := by
  simp only [countBy]; split <;> rfl
@[simp] theorem countBy_hkdTurn (d : Device) (k i o n : Nat) : (d.countBy k i o n).hkdTurn = d.hkdTurn := by
  simp only [countBy]; split <;> rfl
@[simp] theorem countBy_ports (d : Device) (k i o n : Nat) : (d.countBy k i o n).ports = d.ports := by
  simp only [countBy]; split <;> rfl
@[simp] theorem countBy_snapT (d : Device) (k i o n : Nat) : (d.countBy k i o n).snapT = d.snapT := by
  simp only [countBy]; split <;> rfl
@[simp] theorem countBy_snapAt (d : Device) (k i o n : Nat) : (d.countBy k i o n).snapAt = d.snapAt := by
  simp only [countBy]; split <;> rfl
@[simp] theorem countBy_grants (d : Device) (k i o n : Nat) : (d.countBy k i o n).grants = d.grants := by
  simp only [countBy]; split <;> rfl
@[simp] theorem countBy_arbCfg (d : Device) (k i o n : Nat) : (d.countBy k i o n).arbCfg = d.arbCfg := by
  simp only [countBy]; split <;> rfl
@[simp] theorem countBy_power (d : Device) (k i o n : Nat) : (d.countBy k i o n).power = d.power := by
  simp only [countBy]; split <;> rfl
@[simp] theorem countBy_gate (d : Device) (k i o n : Nat) : (d.countBy k i o n).gate = d.gate := by
  simp only [countBy]; split <;> rfl
@[simp] theorem countBy_dbg (d : Device) (k i o n : Nat) : (d.countBy k i o n).dbg = d.dbg := by
  simp only [countBy]; split <;> rfl

@[simp] theorem count_mem (d : Device) (k i o : Nat) : (d.count k i o).mem = d.mem := by
  simp [count]
@[simp] theorem count_poison (d : Device) (k i o : Nat) : (d.count k i o).poison = d.poison := by
  simp [count]
@[simp] theorem count_latent (d : Device) (k i o : Nat) : (d.count k i o).latent = d.latent := by
  simp [count]
@[simp] theorem count_corrected (d : Device) (k i o : Nat) : (d.count k i o).corrected = d.corrected := by
  simp [count]
@[simp] theorem count_snaps (d : Device) (k i o : Nat) : (d.count k i o).snaps = d.snaps := by
  simp [count]
@[simp] theorem count_latches (d : Device) (k i o : Nat) : (d.count k i o).latches = d.latches := by
  simp [count]
@[simp] theorem count_free (d : Device) (k i o : Nat) : (d.count k i o).free = d.free := by
  simp [count]
@[simp] theorem count_out (d : Device) (k i o : Nat) : (d.count k i o).out = d.out := by
  simp [count]
@[simp] theorem count_elog (d : Device) (k i o : Nat) : (d.count k i o).elog = d.elog := by
  simp [count]
@[simp] theorem count_bell (d : Device) (k i o : Nat) : (d.count k i o).bell = d.bell := by
  simp [count]
@[simp] theorem count_hosts (d : Device) (k i o : Nat) : (d.count k i o).hosts = d.hosts := by
  simp [count]
@[simp] theorem count_xlt (d : Device) (k i o : Nat) : (d.count k i o).xlt = d.xlt := by
  simp [count]
@[simp] theorem count_crofts (d : Device) (k i o : Nat) : (d.count k i o).crofts = d.crofts := by
  simp [count]
@[simp] theorem count_chans (d : Device) (k i o : Nat) : (d.count k i o).chans = d.chans := by
  simp [count]
@[simp] theorem count_jobs (d : Device) (k i o : Nat) : (d.count k i o).jobs = d.jobs := by
  simp [count]
@[simp] theorem count_sower (d : Device) (k i o : Nat) : (d.count k i o).sower = d.sower := by
  simp [count]
@[simp] theorem count_ledger (d : Device) (k i o : Nat) : (d.count k i o).ledger = d.ledger := by
  simp [count]
@[simp] theorem count_ring (d : Device) (k i o : Nat) : (d.count k i o).ring = d.ring := by
  simp [count]
@[simp] theorem count_spare (d : Device) (k i o : Nat) : (d.count k i o).spare = d.spare := by
  simp [count]
@[simp] theorem count_trace (d : Device) (k i o : Nat) : (d.count k i o).trace = d.trace := by
  simp [count]
@[simp] theorem count_reeves (d : Device) (k i o : Nat) : (d.count k i o).reeves = d.reeves := by
  simp [count]
@[simp] theorem count_boxes (d : Device) (k i o : Nat) : (d.count k i o).boxes = d.boxes := by
  simp [count]
@[simp] theorem count_hkdTurn (d : Device) (k i o : Nat) : (d.count k i o).hkdTurn = d.hkdTurn := by
  simp [count]
@[simp] theorem count_ports (d : Device) (k i o : Nat) : (d.count k i o).ports = d.ports := by
  simp [count]
@[simp] theorem count_snapT (d : Device) (k i o : Nat) : (d.count k i o).snapT = d.snapT := by
  simp [count]
@[simp] theorem count_snapAt (d : Device) (k i o : Nat) : (d.count k i o).snapAt = d.snapAt := by
  simp [count]
@[simp] theorem count_grants (d : Device) (k i o : Nat) : (d.count k i o).grants = d.grants := by
  simp [count]
@[simp] theorem count_arbCfg (d : Device) (k i o : Nat) : (d.count k i o).arbCfg = d.arbCfg := by
  simp [count]
@[simp] theorem count_power (d : Device) (k i o : Nat) : (d.count k i o).power = d.power := by
  simp [count]
@[simp] theorem count_gate (d : Device) (k i o : Nat) : (d.count k i o).gate = d.gate := by
  simp [count]
@[simp] theorem count_dbg (d : Device) (k i o : Nat) : (d.count k i o).dbg = d.dbg := by
  simp [count]

@[simp] theorem count32_mem (d : Device) (k i o : Nat) : (d.count32 k i o).mem = d.mem := by
  simp only [count32]; split <;> rfl
@[simp] theorem count32_poison (d : Device) (k i o : Nat) : (d.count32 k i o).poison = d.poison := by
  simp only [count32]; split <;> rfl
@[simp] theorem count32_latent (d : Device) (k i o : Nat) : (d.count32 k i o).latent = d.latent := by
  simp only [count32]; split <;> rfl
@[simp] theorem count32_corrected (d : Device) (k i o : Nat) : (d.count32 k i o).corrected = d.corrected := by
  simp only [count32]; split <;> rfl
@[simp] theorem count32_snaps (d : Device) (k i o : Nat) : (d.count32 k i o).snaps = d.snaps := by
  simp only [count32]; split <;> rfl
@[simp] theorem count32_latches (d : Device) (k i o : Nat) : (d.count32 k i o).latches = d.latches := by
  simp only [count32]; split <;> rfl
@[simp] theorem count32_free (d : Device) (k i o : Nat) : (d.count32 k i o).free = d.free := by
  simp only [count32]; split <;> rfl
@[simp] theorem count32_out (d : Device) (k i o : Nat) : (d.count32 k i o).out = d.out := by
  simp only [count32]; split <;> rfl
@[simp] theorem count32_elog (d : Device) (k i o : Nat) : (d.count32 k i o).elog = d.elog := by
  simp only [count32]; split <;> rfl
@[simp] theorem count32_bell (d : Device) (k i o : Nat) : (d.count32 k i o).bell = d.bell := by
  simp only [count32]; split <;> rfl
@[simp] theorem count32_hosts (d : Device) (k i o : Nat) : (d.count32 k i o).hosts = d.hosts := by
  simp only [count32]; split <;> rfl
@[simp] theorem count32_xlt (d : Device) (k i o : Nat) : (d.count32 k i o).xlt = d.xlt := by
  simp only [count32]; split <;> rfl
@[simp] theorem count32_crofts (d : Device) (k i o : Nat) : (d.count32 k i o).crofts = d.crofts := by
  simp only [count32]; split <;> rfl
@[simp] theorem count32_chans (d : Device) (k i o : Nat) : (d.count32 k i o).chans = d.chans := by
  simp only [count32]; split <;> rfl
@[simp] theorem count32_jobs (d : Device) (k i o : Nat) : (d.count32 k i o).jobs = d.jobs := by
  simp only [count32]; split <;> rfl
@[simp] theorem count32_sower (d : Device) (k i o : Nat) : (d.count32 k i o).sower = d.sower := by
  simp only [count32]; split <;> rfl
@[simp] theorem count32_ledger (d : Device) (k i o : Nat) : (d.count32 k i o).ledger = d.ledger := by
  simp only [count32]; split <;> rfl
@[simp] theorem count32_ring (d : Device) (k i o : Nat) : (d.count32 k i o).ring = d.ring := by
  simp only [count32]; split <;> rfl
@[simp] theorem count32_spare (d : Device) (k i o : Nat) : (d.count32 k i o).spare = d.spare := by
  simp only [count32]; split <;> rfl
@[simp] theorem count32_trace (d : Device) (k i o : Nat) : (d.count32 k i o).trace = d.trace := by
  simp only [count32]; split <;> rfl
@[simp] theorem count32_reeves (d : Device) (k i o : Nat) : (d.count32 k i o).reeves = d.reeves := by
  simp only [count32]; split <;> rfl
@[simp] theorem count32_boxes (d : Device) (k i o : Nat) : (d.count32 k i o).boxes = d.boxes := by
  simp only [count32]; split <;> rfl
@[simp] theorem count32_hkdTurn (d : Device) (k i o : Nat) : (d.count32 k i o).hkdTurn = d.hkdTurn := by
  simp only [count32]; split <;> rfl
@[simp] theorem count32_ports (d : Device) (k i o : Nat) : (d.count32 k i o).ports = d.ports := by
  simp only [count32]; split <;> rfl
@[simp] theorem count32_snapT (d : Device) (k i o : Nat) : (d.count32 k i o).snapT = d.snapT := by
  simp only [count32]; split <;> rfl
@[simp] theorem count32_snapAt (d : Device) (k i o : Nat) : (d.count32 k i o).snapAt = d.snapAt := by
  simp only [count32]; split <;> rfl
@[simp] theorem count32_grants (d : Device) (k i o : Nat) : (d.count32 k i o).grants = d.grants := by
  simp only [count32]; split <;> rfl
@[simp] theorem count32_arbCfg (d : Device) (k i o : Nat) : (d.count32 k i o).arbCfg = d.arbCfg := by
  simp only [count32]; split <;> rfl
@[simp] theorem count32_power (d : Device) (k i o : Nat) : (d.count32 k i o).power = d.power := by
  simp only [count32]; split <;> rfl
@[simp] theorem count32_gate (d : Device) (k i o : Nat) : (d.count32 k i o).gate = d.gate := by
  simp only [count32]; split <;> rfl
@[simp] theorem count32_dbg (d : Device) (k i o : Nat) : (d.count32 k i o).dbg = d.dbg := by
  simp only [count32]; split <;> rfl

@[simp] theorem err_mem (d : Device) (k i c o v : Nat) : (d.err k i c o v).mem = d.mem := by
  simp only [err]; split <;> rfl
@[simp] theorem err_poison (d : Device) (k i c o v : Nat) : (d.err k i c o v).poison = d.poison := by
  simp only [err]; split <;> rfl
@[simp] theorem err_latent (d : Device) (k i c o v : Nat) : (d.err k i c o v).latent = d.latent := by
  simp only [err]; split <;> rfl
@[simp] theorem err_corrected (d : Device) (k i c o v : Nat) : (d.err k i c o v).corrected = d.corrected := by
  simp only [err]; split <;> rfl
@[simp] theorem err_snaps (d : Device) (k i c o v : Nat) : (d.err k i c o v).snaps = d.snaps := by
  simp only [err]; split <;> rfl
@[simp] theorem err_latches (d : Device) (k i c o v : Nat) : (d.err k i c o v).latches = d.latches := by
  simp only [err]; split <;> rfl
@[simp] theorem err_free (d : Device) (k i c o v : Nat) : (d.err k i c o v).free = d.free := by
  simp only [err]; split <;> rfl
@[simp] theorem err_out (d : Device) (k i c o v : Nat) : (d.err k i c o v).out = d.out := by
  simp only [err]; split <;> rfl
@[simp] theorem err_elog (d : Device) (k i c o v : Nat) : (d.err k i c o v).elog = d.elog := by
  simp only [err]; split <;> rfl
@[simp] theorem err_bell (d : Device) (k i c o v : Nat) : (d.err k i c o v).bell = d.bell := by
  simp only [err]; split <;> rfl
@[simp] theorem err_hosts (d : Device) (k i c o v : Nat) : (d.err k i c o v).hosts = d.hosts := by
  simp only [err]; split <;> rfl
@[simp] theorem err_xlt (d : Device) (k i c o v : Nat) : (d.err k i c o v).xlt = d.xlt := by
  simp only [err]; split <;> rfl
@[simp] theorem err_crofts (d : Device) (k i c o v : Nat) : (d.err k i c o v).crofts = d.crofts := by
  simp only [err]; split <;> rfl
@[simp] theorem err_chans (d : Device) (k i c o v : Nat) : (d.err k i c o v).chans = d.chans := by
  simp only [err]; split <;> rfl
@[simp] theorem err_jobs (d : Device) (k i c o v : Nat) : (d.err k i c o v).jobs = d.jobs := by
  simp only [err]; split <;> rfl
@[simp] theorem err_sower (d : Device) (k i c o v : Nat) : (d.err k i c o v).sower = d.sower := by
  simp only [err]; split <;> rfl
@[simp] theorem err_ledger (d : Device) (k i c o v : Nat) : (d.err k i c o v).ledger = d.ledger := by
  simp only [err]; split <;> rfl
@[simp] theorem err_ring (d : Device) (k i c o v : Nat) : (d.err k i c o v).ring = d.ring := by
  simp only [err]; split <;> rfl
@[simp] theorem err_spare (d : Device) (k i c o v : Nat) : (d.err k i c o v).spare = d.spare := by
  simp only [err]; split <;> rfl
@[simp] theorem err_trace (d : Device) (k i c o v : Nat) : (d.err k i c o v).trace = d.trace := by
  simp only [err]; split <;> rfl
@[simp] theorem err_reeves (d : Device) (k i c o v : Nat) : (d.err k i c o v).reeves = d.reeves := by
  simp only [err]; split <;> rfl
@[simp] theorem err_boxes (d : Device) (k i c o v : Nat) : (d.err k i c o v).boxes = d.boxes := by
  simp only [err]; split <;> rfl
@[simp] theorem err_hkdTurn (d : Device) (k i c o v : Nat) : (d.err k i c o v).hkdTurn = d.hkdTurn := by
  simp only [err]; split <;> rfl
@[simp] theorem err_ports (d : Device) (k i c o v : Nat) : (d.err k i c o v).ports = d.ports := by
  simp only [err]; split <;> rfl
@[simp] theorem err_snapT (d : Device) (k i c o v : Nat) : (d.err k i c o v).snapT = d.snapT := by
  simp only [err]; split <;> rfl
@[simp] theorem err_snapAt (d : Device) (k i c o v : Nat) : (d.err k i c o v).snapAt = d.snapAt := by
  simp only [err]; split <;> rfl
@[simp] theorem err_grants (d : Device) (k i c o v : Nat) : (d.err k i c o v).grants = d.grants := by
  simp only [err]; split <;> rfl
@[simp] theorem err_arbCfg (d : Device) (k i c o v : Nat) : (d.err k i c o v).arbCfg = d.arbCfg := by
  simp only [err]; split <;> rfl
@[simp] theorem err_power (d : Device) (k i c o v : Nat) : (d.err k i c o v).power = d.power := by
  simp only [err]; split <;> rfl
@[simp] theorem err_gate (d : Device) (k i c o v : Nat) : (d.err k i c o v).gate = d.gate := by
  simp only [err]; split <;> rfl
@[simp] theorem err_dbg (d : Device) (k i c o v : Nat) : (d.err k i c o v).dbg = d.dbg := by
  simp only [err]; split <;> rfl

@[simp] theorem eventMask_mem (d : Device) (k i m : Nat) : (d.eventMask k i m).mem = d.mem := by
  obtain ⟨_, _, e⟩ := eventMask_eq d k i m; rw [e]
@[simp] theorem event_mem (d : Device) (k i b : Nat) : (d.event k i b).mem = d.mem := eventMask_mem d k i (2 ^ b)
@[simp] theorem eventMask_poison (d : Device) (k i m : Nat) : (d.eventMask k i m).poison = d.poison := by
  obtain ⟨_, _, e⟩ := eventMask_eq d k i m; rw [e]
@[simp] theorem eventMask_latent (d : Device) (k i m : Nat) : (d.eventMask k i m).latent = d.latent := by
  obtain ⟨_, _, e⟩ := eventMask_eq d k i m; rw [e]
@[simp] theorem eventMask_corrected (d : Device) (k i m : Nat) : (d.eventMask k i m).corrected = d.corrected := by
  obtain ⟨_, _, e⟩ := eventMask_eq d k i m; rw [e]
@[simp] theorem event_poison (d : Device) (k i b : Nat) : (d.event k i b).poison = d.poison := eventMask_poison d k i (2 ^ b)
@[simp] theorem event_latent (d : Device) (k i b : Nat) : (d.event k i b).latent = d.latent := eventMask_latent d k i (2 ^ b)
@[simp] theorem event_corrected (d : Device) (k i b : Nat) : (d.event k i b).corrected = d.corrected := eventMask_corrected d k i (2 ^ b)
@[simp] theorem eventMask_snaps (d : Device) (k i m : Nat) : (d.eventMask k i m).snaps = d.snaps := by
  obtain ⟨_, _, e⟩ := eventMask_eq d k i m; rw [e]
@[simp] theorem event_snaps (d : Device) (k i b : Nat) : (d.event k i b).snaps = d.snaps := eventMask_snaps d k i (2 ^ b)
@[simp] theorem eventMask_latches (d : Device) (k i m : Nat) : (d.eventMask k i m).latches = d.latches := by
  obtain ⟨_, _, e⟩ := eventMask_eq d k i m; rw [e]
@[simp] theorem event_latches (d : Device) (k i b : Nat) : (d.event k i b).latches = d.latches := eventMask_latches d k i (2 ^ b)
@[simp] theorem eventMask_free (d : Device) (k i m : Nat) : (d.eventMask k i m).free = d.free := by
  obtain ⟨_, _, e⟩ := eventMask_eq d k i m; rw [e]
@[simp] theorem event_free (d : Device) (k i b : Nat) : (d.event k i b).free = d.free := eventMask_free d k i (2 ^ b)
@[simp] theorem eventMask_out (d : Device) (k i m : Nat) : (d.eventMask k i m).out = d.out := by
  obtain ⟨_, _, e⟩ := eventMask_eq d k i m; rw [e]
@[simp] theorem event_out (d : Device) (k i b : Nat) : (d.event k i b).out = d.out := eventMask_out d k i (2 ^ b)
@[simp] theorem eventMask_elog (d : Device) (k i m : Nat) : (d.eventMask k i m).elog = d.elog := by
  obtain ⟨_, _, e⟩ := eventMask_eq d k i m; rw [e]
@[simp] theorem event_elog (d : Device) (k i b : Nat) : (d.event k i b).elog = d.elog := eventMask_elog d k i (2 ^ b)
@[simp] theorem eventMask_bell (d : Device) (k i m : Nat) : (d.eventMask k i m).bell = d.bell := by
  obtain ⟨_, _, e⟩ := eventMask_eq d k i m; rw [e]
@[simp] theorem event_bell (d : Device) (k i b : Nat) : (d.event k i b).bell = d.bell := eventMask_bell d k i (2 ^ b)
@[simp] theorem eventMask_xlt (d : Device) (k i m : Nat) : (d.eventMask k i m).xlt = d.xlt := by
  obtain ⟨_, _, e⟩ := eventMask_eq d k i m; rw [e]
@[simp] theorem event_xlt (d : Device) (k i b : Nat) : (d.event k i b).xlt = d.xlt := eventMask_xlt d k i (2 ^ b)
@[simp] theorem eventMask_crofts (d : Device) (k i m : Nat) : (d.eventMask k i m).crofts = d.crofts := by
  obtain ⟨_, _, e⟩ := eventMask_eq d k i m; rw [e]
@[simp] theorem event_crofts (d : Device) (k i b : Nat) : (d.event k i b).crofts = d.crofts := eventMask_crofts d k i (2 ^ b)
@[simp] theorem eventMask_chans (d : Device) (k i m : Nat) : (d.eventMask k i m).chans = d.chans := by
  obtain ⟨_, _, e⟩ := eventMask_eq d k i m; rw [e]
@[simp] theorem event_chans (d : Device) (k i b : Nat) : (d.event k i b).chans = d.chans := eventMask_chans d k i (2 ^ b)
@[simp] theorem eventMask_jobs (d : Device) (k i m : Nat) : (d.eventMask k i m).jobs = d.jobs := by
  obtain ⟨_, _, e⟩ := eventMask_eq d k i m; rw [e]
@[simp] theorem event_jobs (d : Device) (k i b : Nat) : (d.event k i b).jobs = d.jobs := eventMask_jobs d k i (2 ^ b)
@[simp] theorem eventMask_sower (d : Device) (k i m : Nat) : (d.eventMask k i m).sower = d.sower := by
  obtain ⟨_, _, e⟩ := eventMask_eq d k i m; rw [e]
@[simp] theorem event_sower (d : Device) (k i b : Nat) : (d.event k i b).sower = d.sower := eventMask_sower d k i (2 ^ b)
@[simp] theorem eventMask_ledger (d : Device) (k i m : Nat) : (d.eventMask k i m).ledger = d.ledger := by
  obtain ⟨_, _, e⟩ := eventMask_eq d k i m; rw [e]
@[simp] theorem event_ledger (d : Device) (k i b : Nat) : (d.event k i b).ledger = d.ledger := eventMask_ledger d k i (2 ^ b)
@[simp] theorem eventMask_ring (d : Device) (k i m : Nat) : (d.eventMask k i m).ring = d.ring := by
  obtain ⟨_, _, e⟩ := eventMask_eq d k i m; rw [e]
@[simp] theorem event_ring (d : Device) (k i b : Nat) : (d.event k i b).ring = d.ring := eventMask_ring d k i (2 ^ b)
@[simp] theorem eventMask_spare (d : Device) (k i m : Nat) : (d.eventMask k i m).spare = d.spare := by
  obtain ⟨_, _, e⟩ := eventMask_eq d k i m; rw [e]
@[simp] theorem event_spare (d : Device) (k i b : Nat) : (d.event k i b).spare = d.spare := eventMask_spare d k i (2 ^ b)
@[simp] theorem eventMask_trace (d : Device) (k i m : Nat) : (d.eventMask k i m).trace = d.trace := by
  obtain ⟨_, _, e⟩ := eventMask_eq d k i m; rw [e]
@[simp] theorem event_trace (d : Device) (k i b : Nat) : (d.event k i b).trace = d.trace := eventMask_trace d k i (2 ^ b)
@[simp] theorem eventMask_reeves (d : Device) (k i m : Nat) : (d.eventMask k i m).reeves = d.reeves := by
  obtain ⟨_, _, e⟩ := eventMask_eq d k i m; rw [e]
@[simp] theorem event_reeves (d : Device) (k i b : Nat) : (d.event k i b).reeves = d.reeves := eventMask_reeves d k i (2 ^ b)
@[simp] theorem eventMask_boxes (d : Device) (k i m : Nat) : (d.eventMask k i m).boxes = d.boxes := by
  obtain ⟨_, _, e⟩ := eventMask_eq d k i m; rw [e]
@[simp] theorem event_boxes (d : Device) (k i b : Nat) : (d.event k i b).boxes = d.boxes := eventMask_boxes d k i (2 ^ b)
@[simp] theorem eventMask_hkdTurn (d : Device) (k i m : Nat) : (d.eventMask k i m).hkdTurn = d.hkdTurn := by
  obtain ⟨_, _, e⟩ := eventMask_eq d k i m; rw [e]
@[simp] theorem event_hkdTurn (d : Device) (k i b : Nat) : (d.event k i b).hkdTurn = d.hkdTurn := eventMask_hkdTurn d k i (2 ^ b)
@[simp] theorem eventMask_ports (d : Device) (k i m : Nat) : (d.eventMask k i m).ports = d.ports := by
  obtain ⟨_, _, e⟩ := eventMask_eq d k i m; rw [e]
@[simp] theorem event_ports (d : Device) (k i b : Nat) : (d.event k i b).ports = d.ports := eventMask_ports d k i (2 ^ b)
@[simp] theorem eventMask_snapT (d : Device) (k i m : Nat) : (d.eventMask k i m).snapT = d.snapT := by
  obtain ⟨_, _, e⟩ := eventMask_eq d k i m; rw [e]
@[simp] theorem event_snapT (d : Device) (k i b : Nat) : (d.event k i b).snapT = d.snapT := eventMask_snapT d k i (2 ^ b)
@[simp] theorem eventMask_snapAt (d : Device) (k i m : Nat) : (d.eventMask k i m).snapAt = d.snapAt := by
  obtain ⟨_, _, e⟩ := eventMask_eq d k i m; rw [e]
@[simp] theorem event_snapAt (d : Device) (k i b : Nat) : (d.event k i b).snapAt = d.snapAt := eventMask_snapAt d k i (2 ^ b)
@[simp] theorem eventMask_grants (d : Device) (k i m : Nat) : (d.eventMask k i m).grants = d.grants := by
  obtain ⟨_, _, e⟩ := eventMask_eq d k i m; rw [e]
@[simp] theorem event_grants (d : Device) (k i b : Nat) : (d.event k i b).grants = d.grants := eventMask_grants d k i (2 ^ b)
@[simp] theorem eventMask_arbCfg (d : Device) (k i m : Nat) : (d.eventMask k i m).arbCfg = d.arbCfg := by
  obtain ⟨_, _, e⟩ := eventMask_eq d k i m; rw [e]
@[simp] theorem event_arbCfg (d : Device) (k i b : Nat) : (d.event k i b).arbCfg = d.arbCfg := eventMask_arbCfg d k i (2 ^ b)
@[simp] theorem eventMask_power (d : Device) (k i m : Nat) : (d.eventMask k i m).power = d.power := by
  obtain ⟨_, _, e⟩ := eventMask_eq d k i m; rw [e]
@[simp] theorem event_power (d : Device) (k i b : Nat) : (d.event k i b).power = d.power := eventMask_power d k i (2 ^ b)
@[simp] theorem eventMask_gate (d : Device) (k i m : Nat) : (d.eventMask k i m).gate = d.gate := by
  obtain ⟨_, _, e⟩ := eventMask_eq d k i m; rw [e]
@[simp] theorem event_gate (d : Device) (k i b : Nat) : (d.event k i b).gate = d.gate := eventMask_gate d k i (2 ^ b)
@[simp] theorem eventMask_dbg (d : Device) (k i m : Nat) : (d.eventMask k i m).dbg = d.dbg := by
  obtain ⟨_, _, e⟩ := eventMask_eq d k i m; rw [e]
@[simp] theorem event_dbg (d : Device) (k i b : Nat) : (d.event k i b).dbg = d.dbg := eventMask_dbg d k i (2 ^ b)

@[simp] theorem logErr_mem (d : Device) (b i c n x y : Nat) (j : Bool) : (d.logErr b i c n x y j).mem = d.mem := by
  obtain ⟨_, _, _, e⟩ := logErr_eq d b i c n x y j; rw [e]
@[simp] theorem logErr_poison (d : Device) (b i c n x y : Nat) (j : Bool) : (d.logErr b i c n x y j).poison = d.poison := by
  obtain ⟨_, _, _, e⟩ := logErr_eq d b i c n x y j; rw [e]
@[simp] theorem logErr_latent (d : Device) (b i c n x y : Nat) (j : Bool) : (d.logErr b i c n x y j).latent = d.latent := by
  obtain ⟨_, _, _, e⟩ := logErr_eq d b i c n x y j; rw [e]
@[simp] theorem logErr_corrected (d : Device) (b i c n x y : Nat) (j : Bool) : (d.logErr b i c n x y j).corrected = d.corrected := by
  obtain ⟨_, _, _, e⟩ := logErr_eq d b i c n x y j; rw [e]
@[simp] theorem logErr_snaps (d : Device) (b i c n x y : Nat) (j : Bool) : (d.logErr b i c n x y j).snaps = d.snaps := by
  obtain ⟨_, _, _, e⟩ := logErr_eq d b i c n x y j; rw [e]
@[simp] theorem logErr_latches (d : Device) (b i c n x y : Nat) (j : Bool) : (d.logErr b i c n x y j).latches = d.latches := by
  obtain ⟨_, _, _, e⟩ := logErr_eq d b i c n x y j; rw [e]
@[simp] theorem logErr_free (d : Device) (b i c n x y : Nat) (j : Bool) : (d.logErr b i c n x y j).free = d.free := by
  obtain ⟨_, _, _, e⟩ := logErr_eq d b i c n x y j; rw [e]
@[simp] theorem logErr_out (d : Device) (b i c n x y : Nat) (j : Bool) : (d.logErr b i c n x y j).out = d.out := by
  obtain ⟨_, _, _, e⟩ := logErr_eq d b i c n x y j; rw [e]
@[simp] theorem logErr_bell (d : Device) (b i c n x y : Nat) (j : Bool) : (d.logErr b i c n x y j).bell = d.bell := by
  obtain ⟨_, _, _, e⟩ := logErr_eq d b i c n x y j; rw [e]
@[simp] theorem logErr_xlt (d : Device) (b i c n x y : Nat) (j : Bool) : (d.logErr b i c n x y j).xlt = d.xlt := by
  obtain ⟨_, _, _, e⟩ := logErr_eq d b i c n x y j; rw [e]
@[simp] theorem logErr_crofts (d : Device) (b i c n x y : Nat) (j : Bool) : (d.logErr b i c n x y j).crofts = d.crofts := by
  obtain ⟨_, _, _, e⟩ := logErr_eq d b i c n x y j; rw [e]
@[simp] theorem logErr_chans (d : Device) (b i c n x y : Nat) (j : Bool) : (d.logErr b i c n x y j).chans = d.chans := by
  obtain ⟨_, _, _, e⟩ := logErr_eq d b i c n x y j; rw [e]
@[simp] theorem logErr_jobs (d : Device) (b i c n x y : Nat) (j : Bool) : (d.logErr b i c n x y j).jobs = d.jobs := by
  obtain ⟨_, _, _, e⟩ := logErr_eq d b i c n x y j; rw [e]
@[simp] theorem logErr_sower (d : Device) (b i c n x y : Nat) (j : Bool) : (d.logErr b i c n x y j).sower = d.sower := by
  obtain ⟨_, _, _, e⟩ := logErr_eq d b i c n x y j; rw [e]
@[simp] theorem logErr_ledger (d : Device) (b i c n x y : Nat) (j : Bool) : (d.logErr b i c n x y j).ledger = d.ledger := by
  obtain ⟨_, _, _, e⟩ := logErr_eq d b i c n x y j; rw [e]
@[simp] theorem logErr_ring (d : Device) (b i c n x y : Nat) (j : Bool) : (d.logErr b i c n x y j).ring = d.ring := by
  obtain ⟨_, _, _, e⟩ := logErr_eq d b i c n x y j; rw [e]
@[simp] theorem logErr_spare (d : Device) (b i c n x y : Nat) (j : Bool) : (d.logErr b i c n x y j).spare = d.spare := by
  obtain ⟨_, _, _, e⟩ := logErr_eq d b i c n x y j; rw [e]
@[simp] theorem logErr_trace (d : Device) (b i c n x y : Nat) (j : Bool) : (d.logErr b i c n x y j).trace = d.trace := by
  obtain ⟨_, _, _, e⟩ := logErr_eq d b i c n x y j; rw [e]
@[simp] theorem logErr_reeves (d : Device) (b i c n x y : Nat) (j : Bool) : (d.logErr b i c n x y j).reeves = d.reeves := by
  obtain ⟨_, _, _, e⟩ := logErr_eq d b i c n x y j; rw [e]
@[simp] theorem logErr_boxes (d : Device) (b i c n x y : Nat) (j : Bool) : (d.logErr b i c n x y j).boxes = d.boxes := by
  obtain ⟨_, _, _, e⟩ := logErr_eq d b i c n x y j; rw [e]
@[simp] theorem logErr_hkdTurn (d : Device) (b i c n x y : Nat) (j : Bool) : (d.logErr b i c n x y j).hkdTurn = d.hkdTurn := by
  obtain ⟨_, _, _, e⟩ := logErr_eq d b i c n x y j; rw [e]
@[simp] theorem logErr_ports (d : Device) (b i c n x y : Nat) (j : Bool) : (d.logErr b i c n x y j).ports = d.ports := by
  obtain ⟨_, _, _, e⟩ := logErr_eq d b i c n x y j; rw [e]
@[simp] theorem logErr_snapT (d : Device) (b i c n x y : Nat) (j : Bool) : (d.logErr b i c n x y j).snapT = d.snapT := by
  obtain ⟨_, _, _, e⟩ := logErr_eq d b i c n x y j; rw [e]
@[simp] theorem logErr_snapAt (d : Device) (b i c n x y : Nat) (j : Bool) : (d.logErr b i c n x y j).snapAt = d.snapAt := by
  obtain ⟨_, _, _, e⟩ := logErr_eq d b i c n x y j; rw [e]
@[simp] theorem logErr_grants (d : Device) (b i c n x y : Nat) (j : Bool) : (d.logErr b i c n x y j).grants = d.grants := by
  obtain ⟨_, _, _, e⟩ := logErr_eq d b i c n x y j; rw [e]
@[simp] theorem logErr_arbCfg (d : Device) (b i c n x y : Nat) (j : Bool) : (d.logErr b i c n x y j).arbCfg = d.arbCfg := by
  obtain ⟨_, _, _, e⟩ := logErr_eq d b i c n x y j; rw [e]
@[simp] theorem logErr_power (d : Device) (b i c n x y : Nat) (j : Bool) : (d.logErr b i c n x y j).power = d.power := by
  obtain ⟨_, _, _, e⟩ := logErr_eq d b i c n x y j; rw [e]
@[simp] theorem logErr_gate (d : Device) (b i c n x y : Nat) (j : Bool) : (d.logErr b i c n x y j).gate = d.gate := by
  obtain ⟨_, _, _, e⟩ := logErr_eq d b i c n x y j; rw [e]
@[simp] theorem logErr_dbg (d : Device) (b i c n x y : Nat) (j : Bool) : (d.logErr b i c n x y j).dbg = d.dbg := by
  obtain ⟨_, _, _, e⟩ := logErr_eq d b i c n x y j; rw [e]

/-! ## Registers after an event -/

/-- A bit of a register word. -/
theorem testBit_word (x b : Nat) (hb : b < 32) : (x % 4294967296).testBit b = x.testBit b := by
  rw [show (4294967296 : Nat) = 2 ^ 32 from rfl, Nat.testBit_mod_two_pow]; simp [hb]

/-- A set bit of a register lies in its 32. -/
theorem rg_bit_lt {d : Device} {k i o b : Nat} (h : (d.rg k i o).testBit b = true) : b < 32 := by
  by_contra hb
  rw [Nat.testBit_lt_two_pow (lt_of_lt_of_le (d.rg_lt k i o) (Nat.pow_le_pow_right (by decide) (by omega)))] at h
  exact absurd h (by decide)

theorem glbMessage_rg (a d : Device) (k i o : Nat) : (glbMessage a d).rg k i o = d.rg k i o := by
  simp only [glbMessage]; split <;> rfl

/-- After a signal a register other than GLB_EVENT reads as before. -/
theorem afterSignal_rg (a d : Device) (k i k' i' o' : Nat) (h : regKey k' i' o' ≠ 0x010) :
    (afterSignal a d k i).rg k' i' o' = d.rg k' i' o' := by
  have h' : regKey 1 0 0x010 ≠ regKey k' i' o' := by simpa [regKey, pageNo] using fun e => h e.symm
  simp only [afterSignal]
  repeat' split
  all_goals first
    | rfl
    | (rw [glbMessage_rg]; done)
    | (rw [glbMessage_rg, rg_setRg_ne _ _ _ _ _ _ _ _ h'])

/-- An event leaves every register but its page's EVENT and GLB_EVENT as it was. -/
theorem eventMask_rg (d : Device) (k i m k' i' o' : Nat) (h : regKey k' i' o' ≠ regKey k i 0x010) (h' : regKey k' i' o' ≠ 0x010) :
    (d.eventMask k i m).rg k' i' o' = d.rg k' i' o' := by
  rw [eventMask, afterSignal_rg _ _ _ _ _ _ _ h', rg_setRg_ne _ _ _ _ _ _ _ _ h.symm]

theorem event_rg (d : Device) (k i b k' i' o' : Nat) (h : regKey k' i' o' ≠ regKey k i 0x010) (h' : regKey k' i' o' ≠ 0x010) :
    (d.event k i b).rg k' i' o' = d.rg k' i' o' := eventMask_rg d k i (2 ^ b) k' i' o' h h'

theorem afterSignal_keeps_bits (a d : Device) (k i k' i' o' b : Nat) (h : (d.rg k' i' o').testBit b = true) :
    ((afterSignal a d k i).rg k' i' o').testBit b = true := by
  by_cases e : regKey k' i' o' = 0x010
  · have key : ∀ x : Device, x.rg k' i' o' = x.rg 1 0 0x010 := by
      intro x; simp only [rg, e]; rfl
    rw [key] at h ⊢
    simp only [afterSignal]
    have hb := rg_bit_lt h
    have h1 : regKey 1 0 0x010 = 0x010 := rfl
    repeat' split
    all_goals try simp only [glbMessage_rg, rg_setRg_same]
    all_goals first
      | exact h
      | (rw [show (2 : Nat) ^ 32 = 4294967296 from rfl, testBit_word _ _ hb, Nat.testBit_or, h]; rfl)
  · rw [afterSignal_rg _ _ _ _ _ _ _ e]; exact h

/-- The bit of an event is set in its page's EVENT. -/
theorem event_sets (d : Device) (k i b : Nat) (hb : b < 32) : ((d.event k i b).rg k i 0x010).testBit b = true := by
  apply afterSignal_keeps_bits
  rw [rg_setRg_same, show (2 : Nat) ^ 32 = 4294967296 from rfl, testBit_word _ _ hb]; simp

/-- An event clears no bit of any register. -/
theorem event_keeps_bits (d : Device) (k i b k' i' o' c : Nat) (h : (d.rg k' i' o').testBit c = true) :
    ((d.event k i b).rg k' i' o').testBit c = true := by
  apply afterSignal_keeps_bits
  rw [rg_setRg]
  split
  · rename_i e
    have key : d.rg k i 0x010 = d.rg k' i' o' := by simp only [rg, e]
    rw [show (2 : Nat) ^ 32 = 4294967296 from rfl, testBit_word _ _ (rg_bit_lt h), key, Nat.testBit_or, h]; rfl
  · exact h

/-! ## Host ports after an event -/

theorem oweMsg_host {γ : Type} (π : HostPort → γ) (h : ∀ x m, π { x with msgs := m } = π x) (d : Device) (q fn v p : Nat) :
    π ((d.oweMsg q fn v).host p) = π (d.host p) := by
  simp only [oweMsg, host_setHost]; split
  · rw [h]; subst_vars; rfl
  · rfl

theorem glbMessage_host {γ : Type} (π : HostPort → γ) (h : ∀ x m, π { x with msgs := m } = π x) (a d : Device) (p : Nat) :
    π ((glbMessage a d).host p) = π (d.host p) := by
  simp only [glbMessage]; split
  · rw [oweMsg_host π h, oweMsg_host π h]
  · rfl

/-- An event changes the messages of a host port alone. -/
theorem eventMask_host {γ : Type} (π : HostPort → γ) (h : ∀ x m, π { x with msgs := m } = π x) (d : Device) (k i m p : Nat) :
    π ((d.eventMask k i m).host p) = π (d.host p) := by
  simp only [eventMask, afterSignal]
  repeat' split
  all_goals first
    | rfl
    | (rw [glbMessage_host π h]; rfl)
    | (rw [oweMsg_host π h, oweMsg_host π h]; rfl)

theorem event_host {γ : Type} (π : HostPort → γ) (h : ∀ x m, π { x with msgs := m } = π x) (d : Device) (k i b p : Nat) :
    π ((d.event k i b).host p) = π (d.host p) := eventMask_host π h d k i (2 ^ b) p

theorem err_rg (d : Device) (k i c o v k' i' o' : Nat) (h : regKey k' i' o' ≠ regKey k i 0x024) :
    (d.err k i c o v).rg k' i' o' = d.rg k' i' o' := by
  simp only [err]; split <;> exact rg_setRg_ne _ _ _ _ _ _ _ _ h.symm

theorem countBy_rg (d : Device) (k i o n k' i' o' : Nat) (h : regKey k' i' o' ≠ regKey k i o) (h2 : regKey k' i' o' ≠ regKey k i (o + 4)) :
    (d.countBy k i o n).rg k' i' o' = d.rg k' i' o' := by
  simp only [countBy]; split
  · rfl
  · rw [rg_setRg_ne _ _ _ _ _ _ _ _ h2.symm, rg_setRg_ne _ _ _ _ _ _ _ _ h.symm]

/-- The first error of a page is what ERR_CODE shows (R481). -/
theorem err_first (d : Device) (k i c o v : Nat) (h : d.rg k i 0x024 / 2 ^ 31 ≠ 1) :
    (d.err k i c o v).rg k i 0x024 = (2 ^ 31 + c + o % 4096 * 2 ^ 8 + v % 4 * 2 ^ 20) % 2 ^ 32 := by
  simp only [err]; rw [if_neg h]; simp

end Sys2Proof.Machine.Device
end

