-- ==== Sys2Proof/Safety.lean ====
section
/-! DEFINITION. What the claims call a good state and a good run. -/
namespace Sys2Proof

/-- Memory in its canonical form. -/
abbrev GoodMemory (s : Machine.State) : Prop := s.dev.mem.wf

/-- A step is taken: it ends in a next state, not in a fault or a refusal. -/
def Steps (s t : Machine.State) : Prop := Machine.step s = .next t

/-- A command completes at a state, leaves the queue of waiting commands alone, and leaves a device of which `P` holds. -/
def Does (c : Instr) (s : Machine.State) (P : Machine.Device → Prop) : Prop :=
  ∃ t, Machine.exec c s = .next t ∧ t.pending = s.pending ∧ P t.dev

/-- An initiator has a path to a page that is open now (Table 13-2, R365, R386). -/
def pathOpen (d : Machine.Device) (who : Initiator) (kind inst off v : Nat) : Bool :=
  match who with
  | .tally => decide (3 ≤ d.power.step)
  | .reeve n => decide (3 ≤ d.power.step) && d.pathTo (.reeve n) kind inst true
  | .hkd => false
  | .host p fn => decide (fn = 0) && decide (kind ≤ 19) && d.hostMay p 0 true && d.ready && !Machine.Device.matrixOnly kind off v

/-- An initiator's write reaches a register of a page: the register is implemented on a page whose far side runs, and the path is open
(R26, R476). -/
def CanWrite (d : Machine.Device) (who : Initiator) (kind inst off v : Nat) : Bool :=
  decide (Machine.pageOf (Machine.pageNo kind inst) = some (kind, inst)) && Machine.Device.implemented kind inst off && decide (off < 0x1000) &&
  !d.pageDown kind && pathOpen d who kind inst off v

/-- The device as an access of a register page acts on it: the arbiter of the page's target has counted a request of the high class (R366). -/
def paged (d : Machine.Device) (who : Initiator) (kind inst : Nat) : Machine.Device := d.grantedAt who (.page (Machine.regKey kind inst 0))

/-- An initiator's read reaches a register of a page. -/
def CanRead (d : Machine.Device) (who : Initiator) (kind inst off : Nat) : Bool :=
  decide (Machine.pageOf (Machine.pageNo kind inst) = some (kind, inst)) && Machine.Device.implemented kind inst off && decide (off < 0x1000) &&
  !d.pageDown kind &&
  match who with
  | .tally => decide (3 ≤ d.power.step)
  | .reeve n => decide (3 ≤ d.power.step) && d.pathTo (.reeve n) kind inst false
  | .hkd => false
  | .host p fn => decide (fn = 0) && decide (kind ≤ 19) && d.hostMay p 0 false && d.ready && decide (kind ≠ 5)

/-! ## What the statements about stream opcodes are said in -/

/-- A lane of `w` bits as the integer it holds (Table 4-1). -/
def laneInt (sgn : Bool) (w v : Nat) : Int := if sgn then Int.bmod v (2 ^ w) else v

/-- Least and greatest value of a lane (Table 4-1). -/
def laneLeast (sgn : Bool) (w : Nat) : Int := if sgn then -2 ^ (w - 1) else 0
def laneMost (sgn : Bool) (w : Nat) : Int := if sgn then 2 ^ (w - 1) - 1 else 2 ^ w - 1

/-- Whether an exact result falls outside the range of its lane. -/
def laneMisses (sgn : Bool) (w : Nat) (x : Int) : Bool := decide (x < laneLeast sgn w) || decide (laneMost sgn w < x)

/-- What a lane keeps of an exact result: the nearest representable value with SAT, else the result modulo 2^w (R91). -/
def laneKeeps (sgn sat : Bool) (w : Nat) (x : Int) : Int :=
  if sat then max (laneLeast sgn w) (min (laneMost sgn w) x) else if sgn then Int.bmod x (2 ^ w) else x % 2 ^ w

/-- A croft's current member has an opcode, its operands are all loaded, and it has no result yet (R109). -/
def CanCompute (d : Machine.Device) (n code : Nat) (x : Machine.Cur) : Prop :=
  d.cur n = some x ∧ x.i.opcode = code ∧ x.s.entered = true ∧ x.s.result = none ∧ x.s.storing = false ∧ x.need (d.croft n) = none

/-- What a croft keeps of a member's result: with the residue codes that its member predicts, the error of its operand's code where it has no pipe
to check it, and the IX that the operands raise (R124, R142). -/
def keptResult (d : Machine.Device) (n : Nat) (x : Machine.Cur) (r : Machine.Result) : Machine.Result :=
  { r.coded with
    flags := r.coded.flags ||| x.ixFlag
    code := r.coded.code ^^^ (if Machine.pipesOf x.i.opcode = [] then x.codeError (d.croft n) 0 else 0) }

/-- A command gives the current member of a croft a result of which `P` holds, with its codes and the IX its operands raise, and changes nothing
else. -/
def Computes (c : Instr) (s : Machine.State) (n : Nat) (x : Machine.Cur) (P : Machine.Result → Prop) : Prop :=
  Does c s (fun t => ∃ r, P r ∧ t = s.dev.putStrip n x.ix { x.s with result := some (keptResult s.dev n x r) })

/-- Each lane of D0 of a result as an integer: what `f` gives for an active lane, zero for an inactive one. -/
def LanesHold (x : Machine.Cur) (sgn : Bool) (d : Nat) (f : Nat → Int) : Prop :=
  ∀ k < x.i.lanes, laneInt sgn x.i.w (Machine.laneOf x.i.w d k) = if x.active.testBit k then f k else 0

/-- A result's flags: bit `b j` for each active lane `j` that raises one. -/
def FlagsAre (x : Machine.Cur) (r : Machine.Result) (raised : Nat → List Nat) : Prop :=
  ∀ b, r.flags.testBit b = (List.range x.i.lanes).any (fun k => x.active.testBit k && (raised k).contains b)

/-- A job may issue its next instruction (R37, R86): its channel runs, its start is durable, nothing has stopped or refused it, at most
seven chains are issued ahead of its oldest uncommitted one and none is journaled, no program fault is open, and an instruction is left. -/
def CanIssue (d : Machine.Device) (tag : Nat) (j : Machine.Job) : Prop :=
  d.job? tag = some j ∧ (d.chan j.ch).st.live = true ∧ (j.st = .running ∨ j.st = .parked) ∧ j.startedDurable = true ∧ j.refuse = none ∧
  j.stop = none ∧ j.sownFail = none ∧ d.stoodDown = false ∧ (Machine.Device.aheadOf j.chains).length ≤ 8 ∧ (∀ c ∈ j.chains, c.journaled = false) ∧
  (∀ f ∈ j.faults, f.place ≠ .program) ∧
  ((Machine.dsKind j.desc = 0 ∧ j.next < Machine.dsCount j.desc) ∨ (Machine.dsKind j.desc = 1 ∧ j.sown ≠ []))

/-- Reeve `n` may run, and the instruction at its PC is `i`, of an operation, with no result in flight for a register it uses; the fetch
leaves the device `d1` (R323, R329). -/
def Fetches (d : Machine.Device) (n : Nat) (op : Machine.ROp) (i : Machine.RInstr) (d1 : Machine.Device) : Prop :=
  d.mayRun n = true ∧ d.fetchAt n (d.reeve n).pc 0 = (.instr (some i), d1) ∧ i.op = op ∧ (d1.reeve n).scoreboard i = true

/-- An instruction of reeve `n` completes and leaves a device, where a step under the debugger then ends (R520). -/
def Retires (c : Instr) (s : Machine.State) (n : Nat) (d : Machine.Device) : Prop := Does c s (fun t => t = d.finishInstr n 0 false .done)

/-- A 64-bit value as two's complement. -/
def sgn64 (v : Nat) : Int := Int.bmod v (2 ^ 64)

/-- A reeve after an entry (R346): at EVBASE, with the cause, level and privilege of the event, the hardware loop and the long state clear, s6
at the frame, the window two groups on and the saved PC in its first output register. -/
def TookEntry (r : Machine.Reeve) (ev : Machine.Event) (saved frame priv : Nat) (t : Machine.Reeve) : Prop :=
  t.pc = r.evbase ∧ t.priv = priv ∧ t.iml = ev.level % 8 ∧ t.faddr = ev.faddr ∧
  t.cause = ev.code % 256 + (if ev.interrupt then 2 ^ 8 else 0) + ev.detail % 256 * 2 ^ 16 + ev.level % 8 * 2 ^ 24 ∧
  t.lcount = 0 ∧ t.lend = 0 ∧ t.vl = 0 ∧ t.vstart = 0 ∧ t.resv = none ∧ t.locked = false ∧ t.wfi = false ∧
  t.get 6 = frame ∧ t.get 16 = saved % 2 ^ 64 ∧ t.cur = (r.cur + 2) % 16 ∧ t.df = r.df ∧ t.tr = r.tr ∧
  t.evbase = r.evbase ∧ t.tsbp = r.tsbp ∧ t.tsbp2 = r.tsbp2 ∧ t.lregs = r.lregs ∧ t.mregs = r.mregs

/-- The words of a task-state block (Table 12-6): the saved PC, STATUS, CAUSE, FADDR, WINPTR, LCOUNT, LEND, VL, VSTART, s6 and s7. -/
def frameWords (r : Machine.Reeve) (saved : Nat) : List Nat :=
  [saved, r.status, r.cause, r.faddr, r.winptr, r.lcount, r.lend, r.vl, r.vstart, r.get 6, r.get 7]

/-- A range of control SRAM. -/
def inSram (a k : Nat) : Prop := Machine.sramBase ≤ a ∧ a + k ≤ Machine.sramBase + 0x800000

/-- No error lies in the stored bits of a range of the Green's own stores (R332). -/
def GreenSound (d : Machine.Device) (a n : Nat) : Prop := ∀ k < n, d.latent.find? (Machine.greenUnit (a + k)) = none

/-- A function of a host port that may write, owns a channel of a READY module, and so reaches its doorbell page (R215, R367). -/
def OwnsPage (d : Machine.Device) (p fn ch : Nat) : Prop := d.hostMay p fn true = true ∧ ch < 4096 ∧ d.ready = true ∧ d.chanOwner ch = some (p, fn)

/-- Distance from a ring index to another on a ring of `n` slots (R222). -/
def ringDist (n a b : Nat) : Nat :=
  let pos (i : Nat) := i / 2 ^ 31 % 2 * n + i % 2 ^ 20
  (pos b + 2 * n - pos a) % (2 * n)

/-- A ring index whose slot lies on a ring of `n` slots and whose reserved bits are zero (Table 8-2). -/
def ringIndex (n i : Nat) : Prop := i % 2 ^ 20 < n ∧ i / 2 ^ 20 % 2 ^ 11 = 0

/-- A job that waits and may start (R227, R228, R233): its channel runs, its stroke has begun and its deadline's has not, and every earlier job of the channel is complete,
refused, a MARK, or, before a job with PIPELINE, a started STREAM or COPY/FILL; a CONTROL job and a MARK wait for every earlier job to be complete. -/
def MayStart (d : Machine.Device) (j : Machine.Job) : Prop :=
  ((d.chan j.ch).st = .run ∨ (d.chan j.ch).st = .draining) ∧ d.stoodDown = false ∧ j.st = .waiting ∧ Machine.dsNotBefore j.desc ≤ d.stroke ∧
  (Machine.dsDeadline j.desc = 0 ∨ d.stroke < Machine.dsDeadline j.desc) ∧ j.stop = none ∧ ∀ e ∈ d.jobs, e.2.ch = j.ch → e.2.seq < j.seq →
    e.2.st = .complete ∨ (Machine.dsKind j.desc ≠ 1 ∧ Machine.dsKind j.desc ≠ 4 ∧ (e.2.decided = true ∨ Machine.dsKind e.2.desc = 4)) ∨
    (Machine.dsKind j.desc ∈ [0, 2] ∧ Machine.dsPipeline j.desc = true ∧ e.2.started = true ∧ Machine.dsKind e.2.desc ∈ [0, 2])

/-- No shadow update waits for a channel (R240, R241). -/
def Settled (c : Machine.Channel) : Prop := c.pend = none ∧ c.wbPending = false

/-- `n` bytes of HBM at an address read as a list of bytes. -/
def HbmHolds (d : Machine.Device) (pa : Nat) (bs : List Byte) : Prop :=
  ∀ k < bs.length, d.mem.byte (Machine.windowBase + pa + k) = bs.getD k 0

/-- A leaf that the shared TLB or a micro-TLB holds. -/
def CachedLeaf (d : Machine.Device) (e : Machine.TlbEntry) : Prop :=
  (∃ k w, d.xlt.tlb.find? k = some w ∧ some e ∈ w.ways) ∨ ∃ n, some e ∈ (d.croft n).utlb.ways

/-- A pointer that the walk cache holds. -/
def CachedPtr (d : Machine.Device) (p : Machine.PtrEntry) : Prop := ∃ k w, d.xlt.wc.find? k = some w ∧ some p ∈ w.ways

/-- A frame of a KIND of Table 15-8 as it arrives on a port. -/
inductive Arrives (p : Nat) (f : Frame) : Nat → Instr → Prop where
  | read : Arrives p f 1 (.farRead p f)
  | write : Arrives p f 2 (.farWrite p f)
  | atomic : Arrives p f 3 (.farAtomic p f)
  | readResp : Arrives p f 4 (.readResp p f)
  | writeAck : Arrives p f 5 (.writeAck p f)
  | atomicResp : Arrives p f 6 (.atomicResp p f)
  | mirrorWrite : Arrives p f 7 (.mirrorWrite p f)
  | mirrorAck : Arrives p f 8 (.mirrorAck p f)
  | mirrorSetup : Arrives p f 9 (.mirrorSetup p f)
  | heartbeat : Arrives p f 0xA (.heartbeat p f)

/-- A frame leaves at once for a module: its route's port is UP, has nothing waiting, fewer than 512 codewords unacknowledged (R416) and credits
enough for a class and set. -/
def GoesOut (d : Machine.Device) (dest q ix : Nat) : Prop :=
  (∃ hl, d.routeOf dest = some (q, hl)) ∧ d.alnUp q = true ∧ (d.port q).queue = [] ∧ (d.port q).unacked.length < 512 ∧ 10 ≤ (d.port q).credits.get 0 ix

/-- An enabled ALN_OPEN window that holds a range and permits the access (R422, R427). -/
def OpenToPeers (d : Machine.Device) (a n : Nat) (write : Bool) : Prop :=
  ∃ k < 8, let lo := d.rg 8 0 (0x0C0 + 8 * k)
    let size := 2 ^ Machine.field lo 1 6
    let base := (Machine.field lo 12 20 * 2 ^ 12 + Machine.field (d.rg 8 0 (0x0C4 + 8 * k)) 0 8 * 2 ^ 32) / size * size
    Machine.field lo 0 1 = 1 ∧ base ≤ a ∧ a + n ≤ base + size ∧ (write = true → Machine.field lo 7 1 = 1)

/-- The Gate commands of a message, each with its CODE, its LEN and the bit of RIGHTS it needs: none for INFO, 16 where only a session on
slot 0 may give it (Tables 20-4 and 20-4a). -/
inductive GateCommand (m : GateMsg) : Nat → Nat → Option Nat → Instr → Prop
  | info : GateCommand m 1 1 none (.gateInfo m)
  | setId : GateCommand m 2 3 (some 0) (.gateSetId m)
  | warmReset : GateCommand m 3 1 (some 1) (.gateWarmReset m)
  | power : GateCommand m 4 2 (some 2) (.gatePower m)
  | calSet : GateCommand m 5 4 (some 3) (.gateCalSet m)
  | calCommit : GateCommand m 6 1 (some 3) (.gateCalCommit m)
  | lifecycle : GateCommand m 7 3 (some 4) (.gateLifecycle m)
  | debugAuth : GateCommand m 8 4 (some 5) (.gateDebugAuth m)
  | svnCommit : GateCommand m 9 1 (some 6) (.gateSvnCommit m)
  | keySet : GateCommand m 0xA 36 (some 16) (.gateKeySet m)
  | keyRevoke : GateCommand m 0xB 2 (some 16) (.gateKeyRevoke m)

/-- Whether a message of the open session passes the checks of R496: the length of its BODY, its SID, its SEQ and its MAC over KIND and BODY. -/
def Authentic (s : Machine.Session) (m : GateMsg) (kind : Nat) (body : List Byte) : Prop :=
  body.length ≤ 920 ∧ m.sid = s.sid ∧ m.seq = s.seqIn + 1 ∧
  m.mac = Config.hmacSha384 s.ks (0x10 :: Machine.bytesOf 2 s.sid ++ Machine.bytesOf 4 m.seq ++ (BitVec.ofNat 8 kind :: body))

/-- A device after an accepted COMMAND and its REPLY: the session's sequence numbers advanced, and the REPLY with its MAC on its way. -/
def replied (d : Machine.Device) (s : Machine.Session) (m : GateMsg) (code status : Nat) (data : List Byte) : Machine.Device :=
  let body : List Byte := BitVec.ofNat 8 code :: BitVec.ofNat 8 status :: data
  let mac := Config.hmacSha384 s.ks (0x11 :: Machine.bytesOf 2 s.sid ++ Machine.bytesOf 4 (s.seqOut + 1) ++ (0x11 :: body))
  { d with gate := { d.gate with session := some { s with seqIn := m.seq, seqOut := s.seqOut + 1 } }
           out := d.out ++ [.gate m.binding 0x11 s.slot s.sid (s.seqOut + 1) body (some mac)] }

/-- A state reached from another by any number of steps. -/
inductive Reaches : Machine.State → Machine.State → Prop where
  | refl (s : Machine.State) : Reaches s s
  | tail {s t u : Machine.State} (first : Reaches s t) (last : Steps t u) : Reaches s u

end Sys2Proof
end

