-- ==== Sys2Proof/Laws/Memory.lean ====
section
/-! SUPPORT. Memory: every operation keeps the canonical form, a read finds what was last written, and equal memories are equal data. -/
namespace Sys2Proof.Machine.Memory

/-- The canonical form said at once: no listed byte is zero, and addresses rise. -/
theorem wf_iff (m : Memory) : m.wf = true ↔ (∀ c ∈ m, c.2 ≠ 0) ∧ m.Pairwise (fun c d => c.1 < d.1) := by
  induction m with
  | nil => simp [wf]
  | cons c m ih =>
    cases m with
    | nil => simp [wf]
    | cons d m =>
      simp only [wf, Bool.and_eq_true, decide_eq_true_eq, ih, List.pairwise_cons]
      constructor
      · rintro ⟨⟨hc, hcd⟩, hall, hd, hp⟩
        refine ⟨?_, ?_, hd, hp⟩
        · intro x hx; rcases List.mem_cons.1 hx with rfl | hx
          · exact hc
          · exact hall x hx
        · intro x hx; rcases List.mem_cons.1 hx with rfl | hx
          · exact hcd
          · exact lt_trans hcd (hd x hx)
      · rintro ⟨hall, hc, hd, hp⟩
        exact ⟨⟨hall c (by simp), hc d (by simp)⟩, fun x hx => hall x (by simp only [List.mem_cons] at hx ⊢; tauto), hd, hp⟩

theorem filter_wf {m : Memory} (p : Host.Cell → Bool) (h : m.wf = true) : Memory.wf (m.filter p) = true := by
  rw [wf_iff] at h ⊢
  exact ⟨fun c hc => h.1 c (List.mem_filter.1 hc).1, h.2.filter p⟩

theorem mem_setByte {m : Memory} {a : Nat} {b : Byte} {c : Host.Cell} (h : c ∈ m.setByte a b) : c ∈ m ∨ (c = (a, b) ∧ b ≠ 0) := by
  induction m with
  | nil =>
    simp only [setByte] at h
    split at h
    · simp at h
    · simp at h; exact Or.inr ⟨h, ‹_›⟩
  | cons e m ih =>
    obtain ⟨k, v⟩ := e
    simp only [setByte] at h
    split at h
    · split at h
      · exact Or.inl h
      · rcases List.mem_cons.1 h with rfl | h
        · exact Or.inr ⟨rfl, ‹_›⟩
        · exact Or.inl h
    · split at h
      · split at h
        · exact Or.inl (List.mem_cons_of_mem _ h)
        · rcases List.mem_cons.1 h with rfl | h
          · exact Or.inr ⟨rfl, ‹_›⟩
          · exact Or.inl (List.mem_cons_of_mem _ h)
      · rcases List.mem_cons.1 h with rfl | h
        · exact Or.inl (by simp)
        · rcases ih h with h | h
          · exact Or.inl (List.mem_cons_of_mem _ h)
          · exact Or.inr h

theorem setByte_wf {m : Memory} (a : Nat) (b : Byte) (h : m.wf = true) : Memory.wf (m.setByte a b) = true := by
  rw [wf_iff] at h ⊢
  obtain ⟨hz, hp⟩ := h
  refine ⟨fun c hc => ?_, ?_⟩
  · rcases mem_setByte hc with hc | ⟨rfl, hb⟩
    · exact hz c hc
    · exact hb
  · clear hz
    induction m with
    | nil => simp only [setByte]; split <;> simp
    | cons e m ih =>
      obtain ⟨k, v⟩ := e
      have hp' := hp
      rw [List.pairwise_cons] at hp
      obtain ⟨h1, h2⟩ := hp
      simp only [setByte]
      split
      · split
        · exact hp'
        · refine List.pairwise_cons.2 ⟨fun x hx => ?_, hp'⟩
          rcases List.mem_cons.1 hx with rfl | hx
          · assumption
          · exact lt_trans ‹a < k› (h1 x hx)
      · split
        · subst_vars
          split
          · exact h2
          · exact List.pairwise_cons.2 ⟨h1, h2⟩
        · refine List.pairwise_cons.2 ⟨fun x hx => ?_, ih h2⟩
          rcases mem_setByte hx with hx | ⟨rfl, _⟩
          · exact h1 x hx
          · simp only; omega

theorem find?_eq_none {m : Memory} {a : Nat} (h : ∀ c ∈ m, c.1 ≠ a) : Map.find? m a = none := by
  induction m with
  | nil => rfl
  | cons e m ih =>
    obtain ⟨k, v⟩ := e
    simp only [Map.find?]
    rw [if_neg (h (k, v) (by simp)), ih (fun c hc => h c (List.mem_cons_of_mem _ hc))]

/-- Read after write, for every address. -/
theorem byte_setByte {m : Memory} (a : Nat) (b : Byte) (x : Nat) (h : m.wf = true) :
    (m.setByte a b).byte x = if x = a then b else m.byte x := by
  rw [wf_iff] at h
  replace h := h.2
  rename' h => hp
  simp only [byte]
  induction m with
  | nil =>
    simp only [setByte]
    by_cases hb : b = 0 <;> by_cases hx : x = a
    · rw [if_pos hb, if_pos hx, hb]; rfl
    · rw [if_pos hb, if_neg hx]
    · rw [if_neg hb, if_pos hx, hx]; simp [Map.find?]
    · rw [if_neg hb, if_neg hx]; simp [Map.find?, Ne.symm hx]
  | cons e m ih =>
    obtain ⟨k, v⟩ := e
    rw [List.pairwise_cons] at hp
    obtain ⟨h1, h2⟩ := hp
    have tailNone : ∀ y, y ≤ k → Map.find? m y = none := fun y hy =>
      find?_eq_none (fun c hc e => by have := h1 c hc; omega)
    simp only [setByte]
    split
    · rename_i hak
      by_cases hb : b = 0 <;> by_cases hx : x = a
      · subst hx; rw [if_pos hb, if_pos rfl]; simp only [Map.find?]
        rw [if_neg (by omega), tailNone x (by omega), hb]; rfl
      · rw [if_pos hb, if_neg hx]
      · subst hx; rw [if_neg hb, if_pos rfl]; simp [Map.find?]
      · rw [if_neg hb, if_neg hx]; simp only [Map.find?]; rw [if_neg (fun e => hx e.symm)]
    · split
      · subst_vars
        by_cases hb : b = 0 <;> by_cases hx : x = k
        · subst hx; rw [if_pos hb, if_pos rfl, tailNone x le_rfl, hb]; rfl
        · rw [if_pos hb, if_neg hx]; simp only [Map.find?]; rw [if_neg (fun e => hx e.symm)]
        · subst hx; rw [if_neg hb, if_pos rfl]; simp [Map.find?]
        · rw [if_neg hb, if_neg hx]; simp only [Map.find?]; rw [if_neg (fun e => hx e.symm), if_neg (fun e => hx e.symm)]
      · by_cases hx : x = k
        · subst hx; simp only [Map.find?, if_true]; rw [if_neg (by omega)]
        · simp only [Map.find?]; rw [if_neg (Ne.symm hx), if_neg (Ne.symm hx)]; exact ih h2

theorem writeBytes_wf {m : Memory} (a : Nat) (bs : List Byte) (h : m.wf = true) : Memory.wf (m.writeBytes a bs) = true := by
  induction bs generalizing m a with
  | nil => exact h
  | cons b bs ih => exact ih _ (setByte_wf a b h)

/-- A write of bytes leaves every address outside them as it was. -/
theorem byte_writeBytes_outside {m : Memory} (a : Nat) (bs : List Byte) (x : Nat) (h : m.wf = true) (hx : x < a ∨ a + bs.length ≤ x) :
    (m.writeBytes a bs).byte x = m.byte x := by
  induction bs generalizing m a with
  | nil => rfl
  | cons b bs ih =>
    simp only [List.length_cons] at hx
    simp only [writeBytes]
    rw [ih _ (setByte_wf a b h) (by omega), byte_setByte a b x h, if_neg (by omega)]

/-- A write of bytes is read back. -/
theorem byte_writeBytes_inside {m : Memory} (a : Nat) (bs : List Byte) (k : Nat) (h : m.wf = true) (hk : k < bs.length) :
    (m.writeBytes a bs).byte (a + k) = bs[k] := by
  induction bs generalizing m a k with
  | nil => simp at hk
  | cons b bs ih =>
    simp only [writeBytes]
    cases k with
    | zero =>
      rw [Nat.add_zero, byte_writeBytes_outside _ _ _ (setByte_wf a b h) (by omega)]
      simp [byte_setByte a b a h]
    | succ k =>
      have := ih (m := m.setByte a b) (a + 1) k (setByte_wf a b h) (by simpa using hk)
      rw [show a + (k + 1) = a + 1 + k by omega, this]; rfl

theorem writeCells_wf {m : Memory} (cells : List (Nat × Byte)) (h : m.wf = true) : Memory.wf (m.writeCells cells) = true := by
  simp only [writeCells]
  induction cells generalizing m with
  | nil => exact h
  | cons c cs ih => exact ih (setByte_wf c.1 c.2 h)

theorem zero_wf {m : Memory} (lo n : Nat) (h : m.wf = true) : Memory.wf (m.zero lo n) = true := filter_wf _ h

/-- Two memories in canonical form that read alike are one. -/
theorem ext {m n : Memory} (hm : m.wf = true) (hn : n.wf = true) (h : ∀ a, m.byte a = n.byte a) : m = n := by
  rw [wf_iff] at hm hn
  induction m generalizing n with
  | nil =>
    cases n with
    | nil => rfl
    | cons e n =>
      exfalso
      have := h e.1
      simp [byte, Map.find?] at this
      exact hn.1 e (by simp) this.symm
  | cons e m ih =>
    obtain ⟨k, v⟩ := e
    have hv := hm.1 (k, v) (by simp)
    cases n with
    | nil =>
      exfalso
      have := h k
      simp [byte, Map.find?] at this
      exact hv this
    | cons f n =>
      obtain ⟨j, w⟩ := f
      have hw := hn.1 (j, w) (by simp)
      have pm := List.pairwise_cons.1 hm.2
      have pn := List.pairwise_cons.1 hn.2
      have nm : ∀ y, y ≤ k → Map.find? m y = none := fun y hy => find?_eq_none (fun c hc e => by have := pm.1 c hc; simp only at this; omega)
      have nn : ∀ y, y ≤ j → Map.find? n y = none := fun y hy => find?_eq_none (fun c hc e => by have := pn.1 c hc; simp only at this; omega)
      have hkj : k = j := by
        rcases Nat.lt_trichotomy k j with hlt | heq | hgt
        · exfalso
          have := h k
          simp only [byte, Map.find?, if_true] at this
          rw [if_neg (by omega), nn k (by omega)] at this
          exact hv (by simpa using this)
        · exact heq
        · exfalso
          have := h j
          simp only [byte, Map.find?, if_true] at this
          rw [if_neg (by omega), nm j (by omega)] at this
          exact hw (by simpa using this.symm)
      subst hkj
      have hvw : v = w := by simpa [byte, Map.find?] using h k
      subst hvw
      congr 1
      refine ih ⟨fun c hc => hm.1 c (List.mem_cons_of_mem _ hc), pm.2⟩ ⟨fun c hc => hn.1 c (List.mem_cons_of_mem _ hc), pn.2⟩ (fun a => ?_)
      by_cases ha : a = k
      · subst ha; simp only [byte, nm a le_rfl, nn a le_rfl]
      · have := h a
        simpa only [byte, Map.find?, if_neg (fun e : k = a => ha e.symm)] using this

end Sys2Proof.Machine.Memory
end

