-- ==== Sys2Proof/Laws/Frames.lean ====
section
/-! SUPPORT. What the operations that several commands share leave alone. -/
namespace Sys2Proof.Machine.Device

/-- A part of the device that every turn of a fold keeps. -/
theorem foldl_keeps {β γ : Type} (π : Device → γ) (f : Device → β → Device) (h : ∀ d b, π (f d b) = π d) (l : List β) (d : Device) :
    π (l.foldl f d) = π d := by
  induction l generalizing d with
  | nil => rfl
  | cons b l ih => rw [List.foldl_cons, ih, h]

/-- An error-log entry leaves every register but ELOG_NEXT, GLB_EVENT and the count of lost entries. -/
theorem logErr_rg (d : Device) (b i c n x y : Nat) (j : Bool) (k' i' o' : Nat)
    (h : regKey k' i' o' ≠ 0x010 ∧ regKey k' i' o' ≠ 0x094 ∧ regKey k' i' o' ≠ 0x070 ∧ regKey k' i' o' ≠ 0x074 := by decide) :
    (d.logErr b i c n x y j).rg k' i' o' = d.rg k' i' o' := by
  obtain ⟨h1, h2, h3, h4⟩ := h
  have e1 : regKey 1 0 0x010 = 0x010 := rfl
  have e2 : regKey 1 0 0x094 = 0x094 := rfl
  have e3 : regKey 1 0 0x070 = 0x070 := rfl
  have e4 : regKey 1 0 (0x070 + 4) = 0x074 := rfl
  simp only [logErr]
  split
  · rw [event_rg _ _ _ _ _ _ _ (by rw [e1]; exact h1) h1, event_rg _ _ _ _ _ _ _ (by rw [e1]; exact h1) h1]
    rw [count, countBy_rg _ _ _ _ _ _ _ _ (by rw [e3]; exact h3) (by rw [e4]; exact h4), rg_setRg_ne _ _ _ _ _ _ _ _ (by rw [e2]; exact h2.symm)]
    rfl
  · rw [event_rg _ _ _ _ _ _ _ (by rw [e1]; exact h1) h1, rg_setRg_ne _ _ _ _ _ _ _ _ (by rw [e2]; exact h2.symm)]
    rfl

theorem mbxPush_eq (d : Device) (n : Nat) (hs : Bool) (c hi : Nat) :
    ∃ r h b, d.mbxPush n hs c hi = { d with regs := r, hosts := h, boxes := b } := by
  simp only [mbxPush]
  repeat' split
  all_goals first
    | exact ⟨_, _, _, rfl⟩
    | (obtain ⟨r, h, e⟩ := event_eq (d.setBox n _) 13 n 2; rw [e]; exact ⟨_, _, _, rfl⟩)
    | (obtain ⟨r, h, e⟩ := event_eq (d.setBox n _) (boxKind hs) n 1; rw [e]; exact ⟨_, _, _, rfl⟩)
    | (obtain ⟨r, h, e⟩ := event_eq (d.setBox n _) (boxKind !hs) n 0; rw [e]; exact ⟨_, _, _, rfl⟩)

/-- A notice changes mailbox 0, event registers and messages, and takes a free value. -/
theorem notice_eq (d : Device) : ∃ r h b, d.notice = { d with regs := r, hosts := h, boxes := b, free := d.free + 1 } := by
  simp only [notice, takeFree]
  obtain ⟨r, h, b, e⟩ := mbxPush_eq ((({ d with free := d.free + 1 } : Device).mbxHold 0 ((d.servedBy 0).getD 0) (Config.freeValue d.free % 2 ^ 64 % 2 ^ 32))) 0
    false ((d.servedBy 0).getD 0) (Config.freeValue d.free % 2 ^ 64 / 2 ^ 32)
  rw [e]
  exact ⟨_, _, _, rfl⟩

/-- A push changes no register but the EVENT of a side of its mailbox and GLB_EVENT. -/
theorem mbxPush_rg (d : Device) (n : Nat) (hs : Bool) (c hi k' i' o' : Nat) (h1 : regKey k' i' o' ≠ 0x010)
    (h2 : regKey k' i' o' ≠ regKey 13 n 0x010) (h3 : regKey k' i' o' ≠ regKey kMbxReeve n 0x010) :
    (d.mbxPush n hs c hi).rg k' i' o' = d.rg k' i' o' := by
  have hb : ∀ x : Bool, regKey k' i' o' ≠ regKey (boxKind x) n 0x010 := by intro x; cases x <;> simp [boxKind, h2, h3]
  simp only [mbxPush]
  repeat' split
  all_goals first
    | rfl
    | (rw [event_rg _ _ _ _ _ _ _ h2 h1]; rfl)
    | (rw [event_rg _ _ _ _ _ _ _ (hb _) h1]; rfl)

theorem notice_rg (d : Device) (k' i' o' : Nat)
    (h : regKey k' i' o' ≠ 0x010 ∧ regKey k' i' o' ≠ regKey 13 0 0x010 ∧ regKey k' i' o' ≠ regKey kMbxReeve 0 0x010 := by decide) :
    d.notice.rg k' i' o' = d.rg k' i' o' := by
  simp only [notice, takeFree]
  rw [show ∀ (x : Device) c v, (x.mbxHold 0 c v).rg k' i' o' = x.rg k' i' o' from fun _ _ _ => rfl, mbxPush_rg _ _ _ _ _ _ _ _ h.1 h.2.1 h.2.2]
  rfl

@[simp] theorem notice_mem (d : Device) : d.notice.mem = d.mem := by
  obtain ⟨_, _, _, e⟩ := notice_eq d; rw [e]
@[simp] theorem mbxPush_mem (d : Device) (n : Nat) (hs : Bool) (c hi : Nat) : (d.mbxPush n hs c hi).mem = d.mem := by
  obtain ⟨_, _, _, e⟩ := mbxPush_eq d n hs c hi; rw [e]
@[simp] theorem startReeve_mem (d : Device) (n : Nat) (l : Option Nat) : (d.startReeve n l).mem = d.mem := by
  simp only [startReeve]; split <;> simp
@[simp] theorem notice_poison (d : Device) : d.notice.poison = d.poison := by
  obtain ⟨_, _, _, e⟩ := notice_eq d; rw [e]
@[simp] theorem mbxPush_poison (d : Device) (n : Nat) (hs : Bool) (c hi : Nat) : (d.mbxPush n hs c hi).poison = d.poison := by
  obtain ⟨_, _, _, e⟩ := mbxPush_eq d n hs c hi; rw [e]
@[simp] theorem startReeve_poison (d : Device) (n : Nat) (l : Option Nat) : (d.startReeve n l).poison = d.poison := by
  simp only [startReeve]; split <;> simp
@[simp] theorem notice_snaps (d : Device) : d.notice.snaps = d.snaps := by
  obtain ⟨_, _, _, e⟩ := notice_eq d; rw [e]
@[simp] theorem mbxPush_snaps (d : Device) (n : Nat) (hs : Bool) (c hi : Nat) : (d.mbxPush n hs c hi).snaps = d.snaps := by
  obtain ⟨_, _, _, e⟩ := mbxPush_eq d n hs c hi; rw [e]
@[simp] theorem startReeve_snaps (d : Device) (n : Nat) (l : Option Nat) : (d.startReeve n l).snaps = d.snaps := by
  simp only [startReeve]; split <;> simp
@[simp] theorem notice_latches (d : Device) : d.notice.latches = d.latches := by
  obtain ⟨_, _, _, e⟩ := notice_eq d; rw [e]
@[simp] theorem mbxPush_latches (d : Device) (n : Nat) (hs : Bool) (c hi : Nat) : (d.mbxPush n hs c hi).latches = d.latches := by
  obtain ⟨_, _, _, e⟩ := mbxPush_eq d n hs c hi; rw [e]
@[simp] theorem startReeve_latches (d : Device) (n : Nat) (l : Option Nat) : (d.startReeve n l).latches = d.latches := by
  simp only [startReeve]; split <;> simp
@[simp] theorem mbxPush_free (d : Device) (n : Nat) (hs : Bool) (c hi : Nat) : (d.mbxPush n hs c hi).free = d.free := by
  obtain ⟨_, _, _, e⟩ := mbxPush_eq d n hs c hi; rw [e]
@[simp] theorem startReeve_free (d : Device) (n : Nat) (l : Option Nat) : (d.startReeve n l).free = d.free := by
  simp only [startReeve]; split <;> simp
@[simp] theorem notice_out (d : Device) : d.notice.out = d.out := by
  obtain ⟨_, _, _, e⟩ := notice_eq d; rw [e]
@[simp] theorem mbxPush_out (d : Device) (n : Nat) (hs : Bool) (c hi : Nat) : (d.mbxPush n hs c hi).out = d.out := by
  obtain ⟨_, _, _, e⟩ := mbxPush_eq d n hs c hi; rw [e]
@[simp] theorem startReeve_out (d : Device) (n : Nat) (l : Option Nat) : (d.startReeve n l).out = d.out := by
  simp only [startReeve]; split <;> simp
@[simp] theorem notice_elog (d : Device) : d.notice.elog = d.elog := by
  obtain ⟨_, _, _, e⟩ := notice_eq d; rw [e]
@[simp] theorem mbxPush_elog (d : Device) (n : Nat) (hs : Bool) (c hi : Nat) : (d.mbxPush n hs c hi).elog = d.elog := by
  obtain ⟨_, _, _, e⟩ := mbxPush_eq d n hs c hi; rw [e]
@[simp] theorem startReeve_elog (d : Device) (n : Nat) (l : Option Nat) : (d.startReeve n l).elog = d.elog := by
  simp only [startReeve]; split <;> simp
@[simp] theorem notice_bell (d : Device) : d.notice.bell = d.bell := by
  obtain ⟨_, _, _, e⟩ := notice_eq d; rw [e]
@[simp] theorem mbxPush_bell (d : Device) (n : Nat) (hs : Bool) (c hi : Nat) : (d.mbxPush n hs c hi).bell = d.bell := by
  obtain ⟨_, _, _, e⟩ := mbxPush_eq d n hs c hi; rw [e]
@[simp] theorem startReeve_bell (d : Device) (n : Nat) (l : Option Nat) : (d.startReeve n l).bell = d.bell := by
  simp only [startReeve]; split <;> simp
@[simp] theorem notice_xlt (d : Device) : d.notice.xlt = d.xlt := by
  obtain ⟨_, _, _, e⟩ := notice_eq d; rw [e]
@[simp] theorem mbxPush_xlt (d : Device) (n : Nat) (hs : Bool) (c hi : Nat) : (d.mbxPush n hs c hi).xlt = d.xlt := by
  obtain ⟨_, _, _, e⟩ := mbxPush_eq d n hs c hi; rw [e]
@[simp] theorem startReeve_xlt (d : Device) (n : Nat) (l : Option Nat) : (d.startReeve n l).xlt = d.xlt := by
  simp only [startReeve]; split <;> simp
@[simp] theorem notice_crofts (d : Device) : d.notice.crofts = d.crofts := by
  obtain ⟨_, _, _, e⟩ := notice_eq d; rw [e]
@[simp] theorem mbxPush_crofts (d : Device) (n : Nat) (hs : Bool) (c hi : Nat) : (d.mbxPush n hs c hi).crofts = d.crofts := by
  obtain ⟨_, _, _, e⟩ := mbxPush_eq d n hs c hi; rw [e]
@[simp] theorem startReeve_crofts (d : Device) (n : Nat) (l : Option Nat) : (d.startReeve n l).crofts = d.crofts := by
  simp only [startReeve]; split <;> simp
@[simp] theorem notice_chans (d : Device) : d.notice.chans = d.chans := by
  obtain ⟨_, _, _, e⟩ := notice_eq d; rw [e]
@[simp] theorem mbxPush_chans (d : Device) (n : Nat) (hs : Bool) (c hi : Nat) : (d.mbxPush n hs c hi).chans = d.chans := by
  obtain ⟨_, _, _, e⟩ := mbxPush_eq d n hs c hi; rw [e]
@[simp] theorem startReeve_chans (d : Device) (n : Nat) (l : Option Nat) : (d.startReeve n l).chans = d.chans := by
  simp only [startReeve]; split <;> simp
@[simp] theorem notice_jobs (d : Device) : d.notice.jobs = d.jobs := by
  obtain ⟨_, _, _, e⟩ := notice_eq d; rw [e]
@[simp] theorem mbxPush_jobs (d : Device) (n : Nat) (hs : Bool) (c hi : Nat) : (d.mbxPush n hs c hi).jobs = d.jobs := by
  obtain ⟨_, _, _, e⟩ := mbxPush_eq d n hs c hi; rw [e]
@[simp] theorem startReeve_jobs (d : Device) (n : Nat) (l : Option Nat) : (d.startReeve n l).jobs = d.jobs := by
  simp only [startReeve]; split <;> simp
@[simp] theorem notice_sower (d : Device) : d.notice.sower = d.sower := by
  obtain ⟨_, _, _, e⟩ := notice_eq d; rw [e]
@[simp] theorem mbxPush_sower (d : Device) (n : Nat) (hs : Bool) (c hi : Nat) : (d.mbxPush n hs c hi).sower = d.sower := by
  obtain ⟨_, _, _, e⟩ := mbxPush_eq d n hs c hi; rw [e]
@[simp] theorem startReeve_sower (d : Device) (n : Nat) (l : Option Nat) : (d.startReeve n l).sower = d.sower := by
  simp only [startReeve]; split <;> simp
@[simp] theorem notice_ledger (d : Device) : d.notice.ledger = d.ledger := by
  obtain ⟨_, _, _, e⟩ := notice_eq d; rw [e]
@[simp] theorem mbxPush_ledger (d : Device) (n : Nat) (hs : Bool) (c hi : Nat) : (d.mbxPush n hs c hi).ledger = d.ledger := by
  obtain ⟨_, _, _, e⟩ := mbxPush_eq d n hs c hi; rw [e]
@[simp] theorem startReeve_ledger (d : Device) (n : Nat) (l : Option Nat) : (d.startReeve n l).ledger = d.ledger := by
  simp only [startReeve]; split <;> simp
@[simp] theorem notice_ring (d : Device) : d.notice.ring = d.ring := by
  obtain ⟨_, _, _, e⟩ := notice_eq d; rw [e]
@[simp] theorem mbxPush_ring (d : Device) (n : Nat) (hs : Bool) (c hi : Nat) : (d.mbxPush n hs c hi).ring = d.ring := by
  obtain ⟨_, _, _, e⟩ := mbxPush_eq d n hs c hi; rw [e]
@[simp] theorem startReeve_ring (d : Device) (n : Nat) (l : Option Nat) : (d.startReeve n l).ring = d.ring := by
  simp only [startReeve]; split <;> simp
@[simp] theorem notice_spare (d : Device) : d.notice.spare = d.spare := by
  obtain ⟨_, _, _, e⟩ := notice_eq d; rw [e]
@[simp] theorem mbxPush_spare (d : Device) (n : Nat) (hs : Bool) (c hi : Nat) : (d.mbxPush n hs c hi).spare = d.spare := by
  obtain ⟨_, _, _, e⟩ := mbxPush_eq d n hs c hi; rw [e]
@[simp] theorem startReeve_spare (d : Device) (n : Nat) (l : Option Nat) : (d.startReeve n l).spare = d.spare := by
  simp only [startReeve]; split <;> simp
@[simp] theorem notice_trace (d : Device) : d.notice.trace = d.trace := by
  obtain ⟨_, _, _, e⟩ := notice_eq d; rw [e]
@[simp] theorem mbxPush_trace (d : Device) (n : Nat) (hs : Bool) (c hi : Nat) : (d.mbxPush n hs c hi).trace = d.trace := by
  obtain ⟨_, _, _, e⟩ := mbxPush_eq d n hs c hi; rw [e]
@[simp] theorem startReeve_trace (d : Device) (n : Nat) (l : Option Nat) : (d.startReeve n l).trace = d.trace := by
  simp only [startReeve]; split <;> simp
@[simp] theorem notice_reeves (d : Device) : d.notice.reeves = d.reeves := by
  obtain ⟨_, _, _, e⟩ := notice_eq d; rw [e]
@[simp] theorem mbxPush_reeves (d : Device) (n : Nat) (hs : Bool) (c hi : Nat) : (d.mbxPush n hs c hi).reeves = d.reeves := by
  obtain ⟨_, _, _, e⟩ := mbxPush_eq d n hs c hi; rw [e]
@[simp] theorem startReeve_boxes (d : Device) (n : Nat) (l : Option Nat) : (d.startReeve n l).boxes = d.boxes := by
  simp only [startReeve]; split <;> simp
@[simp] theorem notice_hkdTurn (d : Device) : d.notice.hkdTurn = d.hkdTurn := by
  obtain ⟨_, _, _, e⟩ := notice_eq d; rw [e]
@[simp] theorem mbxPush_hkdTurn (d : Device) (n : Nat) (hs : Bool) (c hi : Nat) : (d.mbxPush n hs c hi).hkdTurn = d.hkdTurn := by
  obtain ⟨_, _, _, e⟩ := mbxPush_eq d n hs c hi; rw [e]
@[simp] theorem startReeve_hkdTurn (d : Device) (n : Nat) (l : Option Nat) : (d.startReeve n l).hkdTurn = d.hkdTurn := by
  simp only [startReeve]; split <;> simp
@[simp] theorem notice_ports (d : Device) : d.notice.ports = d.ports := by
  obtain ⟨_, _, _, e⟩ := notice_eq d; rw [e]
@[simp] theorem mbxPush_ports (d : Device) (n : Nat) (hs : Bool) (c hi : Nat) : (d.mbxPush n hs c hi).ports = d.ports := by
  obtain ⟨_, _, _, e⟩ := mbxPush_eq d n hs c hi; rw [e]
@[simp] theorem startReeve_ports (d : Device) (n : Nat) (l : Option Nat) : (d.startReeve n l).ports = d.ports := by
  simp only [startReeve]; split <;> simp
@[simp] theorem notice_snapT (d : Device) : d.notice.snapT = d.snapT := by
  obtain ⟨_, _, _, e⟩ := notice_eq d; rw [e]
@[simp] theorem mbxPush_snapT (d : Device) (n : Nat) (hs : Bool) (c hi : Nat) : (d.mbxPush n hs c hi).snapT = d.snapT := by
  obtain ⟨_, _, _, e⟩ := mbxPush_eq d n hs c hi; rw [e]
@[simp] theorem startReeve_snapT (d : Device) (n : Nat) (l : Option Nat) : (d.startReeve n l).snapT = d.snapT := by
  simp only [startReeve]; split <;> simp
@[simp] theorem notice_snapAt (d : Device) : d.notice.snapAt = d.snapAt := by
  obtain ⟨_, _, _, e⟩ := notice_eq d; rw [e]
@[simp] theorem mbxPush_snapAt (d : Device) (n : Nat) (hs : Bool) (c hi : Nat) : (d.mbxPush n hs c hi).snapAt = d.snapAt := by
  obtain ⟨_, _, _, e⟩ := mbxPush_eq d n hs c hi; rw [e]
@[simp] theorem startReeve_snapAt (d : Device) (n : Nat) (l : Option Nat) : (d.startReeve n l).snapAt = d.snapAt := by
  simp only [startReeve]; split <;> simp
@[simp] theorem notice_grants (d : Device) : d.notice.grants = d.grants := by
  obtain ⟨_, _, _, e⟩ := notice_eq d; rw [e]
@[simp] theorem mbxPush_grants (d : Device) (n : Nat) (hs : Bool) (c hi : Nat) : (d.mbxPush n hs c hi).grants = d.grants := by
  obtain ⟨_, _, _, e⟩ := mbxPush_eq d n hs c hi; rw [e]
@[simp] theorem startReeve_grants (d : Device) (n : Nat) (l : Option Nat) : (d.startReeve n l).grants = d.grants := by
  simp only [startReeve]; split <;> simp
@[simp] theorem notice_arbCfg (d : Device) : d.notice.arbCfg = d.arbCfg := by
  obtain ⟨_, _, _, e⟩ := notice_eq d; rw [e]
@[simp] theorem mbxPush_arbCfg (d : Device) (n : Nat) (hs : Bool) (c hi : Nat) : (d.mbxPush n hs c hi).arbCfg = d.arbCfg := by
  obtain ⟨_, _, _, e⟩ := mbxPush_eq d n hs c hi; rw [e]
@[simp] theorem startReeve_arbCfg (d : Device) (n : Nat) (l : Option Nat) : (d.startReeve n l).arbCfg = d.arbCfg := by
  simp only [startReeve]; split <;> simp
@[simp] theorem notice_power (d : Device) : d.notice.power = d.power := by
  obtain ⟨_, _, _, e⟩ := notice_eq d; rw [e]
@[simp] theorem mbxPush_power (d : Device) (n : Nat) (hs : Bool) (c hi : Nat) : (d.mbxPush n hs c hi).power = d.power := by
  obtain ⟨_, _, _, e⟩ := mbxPush_eq d n hs c hi; rw [e]
@[simp] theorem startReeve_power (d : Device) (n : Nat) (l : Option Nat) : (d.startReeve n l).power = d.power := by
  simp only [startReeve]; split <;> simp
@[simp] theorem notice_gate (d : Device) : d.notice.gate = d.gate := by
  obtain ⟨_, _, _, e⟩ := notice_eq d; rw [e]
@[simp] theorem mbxPush_gate (d : Device) (n : Nat) (hs : Bool) (c hi : Nat) : (d.mbxPush n hs c hi).gate = d.gate := by
  obtain ⟨_, _, _, e⟩ := mbxPush_eq d n hs c hi; rw [e]
@[simp] theorem startReeve_gate (d : Device) (n : Nat) (l : Option Nat) : (d.startReeve n l).gate = d.gate := by
  simp only [startReeve]; split <;> simp
@[simp] theorem notice_dbg (d : Device) : d.notice.dbg = d.dbg := by
  obtain ⟨_, _, _, e⟩ := notice_eq d; rw [e]
@[simp] theorem mbxPush_dbg (d : Device) (n : Nat) (hs : Bool) (c hi : Nat) : (d.mbxPush n hs c hi).dbg = d.dbg := by
  obtain ⟨_, _, _, e⟩ := mbxPush_eq d n hs c hi; rw [e]
@[simp] theorem startReeve_dbg (d : Device) (n : Nat) (l : Option Nat) : (d.startReeve n l).dbg = d.dbg := by
  simp only [startReeve]; split <;> simp

@[simp] theorem takeFree_snd (d : Device) (n : Nat) : (d.takeFree n).2 = { d with free := d.free + 1 } := rfl
@[simp] theorem capture_power (d : Device) (a : Nat) (b : Option Nat) (c e : Nat) : (d.capture a b c e).power = d.power := by
  simp only [capture]; repeat' split
  all_goals simp
@[simp] theorem resumeReeve_power (d : Device) (n : Nat) : (d.resumeReeve n).power = d.power := by
  simp only [resumeReeve]; split <;> simp [traceReeve]
@[simp] theorem setLevel_power (d : Device) (a b : Nat) : (d.setLevel a b).power = d.power := by
  have h : ∀ d : Device, d.belowLevel.power = d.power := by
    intro d; simp only [belowLevel]; (repeat' split) <;> simp [foldl_keeps Device.power _ (fun d n => (upReeve_power _ _ _).trans (resumeReeve_power d n))]
  simp only [setLevel]; split <;> simp [h]
@[simp] theorem dropTransfer_power (d : Device) : d.dropTransfer.power = d.power := by
  simp only [dropTransfer]; split <;> simp [setSpareBank]
@[simp] theorem closeSession_power (d : Device) : d.closeSession.power = d.power := by
  simp only [closeSession]; split <;> simp
@[simp] theorem tamperNow_power (d : Device) : d.tamperNow.power = d.power := by
  simp [tamperNow, dropLevel, wipeStrongroom]
@[simp] theorem logSpare_power (d : Device) (a b c e : Nat) : (d.logSpare a b c e).power = d.power := by
  simp only [logSpare]; split <;> simp
@[simp] theorem retestHamlet_power (d : Device) (h : Nat) (p : Bool) : (d.retestHamlet h p).power = d.power := by
  simp only [retestHamlet]; repeat' split
  · rfl
  · refine foldl_keeps Device.power _ ?_ _ _; intro _ _; rfl
  · simp only [logSpare_power, event_power]
    refine foldl_keeps Device.power _ ?_ _ _; intro _ _; rfl
@[simp] theorem bootBank_power (d : Device) (bad : Bool) : (d.bootBank bad).power = d.power := by
  simp only [bootBank]; repeat' split
  all_goals simp
@[simp] theorem stockIn_power (d : Device) : (d.stockIn).power = d.power := rfl
@[simp] theorem setStacks_power (d : Device) (st : Nat) : (d.setStacks st).power = d.power := by
  simp [setStacks, foldl_keeps Device.power, apply_ite Device.power]
@[simp] theorem loseStack_power (d : Device) (k : Nat) : (d.loseStack k).power = d.power := by
  simp only [loseStack]; split <;> simp
@[simp] theorem reroute_power (d : Device) : (d.reroute).power = d.power := by
  simp only [reroute]; split <;> simp
@[simp] theorem floodTo_power (d : Device) (src : Nat) (links : List (Nat × Nat)) (age : Nat) (but : Option Nat) : (d.floodTo src links age but).power = d.power := by
  simp [floodTo, foldl_keeps Device.power, apply_ite Device.power]
@[simp] theorem announce_power (d : Device) : (d.announce).power = d.power := by
  simp only [announce]; split <;> simp
@[simp] theorem portUp_power (d : Device) (p : Nat) : (d.portUp p).power = d.power := by
  simp only [portUp]; split <;> simp

end Sys2Proof.Machine.Device
end

