-- ==== Sys2Proof/Laws/Step.lean ====
section
/-! SUPPORT. Every command acts on the device alone. -/
namespace Sys2Proof.Machine

/-- What a command does is a function of the device. -/
theorem exec_acts (c : Instr) : ∃ f : Device → Device, ∀ s : State, exec c s = s.act f := by
  cases c <;> (dsimp only [exec]; exact ⟨_, fun _ => rfl⟩)

end Sys2Proof.Machine
end

