-- ==== Sys2Proof/Laws/Access.lean ====
section
/-! SUPPORT. An access that can reach a register acts on it. -/
namespace Sys2Proof.Machine.Device

theorem pageNo_lt {kind inst : Nat} (h : pageOf (pageNo kind inst) = some (kind, inst)) (hk : kind ≤ 19) : pageNo kind inst < 784 := by
  generalize pageNo kind inst = n at h
  by_contra hn
  simp only [pageOf] at h
  iterate 14 rw [if_neg (by omega)] at h
  repeat' split at h
  all_goals simp [kMbxReeve] at h
  all_goals omega

/-- An access of a register page counts at the arbiter of that page, whichever register it is. -/
theorem grantedAt_page {d : Device} {who : Initiator} {kind inst off view : Nat} (ho : off < 0x1000) :
    d.grantedAt who (.page (regKey kind inst off + view % 4 * 0x1000)) = paged d who kind inst := by
  have e : (regKey kind inst off + view % 4 * 0x1000) / 0x4000 = regKey kind inst 0 / 0x4000 := by simp only [regKey]; omega
  simp only [paged, grantedAt, Target.arbiter, e]

/-- A host's access counts at no arbiter of the matrix. -/
theorem paged_host (d : Device) (p fn kind inst : Nat) : paged d (.host p fn) kind inst = d := by
  simp only [paged, grantedAt, highClass]
  cases (Target.page (regKey kind inst 0)).arbiter <;> rfl

@[simp] theorem paged_rg (d : Device) (who : Initiator) (kind inst k i o : Nat) : (paged d who kind inst).rg k i o = d.rg k i o := rfl

/-- A write that can reach a register of a page, but the DBG page or a push to a logical reeve that is down, is that register's write. -/
theorem writeReg_reaches {d : Device} {who : Initiator} {kind inst off v : Nat} (view : Nat) (h : CanWrite d who kind inst off v = true) (hv : view < 4)
    (h14 : kind ≠ 14 ∨ off < 0x028) (h13 : ¬ (kind = 13 ∧ off = 0x044)) : d.writeReg who kind inst off view v =
      (paged d who kind inst).regWrite who kind inst off view v := by
  simp only [CanWrite, Bool.and_eq_true, decide_eq_true_eq, Bool.not_eq_true'] at h
  obtain ⟨⟨⟨⟨hp, hi⟩, ho⟩, hd⟩, hw⟩ := h
  have a1 : (regKey kind inst off + view % 4 * 0x1000) / 0x4000 = pageNo kind inst := by simp only [regKey]; omega
  have a2 : (regKey kind inst off + view % 4 * 0x1000) % 0x4000 / 0x1000 = view := by simp only [regKey]; omega
  have a3 : (regKey kind inst off + view % 4 * 0x1000) % 0x1000 = off := by simp only [regKey]; omega
  have key : ∀ (d : Device) (w : Initiator), d.pageDown kind = false → d.pathTo w kind inst true = true → (viaMatrix w = true ∨ matrixOnly kind off v = false) →
      d.pageWrite w (regKey kind inst off + view % 4 * 0x1000) v = (.ok 0, d.regWrite w kind inst off view v) := by
    intro d w hd hpath hm
    simp only [pageWrite, a1, a2, a3, hp]
    rw [if_neg (by simp [hi, hpath]; intro e; rcases hm with hm | hm <;> simp_all), if_neg (by simp [hd]), if_neg (by tauto)]
    split
    · rcases h14 with h14 | h14
      · contradiction
      · subst_vars
        have hn : ¬ d.dbg.level < dbgNeed off := by simp only [dbgNeed]; rw [if_pos (by omega)]; omega
        simp only [dbgWrite]
        rw [if_neg hn, if_pos h14]
        have hz : inst = 0 := by simp [pageNo, pageOf] at hp; exact hp.symm
        subst hz
        simp only [regWrite, headerWrite, Nat.mod_mod]; rw [if_pos h14]
    · rfl
  cases who with
  | tally =>
    have hw : 3 ≤ d.power.step := by simpa [pathOpen] using hw
    simp only [writeReg]
    rw [if_neg (by omega), grantedAt_page ho, key (paged d .tally kind inst) .tally hd rfl (Or.inl rfl)]; rfl
  | hkd => exact absurd hw (by simp [pathOpen])
  | reeve n =>
    replace hw : 3 ≤ d.power.step ∧ d.pathTo (.reeve n) kind inst true = true := by simpa [pathOpen] using hw
    simp only [writeReg]
    rw [if_neg (by omega), grantedAt_page ho, key (paged d (.reeve n) kind inst) (.reeve n) hd hw.2 (Or.inl rfl)]; rfl
  | host p fn =>
    obtain ⟨⟨⟨⟨rfl, hk⟩, hmay⟩, hr⟩, hm⟩ : (((fn = 0 ∧ kind ≤ 19) ∧ d.hostMay p 0 true = true) ∧ d.ready = true) ∧ matrixOnly kind off v = false := by
      simpa [pathOpen] using hw
    have hl := pageNo_lt hp hk
    have hb : regKey kind inst off + view % 4 * 0x1000 + 4 ≤ barSize 0 0 := by simp only [regKey, barSize]; simp; omega
    simp only [writeReg]
    rw [if_pos ⟨hmay, hb⟩]
    simp only [bar0Write]
    rw [if_neg (by simp [hr]), if_neg (by simp), key d (.host p 0) hd (by simp [pathTo, hk]) (Or.inr hm), paged_host]

/-- A read that can reach a register of a page but the DBG page is that register's read, with the host's answer beside it. -/
theorem readReg_reaches {d : Device} {who : Initiator} {kind inst off : Nat} (h : CanRead d who kind inst off = true) (h14 : kind ≠ 14) :
    ∃ o, let e := ((paged d who kind inst).regRead who kind inst off false).2
      (d.readReg who kind inst off 0).2 = { e with out := e.out ++ o } := by
  simp only [CanRead, Bool.and_eq_true, decide_eq_true_eq, Bool.not_eq_true'] at h
  obtain ⟨⟨⟨⟨hp, hi⟩, ho⟩, hd⟩, hw⟩ := h
  have a1 : (regKey kind inst off + 0 % 4 * 0x1000) / 0x4000 = pageNo kind inst := by simp only [regKey]; omega
  have a2 : (regKey kind inst off + 0 % 4 * 0x1000) % 0x4000 / 0x1000 = 0 := by simp only [regKey]; omega
  have a3 : (regKey kind inst off + 0 % 4 * 0x1000) % 0x1000 = off := by simp only [regKey]; omega
  have key : ∀ (d : Device) (w : Initiator), d.pageDown kind = false → d.pathTo w kind inst false = true → (viaMatrix w = true ∨ kind ≠ 5) →
      d.pageRead w (regKey kind inst off + 0 % 4 * 0x1000) false = (.ok (d.regRead w kind inst off false).1, (d.regRead w kind inst off false).2) := by
    intro d w hd hpath hm
    simp only [pageRead, a1, a2, a3, hp]
    rw [if_neg (by simp [hi, hpath]), if_neg (by simp [hd]), if_neg h14, if_neg (by rcases hm with hm | hm <;> simp [hm])]
    simp
  cases who with
  | tally =>
    have hw : 3 ≤ d.power.step := by simpa using hw
    refine ⟨[], ?_⟩
    simp only [readReg]
    rw [if_neg (by omega), grantedAt_page ho, key (paged d .tally kind inst) .tally hd rfl (Or.inl rfl)]; simp [noted]
  | hkd => simp at hw
  | reeve n =>
    replace hw : 3 ≤ d.power.step ∧ d.pathTo (.reeve n) kind inst false = true := by simpa using hw
    refine ⟨[], ?_⟩
    simp only [readReg]
    rw [if_neg (by omega), grantedAt_page ho, key (paged d (.reeve n) kind inst) (.reeve n) hd hw.2 (Or.inl rfl)]; simp [noted]
  | host p fn =>
    obtain ⟨⟨⟨⟨rfl, hk⟩, hmay⟩, hr⟩, h5⟩ : (((fn = 0 ∧ kind ≤ 19) ∧ d.hostMay p 0 false = true) ∧ d.ready = true) ∧ kind ≠ 5 := by simpa using hw
    have hl := pageNo_lt hp hk
    have hb : regKey kind inst off + 0 % 4 * 0x1000 + 4 ≤ barSize 0 0 := by simp only [regKey, barSize]; simp; omega
    simp only [readReg]
    rw [if_pos ⟨hmay, hb⟩]
    simp only [bar0Read]
    rw [if_neg (by simp [hr]), if_pos trivial, key d (.host p 0) hd (by simp [pathTo, hk]) (Or.inr h5), paged_host]
    exact ⟨_, rfl⟩

end Sys2Proof.Machine.Device
end

