-- ==== Sys2Proof/Laws/Lanes.lean ====
section
/-! SUPPORT. Lanes: what a lane of a composed element holds, how the model's wrap and sign read as core integer arithmetic, and what
a computed member leaves. -/
namespace Sys2Proof.Machine

theorem w_pos (i : SInstr) : 8 ≤ i.w := by
  unfold SInstr.w; split_ifs <;> omega

theorem laneOf_lt (w e j : Nat) : laneOf w e j < 2 ^ w := Nat.mod_lt _ (Nat.two_pow_pos w)

/-- Lane `k` of an element made of lanes is that lane. -/
theorem laneOf_ofLanes (w : Nat) : ∀ (l : List Nat) (k : Nat) (h : k < l.length), laneOf w (ofLanes w l) k = l[k] % 2 ^ w
  | v :: vs, 0, _ => by simp [laneOf, field, ofLanes, Nat.add_mul_mod_self_left]
  | v :: vs, k + 1, h => by
    have ih := laneOf_ofLanes w vs k (by simpa using h)
    simp only [laneOf, field, Nat.shiftRight_eq_div_pow, ofLanes, List.getElem_cons_succ] at ih ⊢
    rw [← ih, Nat.succ_mul, Nat.add_comm (k * w) w, Nat.pow_add, ← Nat.div_div_eq_div_mul, Nat.add_mul_div_left _ _ (Nat.two_pow_pos w),
      Nat.div_eq_of_lt (Nat.mod_lt _ (Nat.two_pow_pos w)), Nat.zero_add]

theorem toSigned_bmod {w v : Nat} (hw : 1 ≤ w) (hv : v < 2 ^ w) : toSigned w v = Int.bmod v (2 ^ w) := by
  obtain ⟨m, rfl⟩ : ∃ m, w = m + 1 := ⟨w - 1, by omega⟩
  have e : 2 ^ (m + 1) = 2 * 2 ^ m := by rw [Nat.pow_succ]; omega
  have ei : (2 : Int) ^ (m + 1) = 2 * ((2 ^ m : Nat) : Int) := by rw [Int.pow_succ]; push_cast; omega
  have hm : 0 < 2 ^ m := Nat.two_pow_pos m
  rw [toSigned, Int.bmod_def, ei, Int.emod_eq_of_lt (by omega) (by exact_mod_cast hv), e]
  simp only [Nat.add_sub_cancel, e] at *
  push_cast
  split_ifs <;> omega

/-- A lane read as its type says. -/
theorem val_eq {c : LaneCtx} {v : Nat} (hw : 1 ≤ c.w) (hv : v < 2 ^ c.w) : c.val v = laneInt c.signed c.w v := by
  simp only [LaneCtx.val, laneInt, toSigned_bmod hw hv]

theorem wrapInt_lt (w : Nat) (x : Int) : wrapInt w x < 2 ^ w := by
  have h := Int.emod_lt_of_pos x (show (0 : Int) < 2 ^ w by positivity)
  have h0 := Int.emod_nonneg x (show (2 : Int) ^ w ≠ 0 by positivity)
  have : ((wrapInt w x : Nat) : Int) < ((2 ^ w : Nat) : Int) := by simp only [wrapInt, Int.toNat_of_nonneg h0]; exact_mod_cast h
  exact_mod_cast this

theorem wrapInt_int (w : Nat) (x : Int) : ((wrapInt w x : Nat) : Int) = x % 2 ^ w :=
  Int.toNat_of_nonneg (Int.emod_nonneg x (by positivity))

/-- What a lane holds after an exact result is fitted into it (R91). -/
theorem laneInt_wrapInt (sgn : Bool) (w : Nat) (x : Int) : laneInt sgn w (wrapInt w x) = if sgn then Int.bmod x (2 ^ w) else x % 2 ^ w := by
  cases sgn <;> simp only [laneInt, wrapInt_int, if_true, if_false, Bool.false_eq_true]
  have : ((2 ^ w : Nat) : Int) = 2 ^ w := by push_cast; rfl
  rw [← this, Int.emod_bmod]

theorem coded_flags (r : Result) : r.coded.flags = r.flags := by rw [Result.coded]

/-- A member computed: the device afterwards. -/
theorem runMember_eq {d : Device} {n code : Nat} {x : Cur} (h : CanCompute d n code x) (f : Opnd → Result) :
    d.runMember n code f = d.putStrip n x.ix { x.s with result := some (keptResult d n x (f (x.opnd (d.croft n)))) } := by
  obtain ⟨h1, h2, h3, h4, h5, h6⟩ := h
  rw [Device.runMember, h1]
  refine (if_pos ⟨h2, h3, by rw [h4]; rfl, by rw [h5]; decide, by rw [h6]; rfl⟩).trans ?_
  rw [keptResult, h2]

/-- An arm that acts on the device completes with what it leaves. -/
theorem does_act {c : Instr} {s : State} {f : Device → Device} {P : Device → Prop} (h : exec c s = s.act f) (hp : P (f s.dev)) : Does c s P :=
  ⟨_, h, rfl, hp⟩
/-- A stream opcode at a member it can compute. -/
theorem computes {c : Instr} {s : State} {n code : Nat} {x : Cur} {f : Opnd → Result} {P : Result → Prop}
    (h : exec c s = s.act (fun d => d.runMember n code f)) (hc : CanCompute s.dev n code x) (hp : P (f (x.opnd (s.dev.croft n)))) : Computes c s n x P :=
  does_act h ⟨_, hp, runMember_eq hc f⟩
/-- Lane `k` of a result formed lane by lane. -/
theorem laneWise_lane (o : Opnd) (f : LaneCtx → LaneIn → LaneOut) (g : LaneOut → Nat) (w : Nat) {k : Nat} (hk : k < o.i.lanes) :
    laneOf w (ofLanes w (((List.range o.i.lanes).map (fun k => if o.act.testBit k then f (o.ctx k) (o.lane k) else { lo := 0 })).map g)) k =
      g (if o.act.testBit k then f (o.ctx k) (o.lane k) else { lo := 0 }) % 2 ^ w := by
  rw [laneOf_ofLanes _ _ _ (by simpa using hk)]; simp

theorem foldl_or_bit {α : Type} (g : α → Nat) (b : Nat) : ∀ (l : List α) (z : Nat),
    (l.foldl (fun s x => s ||| g x) z).testBit b = (z.testBit b || l.any (fun x => (g x).testBit b))
  | [], z => by simp
  | a :: l, z => by simp [foldl_or_bit g b l, Bool.or_assoc]

/-- A flag of a result formed lane by lane. -/
theorem laneWise_flag (o : Opnd) (f : LaneCtx → LaneIn → LaneOut) (b : Nat) :
    (laneWise f o).flags.testBit b = (List.range o.i.lanes).any (fun k => o.act.testBit k && (f (o.ctx k) (o.lane k)).flags.testBit b) := by
  simp only [laneWise, foldl_or_bit, Nat.zero_testBit, Bool.false_or, List.any_map]
  congr 1; funext k; simp only [Function.comp]; split <;> simp_all

end Sys2Proof.Machine
end

