-- ==== Sys2Proof/Laws/Reeve.lean ====
section
/-! SUPPORT. The reeve's step: what an instruction command leaves is what its operation leaves, and what decoding bounds. -/
namespace Sys2Proof.Machine

theorem signExtend_lt (w v : Nat) : signExtend w 64 v < 2 ^ 64 := wrapInt_lt 64 _

theorem decode16_imm {h : Nat} {i : RInstr} (e : decode16 h = some i) : i.imm < 2 ^ 64 := by
  have a := signExtend_lt 6 (field h 5 6)
  have b := signExtend_lt 11 (field h 5 11)
  have c : field h 5 6 < 2 ^ 6 := Nat.mod_lt _ (by decide)
  simp only [decode16] at e
  repeat' split at e
  all_goals simp only [Option.some.injEq, reduceCtorEq] at e
  all_goals (subst e; simp only; omega)

theorem decode32_imm {h : Nat} {i : RInstr} (e : decode32 h = some i) : i.imm < 2 ^ 64 := by
  have a := signExtend_lt 15 (field h 17 15)
  have b := signExtend_lt 20 (field h 12 20)
  have c : field h 17 15 < 2 ^ 15 := Nat.mod_lt _ (by decide)
  simp only [decode32] at e
  repeat' split at e
  all_goals simp only [Option.some.injEq, reduceCtorEq, Option.map_eq_some_iff] at e
  all_goals first
    | (subst e; simp only; omega)
    | (obtain ⟨_, _, e⟩ := e; subst e; simp)

/-- The immediate of a fetched instruction is a 64-bit pattern. -/
theorem fetchAt_imm {d d1 : Device} {n pc ecc : Nat} {i : RInstr} (e : d.fetchAt n pc ecc = (.instr (some i), d1)) : i.imm < 2 ^ 64 := by
  simp only [Device.fetchAt] at e
  repeat' split at e
  all_goals simp only [Prod.mk.injEq, reduceCtorEq, false_and, Device.Fetched32.instr.injEq] at e
  · exact decode16_imm e.1
  · exact decode32_imm e.1

/-- An instruction command at a reeve that fetches that instruction leaves what its operation does. -/
theorem reeve_does {c : Instr} {s : State} {n ecc : Nat} {op : ROp} {i : RInstr} {d1 : Device}
    (h : exec c s = s.act (fun d => d.reeveStep n op ecc)) (hf : Fetches s.dev n op i d1) {e : Ending} {d2 : Device} (hr : d1.runOp n i ecc = (e, d2)) :
    Does c s (fun t => t = d2.finishInstr n i.len (op = .aadd || op = .aswp) e) := by
  obtain ⟨h1, h2, h3, h4⟩ := hf
  refine ⟨_, h, rfl, ?_⟩
  simp [Device.reeveStep, h1, h2, h3, h4, hr]

end Sys2Proof.Machine
end

