-- ==== Sys2Proof/Certificates/Slice0/Obligations.lean ====
section
/-! DEFINITION. The statements for the provers, each with the rules of the spec it formalises. -/
open Sys2Proof Sys2Proof.Machine

/-- The command at the front of the queue is executed on the state with the queue's rest. The queue is the model's (log entry 33). -/
def Obligations.StepRunsTheFront : Prop :=
  ∀ (c : Instr) (rest : List Instr) (s : State), s.pending = c :: rest → step s = exec c { s with pending := rest }

/-- The idle step (log entry 33, the model's choice), R401 and R548. -/
def Obligations.IdleStepAdvancesPhase : Prop :=
  ∀ s : State, s.pending = [] →
    (s.dev.power.vnw = false → step s = .next s) ∧
    (s.dev.bell.phase = 2 ^ 24 - 1 → step s = .next s) ∧
    (s.dev.power.vnw = true → s.dev.bell.phase < 2 ^ 24 - 1 → ∃ t, step s = .next t ∧ t.pending = [] ∧
      t.dev.bellNow = s.dev.bellNow + 1 ∧ t.dev.bell.stroke = s.dev.bell.stroke ∧
      (s.dev.bell.stroke ≠ lastStroke → t.dev = { s.dev with bell := { s.dev.bell with phase := s.dev.bell.phase + 1 } }) ∧
      (s.dev.bell.stroke = lastStroke → s.dev.bell.phase = 2 ^ 24 - 2 → t.dev.bell.state = 3))

/-- No command stops the machine, and none touches the queue. -/
def Obligations.EveryCommandCompletes : Prop :=
  ∀ (c : Instr) (s : State), ∃ t, exec c s = .next t ∧ t.pending = s.pending

/-- Every queue drains in order, and a command's effect on the device does not depend on what waits behind it (log entry 33). -/
def Obligations.QueueDrainsInOrder : Prop :=
  (∀ (cs : List Instr) (d : Device), ∃ e : Device,
    Reaches { dev := d, pending := cs } { dev := e, pending := [] } ∧
    cs.foldlM (fun (s : State) c => match exec c s with | .next t => some t | _ => none) ({ dev := d, pending := [] } : State) =
      some { dev := e, pending := [] }) ∧
  (∀ (c : Instr) (d e : Device) (q r : List Instr),
    exec c { dev := d, pending := q } = .next { dev := e, pending := q } → exec c { dev := d, pending := r } = .next { dev := e, pending := r })

/-- Reset: registers at the reset values of their descriptions, everything else empty. -/
def Obligations.ResetLeavesTheModuleEmpty : Prop :=
  State.reset.pending = [] ∧ State.reset.dev.mem = [] ∧ State.reset.dev.poison = [] ∧ State.reset.dev.out = [] ∧ State.reset.dev.elog = [] ∧
  State.reset.dev.jobs = [] ∧ (∀ ch, (State.reset.dev.chan ch).st = .off) ∧
  (∀ r ∈ ([(1, 0x050, 0), (2, 0x048, 0x1000), (3, 0x040, 4), (3, 0x044, 0x1F4), (5, 0x040, 3), (6, 0x040, 6), (6, 0x044, 0x10000), (6, 0x048, 0xA),
      (7, 0x040, 0x4020), (8, 0x040, 7), (8, 0x054, 0x300C8), (9, 0x048, 0x64), (10, 0x044, 0x64), (11, 0x040, 1), (14, 0x048, 1), (15, 0x040, 0x30),
      (16, 0x040, 0x4000100), (16, 0x048, 0x118), (17, 0x040, 0x4000100), (17, 0x044, 0x103E8), (19, 0x040, 0), (20, 0x044, 0x4000100)] :
      List (Nat × Nat × Nat)), State.reset.dev.rg r.1 0 r.2.1 = r.2.2) ∧
  State.reset.dev.bellNow = 0 ∧ State.reset.dev.bellFree = true ∧ State.reset.dev.power.vnw = false ∧ State.reset.dev.power.step = 0

/-- The invariant of MemoryStaysCanonical holds at reset. -/
def Obligations.ResetMemoryCanonical : Prop := GoodMemory State.reset

/-- Every step keeps memory in canonical form. -/
def Obligations.MemoryStaysCanonical : Prop :=
  ∀ s : State, GoodMemory s → ∃ t, step s = .next t ∧ GoodMemory t

/-- Tables 16-3 and 16-4, R432, R433, R383, R452: what each step of a start does. -/
def Obligations.StartUpSteps : Prop :=
  (∀ s : State, s.dev.power.vnw = false → Does .insertion s (fun t =>
    t.power.vnw = true ∧ t.power.vsaf = true ∧ t.power.step = 1 ∧ t.rg 15 0 0x04C = 0 ∧ t.gate.wiping = true)) ∧
  (∀ s : State, s.dev.starting 1 = true → s.dev.power.present = true → s.dev.blocking = false → 0x10 ∉ s.dev.power.causes →
    Does (.switchClose false false) s (fun t => t.power.step = 2 ∧ t.power.switchFault = false ∧ t.fld 9 0 0x00C 3 2 = 3)) ∧
  (∀ (s : State) (a b : Bool), s.dev.starting 1 = true → s.dev.power.present = true → s.dev.blocking = false → 0x10 ∉ s.dev.power.causes →
    (a = true ∨ b = true) → Does (.switchClose a b) s (fun t =>
      t = { s.dev with power := { s.dev.power with switchFault := true, causes := s.dev.power.causes ++ [0x10] } })) ∧
  (∀ s : State, s.dev.starting 2 = true → Does .pwrgdAssert s (fun t => t.power.pwrgd = true ∧ t.power.step = 3)) ∧
  (∀ (s : State) (p : Nat), p < 2 → s.dev.power.pwrgd = true → Does (.perstRelease p) s (fun t =>
    t = s.dev.setHost p { s.dev.host p with perst := false })) ∧
  (∀ (s : State) (p speed width : Nat) (flit : Bool), p < 2 → s.dev.power.pwrgd = true → (s.dev.host p).perst = false →
    s.dev.linkModeOk p speed width flit = true → (s.dev.host p).up = false → Does (.linkTrained p speed width flit) s (fun t =>
      (t.host p).up = true ∧ (t.host p).speed = speed ∧ (t.host p).width = width ∧ (t.host p).flit256 = flit ∧ t.regs = s.dev.regs)) ∧
  (∀ (s : State) (p speed width : Nat) (flit : Bool), p < 2 → s.dev.power.pwrgd = true → (s.dev.host p).perst = false →
    s.dev.linkModeOk p speed width flit = true → (s.dev.host p).up = true → flit = (s.dev.host p).flit256 →
    (s.dev.host p).speed ≠ speed ∨ (s.dev.host p).width ≠ width →
    Does (.linkTrained p speed width flit) s (fun t => (t.host p).speed = speed ∧ (t.host p).width = width ∧ (t.host p).flit256 = flit ∧
      (t.rg 6 p 0x010).testBit 1 = true ∧ t.chans = s.dev.chans ∧ t.jobs = s.dev.jobs)) ∧
  (∀ (s : State) (bad : Bool) (failed : List Nat), s.dev.starting 3 = true → s.dev.power.warm = false →
    Does (.firmwareLoaded bad failed) s (fun t => t.power.step = 4 ∧ t.spare.hamletFaults = [])) ∧
  (∀ (s : State) (bad : Bool) (failed : List Nat), s.dev.starting 3 = true → s.dev.power.warm = true →
    Does (.firmwareLoaded bad failed) s (fun t => t.power.step = 5 ∧ t.power.memActive = true)) ∧
  (∀ (s : State) (failed : List Nat), s.dev.starting 4 = true →
    Does (.hbmTrainingDone failed) s (fun t => t.power.step = 5 ∧ t.power.memActive = true ∧ t.spare.rows = [])) ∧
  (∀ (s : State) (k : Nat), s.dev.starting 4 = true → k < 8 → Does (.hbmTrainingDone [k]) s (fun t => t.stackState k = 4)) ∧
  (∀ (s : State) (ports : List Nat), s.dev.starting 5 = true → Does (.alnarTrainingDone ports) s (fun t => t.power.step = 6)) ∧
  (∀ s : State, s.dev.starting 6 = true → s.dev.gate.lifecycle ≠ 4 → s.dev.fld 1 0 0x00C 8 4 = 0 → s.dev.power.warm = false →
    Does .readySet s (fun t => t.power.step = 7 ∧ t.fld 1 0 0x00C 0 1 = 1 ∧ t.fld 9 0 0x00C 0 3 = 1 ∧ (t.rg 1 0 0x010).testBit 0 = true)) ∧
  (∀ (s : State) (n : Nat), 1 ≤ n → n ≤ 6 → s.dev.starting n = true →
    Does (.startStepTimeout (n + 1)) s (fun t => t.fld 1 0 0x00C 8 4 = n + 1 ∧ t.power.step = n))

/-- R27 to R35, R396, R398, R434, R490: resets of the module, of a port and of a function. -/
def Obligations.ResetsOfModuleAndPorts : Prop :=
  (∀ (s : State) (who : Initiator), CanWrite s.dev who 1 0 0x054 (0xC300 + 1) = true → s.dev.power.warming = false → s.dev.power.step = 7 →
    s.dev.power.standClass = 0 → s.dev.fld 9 0 0x00C 0 3 ≠ 3 → Does (.glbResetWarm who (0xC300 + 1)) s (fun t =>
      t.power.step = 3 ∧ t.power.warm = true ∧ t.power.memActive = false ∧ t.jobs = [] ∧ t.boxes = [] ∧ t.ports = [] ∧
      t.gate.slots = s.dev.gate.slots ∧ t.gate.lifecycle = s.dev.gate.lifecycle ∧ t.bell = s.dev.bell)) ∧
  (∀ (s : State) (who : Initiator) (v : Nat), v < 2 ^ 32 → CanWrite s.dev who 1 0 0x054 v = true → field v 0 1 = 1 → field v 8 8 ≠ 0xC3 →
    s.dev.rg 1 0 0x024 / 2 ^ 31 = 0 → Does (.glbResetWarm who v) s (fun t =>
      t = (paged s.dev who 1 0).setRg 1 0 0x024 (2 ^ 31 + 5 + 0x054 * 2 ^ 8))) ∧
  (∀ (s : State) (p : Nat), p < 2 → (s.dev.host p).up = true → s.dev.resetUnderWay = false → ∀ c ∈ [Instr.linkDown p, Instr.hotReset p], Does c s (fun t =>
    (t.host p).up = false ∧ (t.host p).resetting = true ∧ (t.rg 6 p 0x010).testBit 0 = true ∧ (t.host (1 - p)).up = (s.dev.host (1 - p)).up)) ∧
  (∀ (s : State) (p : Nat), p < 2 → (s.dev.host p).up = true → s.dev.resetUnderWay = true →
    (∀ c ∈ [Instr.linkDown p, Instr.hotReset p], Does c s (fun t => t = s.dev.setHost p { perst := (s.dev.host p).perst, resetting := true })) ∧
    (∀ c ∈ [Instr.flrPf p, Instr.flrVf p 1], Does c s (fun t => t = s.dev))) ∧
  (∀ (s : State) (p : Nat), p < 2 → (s.dev.host p).up = true → Does (.ideIntegrityFailure p) s (fun t =>
    (t.host p).up = false ∧ (t.host p).resetting = true ∧ (t.rg 6 p 0x010).testBit 4 = true ∧ (t.host (1 - p)).up = (s.dev.host (1 - p)).up)) ∧
  (∀ (s : State) (p : Nat), p < 2 → (s.dev.host p).up = true → s.dev.resetUnderWay = false → Does (.flrPf p) s (fun t =>
    (t.host p).up = true ∧ (t.host p).speed = (s.dev.host p).speed ∧ (t.host p).busMaster = [] ∧ (t.host p).msixEn = [] ∧ (t.host p).vfEnable = false ∧
    (t.rg 6 p 0x010).testBit 5 = true)) ∧
  (∀ (s : State) (p fn : Nat), p < 2 → (s.dev.host p).up = true → fn ≠ 0 → s.dev.fnEnabled p fn = true → s.dev.resetUnderWay = false →
    Does (.flrVf p fn) s (fun t =>
      (∀ k ∈ (t.host p).msix, k.1 / 2048 ≠ fn) ∧ (∀ k ∈ (t.host p).pba, k / 2048 ≠ fn) ∧ (t.host p).busMaster = (s.dev.host p).busMaster ∧
      (t.host p).up = true ∧ (∀ c ∈ s.dev.portChannels p (some fn), (t.chan c.1).st = .off ∧ (t.chan c.1).hdr = (s.dev.chan c.1).hdr) ∧
      (t.rg 6 p 0x010).testBit 5 = true)) ∧
  (∀ (s : State) (p : Nat), p < 2 → (s.dev.host p).up = true → 0 ∈ (s.dev.host p).busMaster → Does (.portRecoveryStart p) s (fun t =>
    (∀ e ∈ t.chans, ∀ fn, e.2.hold = some (p, fn) → ¬ (fn ∈ (s.dev.host p).busMaster ∧ s.dev.fnEnabled p fn = true)) ∧
    t.chans.map (·.1) = s.dev.chans.map (·.1) ∧ t = { s.dev with chans := t.chans }))

/-- R16, R23, R26, R441 to R443, R532, R280: faults, detach and removal. -/
def Obligations.FaultsDetachAndRemoval : Prop :=
  (∀ (s : State) (dom : Nat), 4 ≤ dom → dom ≤ 9 → s.dev.power.vsaf = true → s.dev.power.step = 7 → s.dev.computeOff = false →
    s.dev.fld 10 0 0x00C 4 1 = 0 → Does (.clockFault dom) s (fun t => (t.rg 10 0 0x010).testBit 3 = true ∧ (t.rg 10 0 0x040).testBit 9 = true)) ∧
  (∀ (s : State) (kind inst off view : Nat), s.dev.pageDown kind = true → s.dev.rg kind inst 0x024 / 2 ^ 31 = 0 →
    Does (.crossingTimeout kind inst off view) s (fun t => t = s.dev.setRg kind inst 0x024 (2 ^ 31 + 4 + off % 4096 * 2 ^ 8 + view % 4 * 2 ^ 20))) ∧
  (∀ s : State, s.dev.power.reroute = false → 3 ≤ s.dev.power.step → Does .westEastLinkFailure s (fun t =>
    t.power = { s.dev.power with reroute := true } ∧ (t.rg 10 0 0x010).testBit 4 = true ∧ t.jobs = s.dev.jobs)) ∧
  (∀ s : State, s.dev.power.vnw = true → s.dev.power.step = 7 → s.dev.fld 9 0 0x00C 0 3 = 1 → s.dev.power.standby = false →
    s.dev.power.standClass = 0 → Does .latchOpen s (fun t =>
      t.power.detach = 2 ∧ t.fld 9 0 0x00C 0 3 = 3 ∧ t.cmp.testBit 3 = true ∧
      (∀ ch, (s.dev.chans.find? ch).isSome = true → (t.chan ch).acceptStopped = true))) ∧
  (∀ s : State, s.dev.power.detach = 2 → s.dev.power.standClass = 0 → Does .detachLimitExpiry s (fun t => t.power.detach = 3)) ∧
  (∀ s : State, s.dev.power.detach ≠ 0 → s.dev.draining = false → s.dev.power.standby = false → Does .safeReached s (fun t =>
    t.fld 9 0 0x00C 0 3 = 5 ∧ t.power.step = 0 ∧ t.power.vnw = s.dev.power.vnw ∧ t.jobs = [] ∧ t.chans = [])) ∧
  (∀ s : State, s.dev.power.vnw = true → s.dev.power.step = 0 → s.dev.cmp.testBit 3 = true → s.dev.fld 9 0 0x00C 0 3 = 5 → s.dev.power.causes = [] →
    Does .latchClosedInSafe s (fun t => t.power.step = 1 ∧ t.power.vnw = true ∧ t.cmp.testBit 3 = false)) ∧
  (∀ s : State, 2 ≤ s.dev.power.step → Does .presenceLost s (fun t =>
    t.power.present = false ∧ t.power.step = 0 ∧ t.power.pwrgd = false ∧ t.jobs = [] ∧ t.chans = [])) ∧
  (∀ s : State, 1 ≤ s.dev.power.step → Does .presenceGained s (fun t => ∃ v, t = { s.dev with
    free := s.dev.free + 1, power := { s.dev.power with present := true, slotPins := v } }))

/-- Table 16-6, R438 to R440, R443: comparators, wake sources and supply. -/
def Obligations.NightwatchActs : Prop :=
  (∀ (s : State), s.dev.power.vnw = true → ∀ e ∈ [(Instr.vinUv, 0), (Instr.vinOv, 1)], Does e.1 s (fun t =>
    t.cmp.testBit e.2 = true ∧ (t.rg 15 0 0x010).testBit e.2 = true ∧
    (2 ≤ s.dev.power.step → t.power.step = 0 ∧ t.power.pwrgd = false ∧ t.jobs = [] ∧ t.chans = []))) ∧
  (∀ s : State, s.dev.power.vnw = true → s.dev.cmp &&& 3 ≠ 0 → s.dev.power.step = 0 → s.dev.power.standby = false → s.dev.power.standClass = 0 →
    s.dev.fld 9 0 0x00C 0 3 = 0 → Does .vinRecovery s (fun t =>
      t.power.step = 1 ∧ t.rg 15 0 0x04C = 1 ∧ t.cmp.testBit 0 = false ∧ t.cmp.testBit 1 = false)) ∧
  (∀ (s : State), s.dev.power.vnw = true → ∀ e ∈ [(Instr.boardOt, 2), (Instr.coolLow, 7)], Does e.1 s (fun t =>
    t.cmp.testBit e.2 = true ∧ (2 ≤ s.dev.power.step → s.dev.power.vsaf = true → s.dev.fld 10 0 0x00C 4 1 = 0 →
      (t.rg 10 0 0x040).testBit 0xD = true ∧ 0xD ∈ t.power.causes ∧ t.power.standClass ≠ 0))) ∧
  (∀ (s : State), s.dev.power.vnw = true → s.dev.power.standby = false → ∀ e ∈ [(Instr.alnDetect, 4), (Instr.mgmtWake, 5), (Instr.bellLost, 6)],
    Does e.1 s (fun t => t.cmp.testBit e.2 = true ∧ (t.rg 15 0 0x010).testBit e.2 = true ∧ t.power = s.dev.power)) ∧
  (∀ (s : State), s.dev.power.vnw = true → s.dev.power.standby = true → s.dev.power.step = 0 → s.dev.blocking = false → s.dev.power.wake = none →
    ∀ e ∈ [(Instr.alnDetect, 4), (Instr.mgmtWake, 5)], s.dev.fld 15 0 0x040 e.2 1 = 1 → Does e.1 s (fun t =>
      t.power.step = 1 ∧ t.power.standby = false ∧ t.rg 15 0 0x04C = e.2)) ∧
  (∀ (s : State), s.dev.power.vnw = true → s.dev.power.standby = true → s.dev.blocking = true → s.dev.power.wake = none →
    ∀ e ∈ [(Instr.alnDetect, 4), (Instr.mgmtWake, 5)], s.dev.fld 15 0 0x040 e.2 1 = 1 → Does e.1 s (fun t => t.power = { s.dev.power with wake := some e.2 })) ∧
  (∀ (s : State), s.dev.rg 15 0 0x044 + s.dev.fld 15 0 0x048 0 8 * 2 ^ 32 ≤ s.dev.bell.stroke → s.dev.power.standby = true → s.dev.power.step = 0 →
    s.dev.blocking = false → s.dev.power.wake = none → s.dev.fld 15 0 0x040 8 1 = 1 → Does .wakeAtStroke s (fun t =>
      t.power.step = 1 ∧ t.power.standby = false ∧ t.rg 15 0 0x04C = 8)) ∧
  (∀ (s : State) (src : Nat), s.dev.power.vnw = true → s.dev.power.standby = true → s.dev.power.step = 0 → s.dev.cmp &&& 0x8F = 2 →
    s.dev.power.wake = some src → src < 9 → Does (.blockingComparatorRelease 1) s (fun t =>
      t.power.step = 1 ∧ t.power.standby = false ∧ t.rg 15 0 0x04C = src ∧ t.cmp &&& 0x8F = 0)) ∧
  (∀ s : State, Does .powerLoss s (fun t =>
    t.power.vnw = false ∧ t.power.vsaf = false ∧ t.power.step = 0 ∧ t.power.present = s.dev.power.present ∧ t.bellNow = 0 ∧ t.jobs = [] ∧ t.chans = [] ∧
    (∀ a, flashBase ≤ a → a < sramBase → t.mem.byte a = s.dev.mem.byte a)))

/-- R180, R436 to R438, R444, R445, R471: power states and steps. -/
def Obligations.PowerStatesAndSteps : Prop :=
  (∀ (s : State) (who : Initiator), CanWrite s.dev who 9 0 0x040 1 = true → s.dev.fld 9 0 0x00C 0 3 = 1 → (∀ e ∈ s.dev.chans, e.2.st = .off) →
    Does (.quiet who) s (fun t => t.fld 9 0 0x00C 0 3 = 2 ∧ t.power = { s.dev.power with memActive := false } ∧ t.mem = s.dev.mem)) ∧
  (∀ (s : State) (who : Initiator), CanWrite s.dev who 9 0 0x040 1 = true → s.dev.fld 9 0 0x00C 0 3 = 1 → (∃ e ∈ s.dev.chans, e.2.st ≠ .off) →
    Does (.quiet who) s (fun t => (t.rg 9 0 0x010).testBit 3 = true ∧ t.power = s.dev.power ∧ t.fld 9 0 0x00C 0 3 = 1)) ∧
  (∀ (s : State) (who : Initiator), CanWrite s.dev who 9 0 0x040 2 = true → s.dev.fld 9 0 0x00C 0 3 = 2 → Does (.wake who) s (fun t =>
    t.fld 9 0 0x00C 0 3 = 1 ∧ t.power = { s.dev.power with memActive := true } ∧
    (∀ a, t.mem.byte (windowBase + a) = if granaryBase ≤ a ∧ a < granaryBase + granarySize then 0 else s.dev.mem.byte (windowBase + a)))) ∧
  (∀ (s : State) (who : Initiator), CanWrite s.dev who 9 0 0x040 3 = true → viaMatrix who = true → s.dev.blocking = false → s.dev.fld 9 0 0x00C 0 3 = 1 →
    s.dev.chans = [] → s.dev.jobs = [] → s.dev.power.wake = none → Does (.standby who) s (fun t =>
      t.power.standby = true ∧ t.power.step = 0 ∧ t.power.vsaf = false ∧ t.power.vnw = s.dev.power.vnw)) ∧
  (∀ (s : State) (h : Nat), h < 16 → (∀ n, 17 * h ≤ n → n < 17 * h + 17 → (s.dev.croft n).strips = []) → h ∉ s.dev.power.gated → 4 ≤ s.dev.power.step →
    Does (.hamletClockGating h) s (fun t => t = { s.dev with power := { s.dev.power with gated := s.dev.power.gated ++ [h] } })) ∧
  (∀ (s : State) (rail unit : Nat), rail < 2 → 3 ≤ s.dev.power.step → s.dev.spare.phases = [] →
    Does (.phaseShed rail unit) s (fun t => t.fld 9 0 0x00C 5 1 = 1 ∧ t.phasesIn rail = 19 ∧ t.spare.phases.get 0 (4 + rail) = 1 ∧ t.phasesIn (1 - rail) = 20)) ∧
  (∀ (s : State) (die : Nat), die < 2 → s.dev.fld 1 0 0x040 0 2 = 0 → s.dev.power.step = 7 → 600 < s.dev.clockOf die → Does (.thermalStepDown die) s (fun t =>
    t.clockOf die = s.dev.clockOf die - 50 ∧ t.clockOf (1 - die) = s.dev.clockOf (1 - die) ∧ t.fld 9 0 0x00C (6 + die) 1 = 1)) ∧
  (∀ (s : State) (mhz : Nat), s.dev.fld 1 0 0x040 0 2 ≠ 1 → s.dev.power.step = 7 → Does (.powerLimitStep mhz) s (fun t =>
    t.fld 9 0 0x00C 5 1 = 1 ∧ (∀ die < 2, t.clockOf die = min (s.dev.clockOf die) (max 600 (s.dev.clockOf die - mhz / 50 * 50))))) ∧
  (∀ (s : State) (cool : Bool), s.dev.power.step = 7 → s.dev.power.standClass = 0 → s.dev.fld 1 0 0x040 0 2 = 0 → s.dev.bell.state ≠ 3 →
    s.dev.bell.phase = s.dev.slotPhase → s.dev.spare.phases = [] → s.dev.power.stepUp = [] → s.dev.sower.paceOwed = [] →
    s.dev.clockOf 0 < 1800 - 50 → Does (.staggerSlot true cool) s (fun t =>
      t.clockOf 0 = s.dev.clockOf 0 + 50 ∧ t.jobs = s.dev.jobs)) ∧
  (∀ s : State, s.dev.power.step = 7 → s.dev.power.standClass = 0 → s.dev.bell.state ≠ 3 → s.dev.bell.phase = s.dev.slotPhase → s.dev.spare.phases = [(0, 1), (4, 1)] → Does (.staggerSlot false false) s (fun t => t.phasesIn 0 = 20 ∧ t.spare.phases.get 0 4 = 0))

/-- R448 to R466, R561, Table 17-4: causes, stand-down, release, watchdog and firmware windows. -/
def Obligations.ConstableStandsDown : Prop :=
  let causes : List (Instr × Nat) := [(.inputOvercurrent, 1), (.reverseInputCurrent, 2), (.constableVinOvervoltage, 3), (.railOvervoltage, 4),
    (.dieOvertemperature, 5), (.boardOvertemperature, 6), (.coolOkLow, 7), (.senseMismatch, 8), (.controllerAHeartbeatLost, 0xE),
    (.greenCompareMismatch, 0xB)]
  (∀ s : State, s.dev.power.vsaf = true → s.dev.fld 10 0 0x00C 4 1 = 0 → s.dev.power.standClass = 0 → ∀ e ∈ causes, Does e.1 s (fun t =>
    (t.rg 10 0 0x040).testBit e.2 = true ∧
    (2 ≤ s.dev.power.step → t.power.standClass = causeClass e.2 ∧ t.fld 9 0 0x00C 0 3 = 4 ∧ t.fld 10 0 0x00C 0 1 = 1 ∧ t.fld 10 0 0x00C 8 8 = e.2 ∧
      (causeClass e.2 = 3 → t.power.step = 0 ∧ t.power.pwrgd = false) ∧
      (causeClass e.2 = 2 → s.dev.power.diesOff = false → t.power.diesOff = true ∧ t.power.memActive = false)) ∧
    (s.dev.power.step < 2 → t.power.standClass = 0 ∧ t.power.step = s.dev.power.step))) ∧
  (∀ s : State, s.dev.power.vsaf = true → 2 ≤ s.dev.power.step → Does .constableHeartbeatLost s (fun t =>
    (t.rg 10 0 0x040).testBit 0xF = true ∧ t.fld 10 0 0x00C 4 1 = 1 ∧ t.power.standClass ≠ 0)) ∧
  (∀ (s : State) (who : Initiator), CanWrite s.dev who 10 0 0x04C 1 = true → 2 ≤ s.dev.power.step → Does (.safForce who) s (fun t =>
    (t.rg 10 0 0x040).testBit 0xC = true ∧ t.power.standClass ≠ 0)) ∧
  (∀ s : State, s.dev.power.vsaf = true → s.dev.fld 10 0 0x00C 4 1 = 0 → s.dev.wdogFrozen = false → Does .safWdogExpiry s (fun t =>
    (t.rg 10 0 0x040).testBit 0xA = true)) ∧
  (∀ s : State, s.dev.power.standClass = 1 → s.dev.power.diesOff = false → Does .standdownStripTimeout s (fun t =>
    t.power.diesOff = true ∧ t.power.memActive = false ∧ t.power.standClass = 1 ∧ (∀ n, (t.croft n).strips = []) ∧ (t.rg 1 0 0x010).testBit 3 = true)) ∧
  (∀ (s : State) (c : Nat), releasable c = true → s.dev.power.causes.Nodup → Does (.causeRelease c) s (fun t =>
    c ∉ t.power.causes ∧ (∀ e, e ≠ c → (e ∈ t.power.causes ↔ e ∈ s.dev.power.causes)) ∧ t.power.standClass = s.dev.power.standClass)) ∧
  (∀ (s : State) (who : Initiator) (key : Nat), key < 256 → CanWrite s.dev who 10 0 0x048 key = true → s.dev.power.wdogKey = key →
    Does (.safWdogKick who key) s (fun t => t = { paged s.dev who 10 0 with power := { s.dev.power with
      wdogKey := if key = 0x5A then 0xA5 else 0x5A, wdogMs := s.dev.fld 10 0 0x044 0 16 } })) ∧
  (∀ (s : State) (who : Initiator) (n hi v : Nat), n < 8 → hi < 2 → v < 2 ^ 24 → (hi = 0 → v % 2 = 0 ∧ v / 2 % 64 = 0) →
    CanWrite s.dev who 10 0 (0x0C0 + 8 * n + 4 * hi) v = true → s.dev.locked 10 0 = false → Does (.safFwwinWrite who n hi v) s (fun t =>
      (hi = 0 → t.fld 10 0 (0x0C0 + 8 * n) 12 20 = v / 4096 ∧ t.fld 10 0 (0x0C0 + 8 * n) 0 7 = 0) ∧ (hi = 1 → t.fld 10 0 (0x0C4 + 8 * n) 0 24 = v)))

/-- R476, R480, R483: what a write of a register leaves, bit by bit, through the normal, SET, CLEAR and TOGGLE views. -/
def Obligations.RegisterWritesFollowFieldTypes : Prop :=
  ∀ (s : State) (who : Initiator) (kind inst off v : Nat) (row : RegRow),
    CanWrite s.dev who kind inst off v = true → v < 2 ^ 32 → findRow (rowsKind kind) inst off = some row → 0x028 ≤ off → kind ∉ [13, 14, 21, 22] →
    (kind, off) ∉ [(1, 0x050), (1, 0x054), (1, 0x058), (3, 0x050), (3, 0x05C), (4, 0x04C), (5, 0x04C), (8, 0x040), (8, 0x048), (9, 0x040),
      (10, 0x048), (10, 0x04C), (11, 0x044), (19, 0x040), (19, 0x044)] →
    (viaMatrix who = true → (kind, off) ∉ [(5, 0x044), (5, 0x048)]) → (∀ x, Device.valueOk kind off x = true) →
    let old (b : Nat) : Bool := (s.dev.rg kind inst off).testBit b
    let rw (b : Nat) : Bool := (row.maskOf .rw).testBit b || (!s.dev.locked kind inst && (row.maskOf .rwl).testBit b)
    let w1c (b : Nat) : Bool := (row.maskOf .w1c).testBit b
    let w1s (b : Nat) : Bool := (row.maskOf .w1s).testBit b
    let leaves (f : Nat → Bool) (t : Device) : Prop :=
      (∀ b < 32, (t.rg kind inst off).testBit b = f b) ∧
      (∀ k i o, regKey k i o ≠ regKey kind inst off → regKey k i o ≠ regKey kind inst 0x024 → t.rg k i o = s.dev.rg k i o) ∧
      t = { paged s.dev who kind inst with regs := t.regs }
    Does (.registerWrite who kind inst off v) s (leaves (fun b => if rw b then v.testBit b else (old b && !(w1c b && v.testBit b)) || (w1s b && v.testBit b))) ∧
    Does (.setViewWrite who kind inst off v) s (leaves (fun b => old b || ((rw b || w1s b) && v.testBit b))) ∧
    Does (.clearViewWrite who kind inst off v) s (leaves (fun b => old b && !((rw b || w1c b) && v.testBit b))) ∧
    Does (.toggleViewWrite who kind inst off v) s (leaves (fun b => old b != (rw b && v.testBit b)))

/-- R478, R480, R482, R485, R486: what the header commands leave. -/
def Obligations.HeaderCommandsAct : Prop :=
  ∀ (s : State) (who : Initiator) (kind inst : Nat),
    (∀ v < 2 ^ 32, CanWrite s.dev who kind inst 0x018 v = true → Does (.eventForce who kind inst v) s (fun t =>
      (∀ b < 32, (t.rg kind inst 0x010).testBit b =
        ((s.dev.rg kind inst 0x010).testBit b || (v.testBit b && (Device.eventBits kind inst).testBit b))) ∧
      t.mem = s.dev.mem ∧ t.chans = s.dev.chans ∧ t.jobs = s.dev.jobs)) ∧
    (CanWrite s.dev who kind inst 0x01C 1 = true → Does (.lock who kind inst) s (fun t => t = (paged s.dev who kind inst).setRg kind inst 0x01C 1 ∧ t.locked kind inst = true)) ∧
    (∀ on : Bool, CanWrite s.dev who kind inst 0x008 1 = true → Does (.freeze who kind inst on) s (fun t =>
      (t.rg kind inst 0x008).testBit 0 = on ∧ (∀ k i o, regKey k i o ≠ regKey kind inst 0x008 → t.rg k i o = s.dev.rg k i o) ∧
      t = { paged s.dev who kind inst with regs := t.regs })) ∧
    (∀ fz < 2, CanWrite s.dev who kind inst 0x008 (2 + fz) = true → Does (.zero who kind inst fz) s (fun t =>
      t.rg kind inst 0x008 = fz ∧
      (∀ r ∈ pageRows (rowsKind kind), r.ctr = true → ¬ (kind = 19 ∧ (r.off = 0x0A0 ∨ r.off = 0x0A4)) → t.rg kind inst r.off = 0) ∧
      t = { paged s.dev who kind inst with regs := t.regs })) ∧
    (∀ on : Bool, CanWrite s.dev who kind inst 0x020 2 = true → Does (.hold who kind inst on) s (fun t =>
      t.fld kind inst 0x020 1 1 = (if on then 1 else 0) ∧ (∀ k i o, regKey k i o ≠ regKey kind inst 0x020 → t.rg k i o = s.dev.rg k i o) ∧
      t = { paged s.dev who kind inst with regs := t.regs })) ∧
    (CanWrite s.dev who kind inst 0x020 1 = true → s.dev.snapT = none → Does (.take who kind inst) s (fun t =>
      t.fld kind inst 0x020 8 8 = (s.dev.fld kind inst 0x020 8 8 + 1) % 256 ∧ t.mem = s.dev.mem ∧ t.chans = s.dev.chans ∧ t.jobs = s.dev.jobs))

/-- R485 to R489, R279, R469: snapshots, paired reads and log pops. -/
def Obligations.SnapshotsAndConsumingReads : Prop :=
  (∀ (s : State) (who : Initiator), CanWrite s.dev who 1 0 0x058 1 = true → s.dev.snapT = none → Does (.deviceSnapshotTake who) s (fun t =>
    ∃ T, t.snapT = some T ∧ 2 * 2 ^ 24 ≤ (T - s.dev.bellNow) * (250 * 2 ^ s.dev.bell.period) ∧
      (T - s.dev.bellNow - 1) * (250 * 2 ^ s.dev.bell.period) < 2 * 2 ^ 24 ∧ t.fld 1 0 0x058 0 1 = 1)) ∧
  (∀ (s : State) (who : Initiator), CanWrite s.dev who 1 0 0x058 1 = true → s.dev.snapT.isSome = true →
    Does (.deviceSnapshotTake who) s (fun t => t = paged s.dev who 1 0)) ∧
  (∀ (s : State) (who : Initiator), CanWrite s.dev who 1 0 0x058 2 = true →
    let at_ := s.dev.rg 1 0 0x078 + s.dev.fld 1 0 0x07C 0 8 * 2 ^ 32
    (s.dev.bell.stroke < at_ → Does (.deviceSnapshotArm who) s (fun t => t.snapAt = some at_ ∧ t.fld 1 0 0x058 1 1 = 1 ∧ t.snapT = s.dev.snapT)) ∧
    (at_ ≤ s.dev.bell.stroke → Does (.deviceSnapshotArm who) s (fun t => t.snapAt = none ∧ t.fld 1 0 0x058 1 1 = 0 ∧ t.snapT.isSome = true))) ∧
  (∀ (s : State) (who : Initiator), CanWrite s.dev who 1 0 0x058 4 = true →
    Does (.deviceSnapshotCancel who) s (fun t => t.snapAt = none ∧ t.fld 1 0 0x058 1 1 = 0 ∧ t.snapT = s.dev.snapT)) ∧
  (∀ (s : State) (T : Nat), s.dev.snapT = some T → T / 2 ^ 24 ≤ s.dev.bell.stroke → Does .deviceSnapshotAtT s (fun t =>
    t.snapT = none ∧ t.fld 1 0 0x058 0 1 = 0 ∧
    ((∀ u, s.dev.snapAt = some u → s.dev.bell.stroke < u) → t.rg 1 0 0x080 = T % 2 ^ 32 ∧ t.rg 1 0 0x084 = T / 2 ^ 32 % 2 ^ 32 ∧ t.snapAt = s.dev.snapAt) ∧
    (∀ u, s.dev.snapAt = some u → u ≤ s.dev.bell.stroke → t.snapAt = none ∧ t.rg 1 0 0x080 = s.dev.bell.stroke * 2 ^ 24 % 2 ^ 32 ∧
      t.rg 1 0 0x084 = s.dev.bell.stroke * 2 ^ 24 / 2 ^ 32 % 2 ^ 32) ∧
    (t.rg 1 0 0x010).testBit 7 = true ∧ t.chans.map (·.1) = s.dev.chans.map (·.1) ∧ t.jobs = s.dev.jobs)) ∧
  (∀ (s : State) (who : Initiator) (kind inst off : Nat), CanRead s.dev who kind inst off = true → kind ∉ [13, 14, 22] →
    (findRow (rowsKind kind) inst off).map (·.lo) = some true → s.dev.fld kind inst 0x020 1 1 = 0 →
    (∀ m ∈ measuredRegs, m.1 = kind → m.2.1 ≠ off ∧ m.2.1 ≠ off + 4) →
    Does (.pairLoRead who kind inst off) s (fun t =>
      t.latches.get 0 (latchKey (whoKey who) (regKey kind inst off) + 4) = BitVec.ofNat 32 (s.dev.liveReg (initiatorCode who) kind inst (off + 4) false) ∧
      t = { paged s.dev who kind inst with latches := t.latches, out := t.out })) ∧
  (∀ (s : State) (who : Initiator) (lo hi : Nat) (rest : List (Nat × Nat)), CanRead s.dev who 3 0 0x054 = true →
    s.dev.ledger.adoptLog = (lo, hi) :: rest → Does (.adoptLogPop who) s (fun t =>
      t.ledger = { s.dev.ledger with adoptLog := rest } ∧ t.rg 3 0 0x058 = hi % 2 ^ 32)) ∧
  (∀ (s : State) (who : Initiator) (lo hi : Nat) (rest : List (Nat × Nat)), CanRead s.dev who 11 0 0x050 = true →
    s.dev.spare.log = (lo, hi) :: rest → Does (.sprLogPop who) s (fun t =>
      t.spare = { s.dev.spare with log := rest } ∧ t.rg 11 0 0x054 = hi % 2 ^ 32))

/-- R88, R91 to R93, R97, R105, R110 to R112, R115, R118: the integer opcodes, lane by lane. Flags are numbered as Table 4-2: OV 0, CY 1, SAT 2, PX 6. -/
def Obligations.IntegerOpcodesGiveTheirLanes : Prop :=
  ∀ (s : State) (n : Nat) (x : Cur),
    let w := x.i.w
    let sgn := x.i.signed
    let u (no k : Nat) : Nat := laneOf w (x.value (s.dev.croft n) no).1 k
    let z (no k : Nat) : Int := laneInt sgn w (u no k)
    let high (k : Nat) : Nat := laneOf w (x.value (s.dev.croft n) 0).2 k
    let fits (lost : Nat) (exact : Nat → Int) (r : Result) : Prop :=
      LanesHold x sgn r.d0 (fun k => laneKeeps sgn x.i.sat w (exact k)) ∧
      FlagsAre x r (fun k => if laneMisses sgn w (exact k) then [if x.i.sat then 2 else lost] else [])
    let gives (c : Instr) (code : Nat) (P : Result → Prop) : Prop := CanCompute s.dev n code x → Computes c s n x P
    let plain (c : Instr) (code : Nat) (f : Nat → Int) : Prop := gives c code (fun r => LanesHold x sgn r.d0 f ∧ r.flags = 0)
    let ovcy : Nat := if sgn then 0 else 1
    gives (.streamAdd n) 0x01 (fits ovcy (fun k => z 0 k + z 1 k)) ∧
    gives (.streamSub n) 0x02 (fits ovcy (fun k => z 0 k - z 1 k)) ∧
    gives (.streamNeg n) 0x05 (fits ovcy (fun k => - z 0 k)) ∧
    gives (.streamAbs n) 0x06 (fits 0 (fun k => |z 0 k|)) ∧
    gives (.streamShl n) 0x12 (fits ovcy (fun k => z 0 k * 2 ^ u 1 k)) ∧
    gives (.streamMullo n) 0x20 (fits ovcy (fun k => z 0 k * z 1 k)) ∧
    plain (.streamMin n) 0x07 (fun k => min (z 0 k) (z 1 k)) ∧
    plain (.streamMax n) 0x08 (fun k => max (z 0 k) (z 1 k)) ∧
    gives (.streamCmpx n) 0x62 (fun r => LanesHold x sgn r.d0 (fun k => min (z 0 k) (z 1 k)) ∧
      LanesHold x sgn r.d1 (fun k => max (z 0 k) (z 1 k)) ∧ r.flags = 0) ∧
    plain (.streamShr n) 0x13 (fun k => z 0 k / 2 ^ u 1 k) ∧
    plain (.streamMulhi n) 0x21 (fun k => z 0 k * z 1 k / 2 ^ w) ∧
    gives (.streamMulw n) 0x22 (fun r => (∀ k < x.i.lanes, laneInt sgn (2 * w) (laneOf w r.d0 k + 2 ^ w * laneOf w r.hi k) =
      if x.active.testBit k then z 0 k * z 1 k else 0) ∧ r.flags = 0) ∧
    gives (.streamWiden n) 0x44 (fun r => (∀ k < x.i.lanes, laneInt sgn (2 * w) (laneOf w r.d0 k + 2 ^ w * laneOf w r.hi k) =
      if x.active.testBit k then z 0 k else 0) ∧ r.flags = 0) ∧
    gives (.streamNarrow n) 0x43 (fits 6 (fun k => laneInt sgn (2 * w) (u 0 k + 2 ^ w * high k))) ∧
    gives (.streamAddc n) 0x03 (fun r => (∀ k < x.i.lanes, laneOf w r.d0 k + 2 ^ w * laneOf w r.d1 k =
        if x.active.testBit k then u 0 k + u 1 k + u 2 k % 2 else 0) ∧
      FlagsAre x r (fun k => if x.i.d1.kind = kNone ∧ 2 ^ w ≤ u 0 k + u 1 k + u 2 k % 2 then [1] else [])) ∧
    gives (.streamSubb n) 0x04 (fun r => (∀ k < x.i.lanes, (laneOf w r.d0 k : Int) - 2 ^ w * laneOf w r.d1 k =
        if x.active.testBit k then (u 0 k : Int) - u 1 k - ((u 2 k % 2 : Nat) : Int) else 0) ∧
      FlagsAre x r (fun k => if x.i.d1.kind = kNone ∧ u 0 k < u 1 k + u 2 k % 2 then [1] else []))

/-- R88, R90, R92, R98 to R100, R102, R116: the opcodes that compare, rotate, count, move and pack. An inactive lane holds zero (R43). -/
def Obligations.BitAndMovingOpcodesGiveTheirLanes : Prop :=
  ∀ (s : State) (n : Nat) (x : Cur),
    let w := x.i.w
    let u (no k : Nat) : Nat := laneOf w (x.value (s.dev.croft n) no).1 k
    let z (no k : Nat) : Int := laneInt x.i.signed w (u no k)
    let picked : List Nat := (List.range x.i.lanes).filter (fun k => x.maskBits.testBit k)
    let gives (c : Instr) (code : Nat) (P : Result → Prop) : Prop := CanCompute s.dev n code x → Computes c s n x (fun r => P r ∧ r.flags = 0)
    let lanes (c : Instr) (code : Nat) (P : Nat → Nat → Prop) : Prop := gives c code (fun r =>
      ∀ k < x.i.lanes, if x.active.testBit k then P k (laneOf w r.d0 k) else laneOf w r.d0 k = 0)
    let moved (r : Result) : Prop := ∃ next, r.next = some next ∧ next = { x.s.work with packs := next.packs } ∧
      next.packs.get 0 x.m = x.s.work.packs.get 0 x.m + picked.length
    gives (.streamCmp n) 0x10 (fun r => ∀ k < x.i.lanes, r.d0.testBit k = (x.active.testBit k &&
      (match x.i.func with
        | 0 => decide (u 0 k = u 1 k) | 1 => decide (u 0 k ≠ u 1 k) | 2 => decide (z 0 k < z 1 k)
        | 3 => decide (z 0 k ≤ z 1 k) | 4 => decide (z 1 k < z 0 k) | _ => decide (z 1 k ≤ z 0 k)))) ∧
    lanes (.streamLogic n) 0x11 (fun k v => ∀ b < w, v.testBit b = x.i.func.testBit (2 * ((u 0 k).testBit b).toNat + ((u 1 k).testBit b).toNat)) ∧
    lanes (.streamRotl n) 0x14 (fun k v => ∀ b < w, v.testBit ((b + u 1 k) % w) = (u 0 k).testBit b) ∧
    lanes (.streamRotr n) 0x15 (fun k v => ∀ b < w, v.testBit b = (u 0 k).testBit ((b + u 1 k) % w)) ∧
    lanes (.streamPopcnt n) 0x16 (fun k v => v = ((List.range w).filter (fun b => (u 0 k).testBit b)).length) ∧
    lanes (.streamClz n) 0x17 (fun k v => v ≤ w ∧ (∀ b < w, w ≤ b + v → (u 0 k).testBit b = false) ∧ (v < w → (u 0 k).testBit (w - 1 - v) = true)) ∧
    lanes (.streamCtz n) 0x18 (fun k v => v ≤ w ∧ (∀ b < v, (u 0 k).testBit b = false) ∧ (v < w → (u 0 k).testBit v = true)) ∧
    lanes (.streamSel n) 0x40 (fun k v => v = if x.maskBits.testBit k then u 0 k else u 1 k) ∧
    lanes (.streamCopy n) 0x41 (fun k v => v = u 0 k) ∧
    lanes (.streamFill n) 0x42 (fun k v => v = if x.i.func = 0 then u 0 k else (u 0 k + (x.s.e * x.i.lanes + k) * u 1 k) % 2 ^ w) ∧
    lanes (.streamGather n) 0x50 (fun k v => v = u 0 k) ∧
    lanes (.streamScatter n) 0x51 (fun k v => v = u 0 k) ∧
    lanes (.streamScatterAdd n) 0x52 (fun k v => v = u 0 k) ∧
    gives (.streamCompress n) 0x45 (fun r => (∀ k < x.i.lanes, laneOf w r.d0 k = ((picked[k]?).map (u 0)).getD 0) ∧ r.d1 = picked.length ∧ moved r) ∧
    gives (.streamExpand n) 0x46 (fun r => (∀ k < x.i.lanes, laneOf w r.d0 k =
      if x.maskBits.testBit k then u 0 (picked.filter (fun j => decide (j < k))).length else 0) ∧ moved r)

/-- R95, R96, R120, R121: the modular opcodes. A residue is said by what it is congruent to, times R where R^-1 enters. -/
def Obligations.ModularOpcodesGiveResidues : Prop :=
  ∀ (s : State) (n : Nat) (x : Cur),
    let w := x.i.w
    let q := x.q
    let u (no k : Nat) : Nat := laneOf w (x.value (s.dev.croft n) no).1 k
    let high (k : Nat) : Nat := laneOf w (x.value (s.dev.croft n) 0).2 k
    let scale : Nat := if x.i.mont then 2 ^ w else 1
    let lanes (d : Nat) (P : Nat → Nat → Prop) : Prop :=
      ∀ k < x.i.lanes, if x.active.testBit k then laneOf w d k < q ∧ P k (laneOf w d k) else laneOf w d k = 0
    let gives (c : Instr) (code : Nat) (reads : Nat → List Nat) (P : Result → Prop) : Prop := CanCompute s.dev n code x → q % 2 = 1 → q < 2 ^ w →
      Computes c s n x (fun r => P r ∧ FlagsAre x r (fun k => if (reads k).any (fun v => decide (q ≤ v)) then [3] else []))
    gives (.streamMadd n) 0x30 (fun k => [u 0 k, u 1 k, u 2 k]) (fun r => lanes r.d0 (fun k v => v * scale % q = (u 0 k * u 1 k + u 2 k * scale) % q)) ∧
    gives (.streamMmul n) 0x31 (fun k => [u 0 k, u 1 k]) (fun r => lanes r.d0 (fun k v => v * scale % q = u 0 k * u 1 k % q)) ∧
    gives (.streamMaddq n) 0x32 (fun k => [u 0 k, u 1 k]) (fun r => lanes r.d0 (fun k v => v = (u 0 k + u 1 k) % q)) ∧
    gives (.streamMsubq n) 0x33 (fun k => [u 0 k, u 1 k]) (fun r => lanes r.d0 (fun k v => (v : Int) = ((u 0 k : Int) - u 1 k) % q)) ∧
    gives (.streamMred n) 0x34 (fun k => if x.i.mont then [high k] else []) (fun r => lanes r.d0 (fun k v => v * scale % q = (u 0 k + 2 ^ w * high k) % q)) ∧
    gives (.streamMtom n) 0x35 (fun k => [u 0 k]) (fun r => lanes r.d0 (fun k v => v = u 0 k * 2 ^ w % q)) ∧
    gives (.streamMfrom n) 0x36 (fun k => [u 0 k]) (fun r => lanes r.d0 (fun k v => v * 2 ^ w % q = u 0 k % q)) ∧
    gives (.streamBfly n) 0x37 (fun k => [u 0 k, u 1 k, u 2 k]) (fun r =>
      if x.i.func = 0 then
        lanes r.d0 (fun k v => v * scale % q = (u 0 k * scale + u 2 k * u 1 k) % q) ∧
        lanes r.d1 (fun k v => (v * scale : Int) % q = ((u 0 k : Int) * scale - u 2 k * u 1 k) % q)
      else
        lanes r.d0 (fun k v => v = (u 0 k + u 1 k) % q) ∧
        lanes r.d1 (fun k v => (v * scale : Int) % q = u 2 k * ((u 0 k : Int) - u 1 k) % q))

/-- R68 to R70, R94, R104 to R106, R119: the opcodes that carry state from step to step or element to element. -/
def Obligations.FoldingOpcodesGiveTheirState : Prop :=
  ∀ (s : State) (n : Nat) (x : Cur),
    let w := x.i.w
    let sgn := x.i.signed
    let u (no k : Nat) : Nat := laneOf w (x.value (s.dev.croft n) no).1 k
    let on (k : Nat) : Bool := x.active.testBit k
    let W := if x.i.wide then 2 * w else w
    let op (f W a b : Nat) : Nat :=
      match f with
      | 0 => (a + b) % 2 ^ W
      | 1 => if laneInt sgn W b < laneInt sgn W a then b else a
      | 2 => if laneInt sgn W a < laneInt sgn W b then b else a
      | 3 => a &&& b | 4 => a ||| b | _ => a ^^^ b
    let lost (f W a b : Nat) : List Nat := if f = 0 ∧ laneMisses sgn W (laneInt sgn W a + laneInt sgn W b) then [if sgn then 0 else 1] else []
    let acc (k : Nat) : Option (Nat × Nat) := (x.s.work.acc[k]?).join
    (CanCompute s.dev n 0x23 x → x.i.aux ≤ w → Computes (.streamDivstep n) s n x (fun r =>
      (∀ k < x.i.lanes, on k → u 0 k < u 2 k →
        let part := u 0 k * 2 ^ x.i.aux + u 1 k / 2 ^ (w - x.i.aux)
        laneOf w r.d0 k = part % u 2 k ∧ laneOf w r.d1 k = u 1 k * 2 ^ x.i.aux % 2 ^ w + part / u 2 k) ∧
      (∀ k < x.i.lanes, on k → u 2 k = 0 → r.flags.testBit 4 = true) ∧
      ((∀ k < x.i.lanes, on k → u 0 k < u 2 k) → r.flags = 0))) ∧
    (CanCompute s.dev n 0x70 x → w = 128 → on 0 = true → Computes (.streamZmix n) s n x (fun r =>
      let key := u 1 0
      let m := 0x5C2A91E73B0D64F9A87E1D53C6B40F29
      let v1 := (u 0 0 ^^^ key) * m % 2 ^ 128
      let v2 := ((v1 ^^^ (v1 / 2 ^ 64)) + (key * 2 ^ 43 % 2 ^ 128 + key / 2 ^ 85)) % 2 ^ 128 * m % 2 ^ 128
      laneOf 128 r.d0 0 = v2 ^^^ (v2 / 2 ^ 71) ∧ r.flags = 0)) ∧
    (CanCompute s.dev n 0x60 x → x.i.func < 6 → (x.s.work.acc = [] ∨ x.s.work.acc.length = x.i.lanes) →
      (∀ k a p, acc k = some (a, p) → a < 2 ^ W) → Computes (.streamReduce n) s n x (fun r => ∃ next accs, r.next = some next ∧
        accs.length = x.i.lanes ∧
        (∀ k < x.i.lanes, accs[k]? = some (if on k then
          let v := if x.i.wide ∧ sgn then (laneInt true w (u 0 k) % 2 ^ W).toNat else u 0 k
          match acc k with
          | none => some (v, x.s.e)
          | some (a, p) => some (op x.i.func W a v, if op x.i.func W a v = a then p else x.s.e)
          else acc k)) ∧
        (if (x.s.e + 1) % 256 = 0 ∨ x.s.e + 1 = x.i.length then
          next.acc = [] ∧ (x.s.e / 256 % 2 = 0 → x.s.e + 1 ≠ x.i.length ∨ x.s.work.nodes = [] → next.nodes = x.s.work.nodes ++ [{ level := 0, k := x.s.e / 256, acc := accs }])
        else next.acc = accs ∧ next.nodes = x.s.work.nodes) ∧ next.packs = x.s.work.packs)) ∧
    (CanCompute s.dev n 0x61 x → x.i.func % 8 < 6 → x.i.func < 16 → x.i.wide = false → (∀ k a l, acc k = some (a, l) → a ≤ 2 ^ w ∧ l < 2 ^ w) →
      Computes (.streamScan n) s n x (fun r => ∃ next, r.next = some next ∧
        (∀ k < x.i.lanes,
          let before (a l : Nat) : Nat := if a = 0 then l else a - 1
          match on k, acc k with
          | false, a => laneOf w r.d0 k = 0 ∧ (next.acc[k]?).join = a
          | true, none => laneOf w r.d0 k = (if x.i.func < 8 then u 0 k else
              match x.i.func % 8 with | 1 => (laneMost sgn w % 2 ^ w).toNat | 2 => (laneLeast sgn w % 2 ^ w).toNat | 3 => 2 ^ w - 1 | _ => 0) ∧
            (next.acc[k]?).join = some (0, u 0 k)
          | true, some (a, l) =>
            let v := if x.i.func < 8 then op (x.i.func % 8) w (before a l) (u 0 k) else if a = 0 then l else op (x.i.func % 8) w (a - 1) l
            laneOf w r.d0 k = v ∧ (next.acc[k]?).join = some (v + 1, u 0 k)) ∧
        FlagsAre x r (fun k =>
          match acc k with
          | none => []
          | some (a, l) => if x.i.func < 8 then lost (x.i.func % 8) w (if a = 0 then l else a - 1) (u 0 k)
            else if a = 0 then [] else lost (x.i.func % 8) w (a - 1) l)))

/-- R107: ZMIX under one key is a bijection of the 128-bit values, and leaves zero at zero. -/
def Obligations.ZmixIsInjective : Prop :=
  (∀ k < 2 ^ 128, ∀ x < 2 ^ 128, ∀ y < 2 ^ 128, zmix x k = zmix y k → x = y) ∧ zmix 0 0 = 0

/-- R37, R86, R139, R146, R160 to R170, R182: issue of chains and the way of strips to crofts. -/
def Obligations.StripsAreIssuedDealtAndTaken : Prop :=
  ∀ (s : State) (tag n : Nat),
    let d := s.dev
    (∀ j ms runsOut d1 mods d2, CanIssue d tag j → d.fetchMembers j 9 j.next [] = (.ok ms runsOut, d1) →
      checkChain (spaceTop (entDepth (d1.entry j.ch))) (fun _ => true) runsOut [] ms = none → d1.readMods j j.next ms 0 j.mods = (none, mods, d2) →
      let usable (i : SInstr) : Bool := match mods.find? i.modidx with
        | some v => Device.modUsable v i.width
        | none => false
      let found := checkChain (spaceTop (entDepth (d1.entry j.ch))) usable runsOut [] ms
      let len := (ms.head?.map (·.length)).getD 0
      (∀ f, found = some f → Does (.instructionIssue tag) s (fun t => ∃ k, t.job? tag = some k ∧ k.next = j.next ∧
        let fail : Fail := { status := Device.stepStatus f.step, detail := f.detail, instr := (j.next + f.member) % 65536 }
        if j.chains ≠ [] then k.refuse = some fail ∧ k.chains = j.chains else (if dsKind j.desc = 1 then k.sownFail else k.stop) = some fail)) ∧
      (found = none → len = 0 → Does (.instructionIssue tag) s (fun t => ∃ k, t.job? tag = some k ∧ k.next = j.next + ms.length ∧ k.chains = j.chains)) ∧
      (found = none → len ≠ 0 → j.resume = 0 → j.skipAt = false → j.redo = false → Device.offender ms (d2.guardedHulls j mods ms len) = none →
        Does (.instructionIssue tag) s (fun t => ∃ k c, t.job? tag = some k ∧ k.next = j.next + ms.length ∧ k.chains = j.chains ++ [c] ∧
          c.first = j.next ∧ c.members = ms ∧ c.ordered = isOrdered ms len ∧ c.journaled = false ∧ c.nextDeal = 0 ∧ c.size = Device.heldSize (d2.effPaired (d2.gov j)) ms (d2.baseSize (d2.gov j) len)))) ∧
    (∀ ch k f m, d.drrPick = some (ch, tag, k, .fresh f m) → (d.dealWhole (d.freshTicket ch (d.govOf ch tag) tag k f m f (Device.startState k) false) k .any).isSome = true →
      d.chainOf tag k.first = some k →
      let e := d.govOf ch tag
      let dealt (t : Device) : Prop := ∃ a tk, (d.croft a).deque.length < 32 ∧ (t.croft a).deque = (d.croft a).deque ++ [tk] ∧
        tk.job = tag ∧ tk.channel = ch ∧ tk.instr = k.first ∧ tk.strip = f ∧ tk.first = f ∧ tk.count = m ∧ tk.copyB = false ∧
        tk.glean = d.effGlean e ∧ (tk.held = d.effPaired e ∧ tk.paired = d.effPaired e) ∧
        (d.effPaired e = false → ∀ b, b ≠ a → t.croft b = d.croft b) ∧
        (d.effPaired e = true → ∃ b tb, Device.hamletOf b ≠ Device.hamletOf a ∧ (t.croft b).deque = (d.croft b).deque ++ [tb] ∧
          tb.job = tag ∧ tb.instr = k.first ∧ tb.strip = f ∧ tb.first = f ∧ tb.count = m ∧ tb.copyB = true ∧ ∀ u, u ≠ a → u ≠ b → t.croft u = d.croft u) ∧
        (t.chainOf tag k.first).map (fun c => (c.nextDeal, c.open_)) = some (f + m, k.open_ ++ [(f, m)])
      Does .ticketDeal s dealt ∧ (k.ordered = true → 0 < f → Does (.orderedSegmentDeal tag) s dealt)) ∧
    (∀ tk rest, (d.croft n).st = 1 → (d.croft n).retiring = false → d.stoodDown = false → (d.croft n).strips.length < 4 → (d.croft n).deque = tk :: rest →
      Does (.ticketTake n) s (fun t => t.croft n = { d.croft n with
          deque := rest, strips := (d.croft n).strips ++ [{ tk := { tk with owed := [] }, e := tk.first, ckE := tk.first, ck := tk.ck, base := tk.ck, work := tk.ck, stores := tk.owed, storing := decide (tk.owed ≠ []) }], ran := true } ∧
        (∀ m, m ≠ n → t.croft m = d.croft m) ∧ t.jobs = d.jobs ∧ t.mem = d.mem)) ∧
    (∀ l v tk, d.gleans n = true → [1, 2, 3].findSome? (fun l => (d.victim n l).map (fun v => (l, v))) = some (l, v) → (d.croft v).deque.getLast? = some tk →
      let moved (t : Device) : Prop := n ≠ v ∧ t.croft n = { d.croft n with deque := [tk] } ∧
        t.croft v = { d.croft v with deque := (d.croft v).deque.dropLast } ∧ (∀ m, m ≠ n → m ≠ v → t.croft m = d.croft m) ∧ t.jobs = d.jobs ∧ t.mem = d.mem
      Does (.glean n) s moved ∧ Does (.gleanRetryTimer n) s moved) ∧
    (∀ who rest k, d.sower.overflowWait = who :: rest → k < 248 → (∀ o ∈ d.sower.overflow, o.1 / 2 ^ 32 ≠ k) →
      Does .overflowSlotFree s (fun t => ∃ g < 248, (∀ o ∈ d.sower.overflow, o.1 / 2 ^ 32 ≠ g) ∧
        t = { d with sower := { d.sower with overflowWait := rest, overflow := d.sower.overflow ++ [(g * 2 ^ 32 + who.1, who.2.1, who.2.2)] } }))

/-- R109, R133, R139, R140, R142, R147, R149, R297, R457: one element's way through a croft. -/
def Obligations.ElementsPassThroughTheCroft : Prop :=
  ∀ (s : State) (n : Nat),
    let d := s.dev
    -- a croft with one strip changed, and what else a step of a croft leaves alone
    let becomes (d1 : Device) (x : Cur) (new : Strip) (t : Device) : Prop :=
      t.croft n = { d1.croft n with strips := (d1.croft n).strips.set x.ix new } ∧ (∀ m, m ≠ n → t.croft m = d1.croft m) ∧ t.mem = d1.mem ∧ t.jobs = d1.jobs
    (∀ x : Cur, d.cur n = some x → (d.croft n).upset = none →
      (∀ d1, x.s.entered = false → x.s.storing = false → x.copies (d.croft n) = [] → x.wants (d.croft n) = [] → (∀ l ∈ x.s.loads, l.bad = 0) →
        d.touchAll n x (x.touches (d.croft n)) = (.ok, d1) →
        Does (.elementStart n) s (becomes d1 x { d1.stripOf n x with entered := true })) ∧
      (∀ r sa sb d1 d2, x.s.result = some r → d.waitsSlot x = false → d.firedSite n (pipesOf x.i.opcode) = none → x.passes (d.croft n) 7 r r = true →
        let kept := x.checked r
        d.destOf n x kept 3 = (.ok sa, d1) → d1.destOf n x kept 4 = (.ok sb, d2) →
        ((x.pieces kept 3).isSome ∨ (x.pieces kept 4).isSome → d2.firedSite n [4] = none ∧ kept.codesOk = true) →
        let old := d2.stripOf n x
        let strip : Strip := { old with
          work := { kept.next.getD old.work with flags := old.work.flags ||| kept.flags }, temps := Device.newTemps x kept 0 ++ old.temps,
          stores := old.stores ++ (sa ++ sb), result := none, member := x.m + 1 }
        (x.m + 1 < x.c.members.length → Does (.pipeResult n) s (becomes d2 x strip)) ∧
        (x.c.members.length ≤ x.m + 1 → old.tk.held = false →
          (d2.refusedStore x.j.ch strip.stores = none → (x.c.journaled = true ∨ d2.lostStore strip.stores = none) → strip.stores ≠ [] →
            Does (.pipeResult n) s (becomes d2 x { strip with storing := true })) ∧
          (∀ m pa, d2.refusedStore x.j.ch strip.stores = some (m, pa) → Does (.pipeResult n) s (fun t => t.mem = d2.mem ∧
            t.rg 10 0 0x050 = x.j.ch % 4096 + Device.hamletOf n % 32 * 2 ^ 12 + 2 ^ 31 ∧
            t.rg 10 0 0x054 = pa % 2 ^ 32 ∧ t.rg 10 0 0x058 = pa / 2 ^ 32 % 2 ^ 32)))) ∧
      (∀ st rest v d1, x.s.storing = true → x.s.released = false → x.c.journaled = false → x.s.stores = st :: rest →
        (st.se = false ∨ x.j.side = true ∨ d.journaledControl x.j = false) → d.makeStore x.s.tk.job st = (.ok v, d1) →
        let runs : Map (Nat × Nat) := (d1.joinRun x.s.runs st).1
        (rest ≠ [] → Does (.storeAck n) s (becomes d1 x { x.s with stores := rest, entered := true, runs := runs })) ∧
        (rest = [] → st.element = x.s.e → x.s.tk.held = false → x.s.e + 1 ≠ x.s.tk.first + x.s.tk.count → (∀ i ∈ x.c.members, i.opcode ≠ 0x60) →
          let next := Device.passElement { x.s with stores := [], entered := true, runs := runs }
          next.e = x.s.e + 1 ∧ next.ckE = x.s.e + 1 ∧ next.ck = x.s.work ∧ Does (.storeAck n) s (becomes d1 x next)) ∧
        (rest = [] → st.element < x.s.e → x.s.e ≠ x.s.tk.first + x.s.tk.count →
          Does (.storeAck n) s (becomes d1 x { x.s with stores := [], storing := false, entered := false, runs := runs })))) ∧
    (∀ (x y : Cur) m no rest va k ps seen v went d0 d1 d2 d3, (d.curs n).find? (fun x => d.canLoad n x) = some x → d.contexts n x = (m, no) :: rest →
      x.at? m = some y → (y.tables (d.croft n)).contains no = false → d.touchAll n x (x.touches (d.croft n)) = (went, d0) → went ≠ .stopped →
      y.place no = some (va, k) → d0.croftXlates n y no .read (noSideSlot (y.i.slot no)) (y.neededParts no va k) = (.ok ps false, d1) →
      (regionOf ((ps.map (fun p => p.2.1)).headD 0) = .hbm ∨ regionOf ((ps.map (fun p => p.2.1)).headD 0) = .granary) →
      (y.i.slot no).kind ≠ kLocal → (y.i.slot no).kind ≠ kBcastMem → d1.seenBy n y ps = (.ok seen, d2) →
      d2.readParts y.j.ch (Device.hamletOf n) seen va ps = (.ok v, d3) →
      let val := if no = 5 then v / 2 ^ (y.s.e * y.i.lanes % 8) % 2 ^ y.i.lanes else v
      Does (.loadResponse n 0) s (fun t => ∃ more : List Load,
        (∀ l ∈ more, l.member = y.m ∧ l.slot = no ∧ y.s.e < l.element ∧ l.element < y.s.tk.first + y.s.tk.count) ∧
        becomes d3 y { d3.stripOf n y with loads := (d3.stripOf n y).loads ++
          [{ member := y.m, slot := no, element := y.s.e, val := val, code := codeOf val }] ++ more } t)) ∧
    (∀ l rest, d.xlt.lookups = l :: rest →
      (l.fresh = true → Does .sharedTlbResponse s (fun t =>
        t = Device.settleBanks { d with xlt := { d.xlt with lookups := rest, walks := d.xlt.walks ++ [l] } })) ∧
      (l.fresh = false →
        let d1 := ({ d with xlt := { d.xlt with lookups := rest } } : Device).count 5 0 0x0C0
        (d1.tlbFind false l.space.asid l.va [0, 1, 2] = none → Does .sharedTlbResponse s (fun t =>
          t.xlt.lookups = rest ∧ t.xlt.walks = d.xlt.walks ++ [l] ∧ t.crofts = d.crofts)) ∧
        (∀ e d2, d1.tlbFind false l.space.asid l.va [0, 1, 2] = some (e, d2) → leafCause e l.va l.access { user := true, seRefused := l.noSide } = none →
          (d2.croft l.croft).gen = l.gen → Does .sharedTlbResponse s (fun t => t = (d2.fillUtlb l.croft e).settleBanks)))) ∧
    (∀ l rest e d1, d.xlt.walks = l :: rest →
      let same (m : Lookup) : Bool := decide (m.space = l.space) && decide (m.va / 4096 = l.va / 4096) && decide (d.lookupAway m = d.lookupAway l)
      let may (m : Lookup) : Prop := leafCause e (Device.walkVa m.va) m.access { user := true, seRefused := m.noSide } = none
      d.walkPath l.space l.va (d.lookupAway l) = (.leaf e, d1) → (∀ m ∈ l :: rest, same m = true → may m) →
      Does .tableWalkComplete s (fun t => t.xlt.walks = rest.filter (fun m => !same m) ∧ t.jobs = d.jobs ∧ t.mem = d1.mem ∧
        ((∀ m ∈ rest, same m = false) → (d1.croft l.croft).gen = l.gen →
          t = ((({ d1 with xlt := { d1.xlt with walks := rest } } : Device).tlbDrop (inFwHalf l.va) l.space.asid (Device.walkVa l.va) (some e)).tlbFill e
            |>.utlbDrop l.croft l.space.asid l.va |>.fillUtlb l.croft e).settleBanks)))

/-- R65, R68, R172, R173, R182, R264, R266: the end of strips and chains. -/
def Obligations.StripsCommitInOrder : Prop :=
  ∀ (s : State) (tag : Nat) (j : Job) (c : Chain) (rest : List Chain),
    let d := s.dev
    d.job? tag = some j →
    (∀ k r, (Device.aheadOf j.chains).head? = some k → d.power.standClass < 2 → k.ready.find? (fun r => decide (r.strip = k.committed)) = some r →
      (r.fail = none → Does (.stripCommit tag) s (fun t => t.job? tag = some { j with
          flags := j.flags ||| r.flags, sownFlags := j.sownFlags ||| r.flags
          chains := j.chains.map (fun c => if c.first = k.first then { c with ready := c.ready.erase r, committed := c.committed + r.count } else c) } ∧
        t.mem = d.mem ∧ t.crofts = d.crofts ∧
        (d.rg 14 0 0x080 = 2 → d.bellNow < 2 ^ 64 → ∃ x, t.trace.find? (d.rg 14 0 0x084 % 2048) = some x ∧ field x 0 160 = r.body % 2 ^ 160 ∧
          field x 160 8 = 2 ∧ field x 168 9 = r.croft % 2 ^ 9 ∧ field x 192 64 = d.bellNow))) ∧
      (∀ f, r.fail = some f → j.chains.head?.map (·.first) = some k.first → dsKind j.desc ≠ 1 → j.stop = none →
        Does (.stripCommit tag) s (fun t => t.job? tag = some { j with
          flags := j.flags ||| r.flags, sownFlags := j.sownFlags ||| r.flags, stop := some (Device.reportedFail j f) })) ∧
      (∀ f, r.fail = some f → j.chains.head?.map (·.first) ≠ some k.first → Does (.stripCommit tag) s (fun t => t = d))) ∧
    (j.chains = c :: rest →
      (c.len ≤ c.committed → j.stop = none → (d.chan j.ch).st.live = true → (∀ f ∈ j.faults, f.place ≠ .finalWrite c.first) →
        (∀ ps ss d1, c.finalMade = false → Device.finalPieces c = some ps → d.finalWrites j.ch tag c (c.members.length - 1) 0 ps = (.ok ss, d1) →
          Does (.chainComplete tag) s (fun t => t = d1.upChain tag c.first (fun k => { k with finalMade := true }))) ∧
        (c.finalMade = true → c.journaled = false → Does (.chainComplete tag) s (fun t => ∃ k, t.job? tag = some k ∧ k.chains = rest ∧
          k.flags = j.flags ||| c.treeFlags ∧ k.sownFlags = j.sownFlags ||| c.treeFlags ∧ t.mem = d.mem ∧ t.ledger = d.ledger))) ∧
      (c.journaled = true → d.hasExtent tag = false → ∀ e, d.journalFit (d.journalPlace j.ch).1 (d.journalPlace j.ch).2 (ceilDiv (imageBytes c.members c.len) 65536) = some e →
        Does (.journalSpaceFree tag) s (fun t =>
          t.ledger.extents = d.ledger.extents ++ [((d.journalPlace j.ch).1, tag, e, ceilDiv (imageBytes c.members c.len) 65536)] ∧
          (t.chan j.ch).ledgerQ = (d.chan j.ch).ledgerQ ++ [{ tag := tag, step := 4, chain := c.first % 65536, joff := e }] ∧ t.mem = d.mem)) ∧
      (∀ left runs more d1, c.commitLeft = some left → j.jphase = .staged → j.jchain = c.first % 65536 → j.stop = none →
        (d.chan j.ch).st.live = true → d.stoodDown = false → (∀ f ∈ j.faults, f.place ≠ .commit c.first) →
        (∀ w ∈ (d.chan j.ch).ledgerQ, ¬ (w.tag = tag ∧ w.step = 6)) →
        (d.commitStores j.ch tag j.joff c 4096 c.runs left = ((runs, more, none), d1) → d1.job? tag = some j →
          Does (.journalCommit tag) s (fun t => t.mem = d1.mem ∧
            (∃ k kc, t.job? tag = some k ∧ k.chains.head? = some kc ∧ kc = { c with commitLeft := some more, runs := runs }) ∧
            (t.chan j.ch).ledgerQ = (d1.chan j.ch).ledgerQ ++
              (if more = [] then [{ tag := tag, step := 6, chain := c.first % 65536, joff := j.joff }] else []))) ∧
        (∀ st code, d.commitStores j.ch tag j.joff c 4096 c.runs left = ((runs, more, some (st, .fail code)), d1) → d1.job? tag = some j →
          dsKind j.desc ≠ 1 → Does (.journalCommit tag) s (fun t => ∃ k, t.job? tag = some k ∧
            k.stop = some { status := code, instr := (c.first + st.member) % 65536, element := Device.commitElement c st })))) ∧
    (∀ first ns f, j.chains.findSome? (fun c => c.members.getLast?.bind (fun i => (combineStep i c.len (d.sower.upset.getD 0) c.nodes).map (fun r => (c.first, r)))) = some (first, ns, f) →
      Does (.partialCombine tag) s (fun t => t.job? tag = some { j with
        chains := j.chains.map (fun c => if c.first = first then { c with nodes := ns, treeFlags := c.treeFlags ||| f } else c) } ∧ t.sower.upset = none ∧ t.mem = d.mem ∧ t.crofts = d.crofts)) ∧
    (∀ k a b, j.chains.findSome? (fun c => (d.comparable tag c).map (fun hs => (c, hs))) = some (k, [a, b]) → a.third = false → b.third = false →
      (Device.copiesAgree a b = false → let from_ := if a.first ≤ b.first then a else b
        Does (.witnessCompare tag) s (fun t => ∃ tk, tk.third = true ∧ tk.redealt = false ∧ tk.home = d.homeDie j.ch k.members from_.strip k.size ∧
          tk.strip = from_.strip ∧ tk.first = from_.first ∧ tk.count = from_.count ∧ tk.ck = from_.start ∧
          t.job? tag = some { j with chains := j.chains.map (fun c => if c.first = k.first then { c with redeal := c.redeal ++ [(tk, .any)] } else c) } ∧
          t.crofts = d.crofts ∧ t.mem = d.mem)) ∧
      (Device.copiesAgree a b = true → ∀ ix st, let keep := if a.copyB then b else a
        a.croft ≠ b.croft → d.chainOf tag k.first = some k → Device.needsSlot k = false ∨ st.tk.copyB = true →
        (d.croft keep.croft).strips.findIdx? (fun s => s.tk.job = tag && s.tk.instr = k.first && s.tk.strip = keep.strip) = some ix →
        (d.croft keep.croft).strips[ix]? = some st → st.staged ≠ [] →
        Does (.witnessCompare tag) s (fun t => (t.croft keep.croft).strips[ix]? = some (Device.toNext (Device.isReduce k) { st with
            waiting := false, released := true, storing := true, stores := st.staged, staged := [], runs := [] }) ∧
          t.job? tag = some { j with chains := j.chains.map (fun c => if c.first = k.first then { c with held := c.held.filter (fun h => decide (h.strip ≠ a.strip)) } else c) } ∧
          t.mem = d.mem)))

/-- R151 to R156, R176 to R180, R453, R469, R472, R445: crofts out of service, fault injection, modes. -/
def Obligations.CroftsLeaveAndEnterService : Prop :=
  ∀ (s : State) (who : Initiator) (n : Nat),
    let d := s.dev
    let c := d.croft n
    let wasReset (quar : Bool) (was : Nat) (t : Device) : Prop :=
      t.croft n = { c with st := 0, gen := c.gen + 1, deque := c.deque.filter (fun t => decide (¬ (t.glean = 2 ∨ t.ordered = true)))
                           strips := [], utlb := {}, locals := [], quarReq := quar, selfTest := true, was := if c.retiring then 4 else was, ran := false, upset := none } ∧
      (∀ m, m ≠ n → t.croft m = d.croft m) ∧
      ((∀ sp ∈ c.strips, Device.passedStores sp = []) → t.mem = d.mem ∧
        ∀ sp ∈ c.strips, ¬ (sp.ckE = sp.tk.first + sp.tk.count ∧ (sp.tk.held = false ∨ sp.released = true)) →
          ∀ k, d.chainOf sp.tk.job sp.tk.instr = some k →
          ∃ k', t.chainOf sp.tk.job sp.tk.instr = some k' ∧ ({ Device.againTicket sp with owed := [] }, .avoid n) ∈ k'.redeal)
    (d.resetUnderWay = true → c.st = 1 ∨ c.st = 3 → CanWrite d who 19 n 0x040 1 = true → Does (.crfReset who n) s (fun t =>
      t.croft n = { c with quarReq := c.quarReq || decide (c.st = 3) } ∧ ∀ m, m ≠ n → t.croft m = d.croft m)) ∧
    (d.resetUnderWay = false → c.upset = none →
      (c.st = 1 ∨ c.st = 3 → (∃ sp ∈ c.strips, sp.parked = false) → (d.noteWear 2 n 0 3600).1 < 3 →
        Does (.croftStallTimeout n) s (wasReset false c.st)) ∧
      (CanWrite d who 19 n 0x040 1 = true → c.st ≠ 0 → c.st ≠ 4 → Does (.crfReset who n) s (wasReset (decide (c.st = 3)) c.st)) ∧
      (CanWrite d who 19 n 0x040 2 = true → c.st ≠ 0 → c.st ≠ 4 → Does (.crfQuarantine who n) s (wasReset true c.st)) ∧
      (CanWrite d who 19 n 0x040 4 = true → c.st = 3 → Does (.crfRelease who n) s (wasReset false 1)) ∧
      (∀ (x : Cur) r, d.cur n = some x → x.s.result = some r → d.waitsSlot x = false → d.firedSite n (pipesOf x.i.opcode) = none →
        x.passes (d.croft n) 7 r r = false → x.s.tk.attempt = 0 → Does (.pipeResult n) s (fun t => ∃ k, t.chainOf x.s.tk.job x.c.first = some k ∧
          ({ Device.againTicket (Device.failedAt x.c x.s) with attempt := 1, shun := some n }, .avoid n) ∈ k.redeal))) ∧
    (c.st = 0 → c.selfTest = true → c.swapFor = none →
      Does (.croftSelfTestDone n true) s (fun t => t.croft n = { c with
        st := if c.was = 4 then 4 else if c.quarReq then 3 else c.was, selfTest := false, quarReq := false } ∧ ∀ m, m ≠ n → t.croft m = d.croft m) ∧
      Does (.croftSelfTestDone n false) s (fun t =>
        (t.croft n).st = (if c.was = 4 then 4 else if d.isNamed 0 n || (d.seedCroft (Device.hamletOf n)).isSome then 3 else 4) ∧ ∀ m, m ≠ n → t.croft m = d.croft m)) ∧
    (∀ w reason, c.st = 0 → c.selfTest = true → c.swapFor = some (w, reason) → w ≠ n →
      Does (.croftSelfTestDone n true) s (fun t => (t.croft n).st = 1 ∧ (t.croft w).st = 4 ∧ ∀ m, m ≠ n → m ≠ w → t.croft m = d.croft m)) ∧
    (∀ h < 16, d.resetUnderWay = false → Does (.hamletFault h) s (fun t => (t.rg 10 0 0x010).testBit 2 = true ∧ t.mem = d.mem ∧ ∀ m,
      (m / 17 = h → (t.croft m).strips = [] ∧ (t.croft m).deque = [] ∧ ((d.croft m).st ≠ 0 → (d.croft m).st ≠ 4 →
        (t.croft m).st = 0 ∧ (t.croft m).quarReq = true)) ∧
      (m / 17 ≠ h → (t.croft m).st = (d.croft m).st))) ∧
    (∀ site ≤ 4, CanWrite d who 19 n 0x044 (site + 256) = true → d.locked 19 n = false → Does (.fiArm who n site) s (fun t =>
      t.fld 19 n 0x044 8 1 = 1 ∧ t.fld 19 n 0x044 0 3 = (if d.fld 19 n 0x044 8 1 = 1 then d.fld 19 n 0x044 0 3 else site) ∧ t.crofts = d.crofts)) ∧
    (CanWrite d who 1 0 0x050 1 = true →
      let v := d.rg 1 0 0x044
      let start := d.rg 1 0 0x048 + d.rg 1 0 0x04C % 256 * 2 ^ 32
      (Device.modeValueOk v = false → Does (.glbModeArm who) s (fun t => t.sower = d.sower ∧ t.rg 1 0 0x040 = d.rg 1 0 0x040)) ∧
      (Device.modeValueOk v = true → d.stroke < start →
        Does (.glbModeArm who) s (fun t => t.sower = { d.sower with modeReq := some (v, start) } ∧ t.fld 1 0 0x050 0 1 = 1 ∧ t.rg 1 0 0x040 = d.rg 1 0 0x040)) ∧
      (Device.modeValueOk v = true → start ≤ d.stroke → d.modeLedgerOk v = true →
        Does (.glbModeArm who) s (fun t => t.rg 1 0 0x040 = v ∧ t.sower.modeReq = none ∧ t.sower.paceOwed = [0, 1] ∧ (∀ m, (t.croft m).deque = []) ∧
          (t.rg 1 0 0x010).testBit 1 = true ∧ t.mem = d.mem)) ∧
      (Device.modeValueOk v = true → start ≤ d.stroke → d.modeLedgerOk v = false →
        Does (.glbModeArm who) s (fun t => t.rg 1 0 0x040 = d.rg 1 0 0x040 ∧ t.sower.modeReq = none ∧ (t.rg 1 0 0x010).testBit 2 = true))) ∧
    (CanWrite d who 1 0 0x050 2 = true → Does (.glbModeCancel who) s (fun t => t.sower.modeReq = none ∧ t.fld 1 0 0x050 0 1 = 0 ∧
      t = { paged d who 1 0 with sower := { d.sower with modeReq := none }, regs := t.regs })) ∧
    (∀ die, d.sower.paceOwed.contains die = true → ∀ target, (d.fld 1 0 0x040 0 2, target) ∈ [(0, 1800), (1, 1500)] →
      Does (.paceClockMove die) s (fun t => t.sower.paceOwed = d.sower.paceOwed.erase die ∧
        (target ≤ d.clockOf die → t.clockOf die = target) ∧ (d.clockOf die < target → t.clockOf die = d.clockOf die ∧ die ∈ t.power.stepUp)))

/-- R316, R323, R324, R329, Tables 11-6, 11-8 and 11-9: the result of every scalar operation, its destination and its frame. -/
def Obligations.ReeveArithmeticGivesItsResult : Prop :=
  ∀ (s : State) (n : Nat),
    let gives (c : Instr) (op : ROp) (P : Reeve → RInstr → Nat → Prop) : Prop := ∀ i d1, Fetches s.dev n op i d1 →
      ∃ v < 2 ^ 64, P (d1.reeve n) i v ∧ Retires c s n (d1.setReeve n (((d1.reeve n).put i.rd v).advance i.len))
    let later (c : Instr) (op : ROp) (div : Bool) (P : Nat → Nat → Nat → Prop) : Prop := ∀ i d1, Fetches s.dev n op i d1 →
      let r := d1.reeve n
      ∃ v < 2 ^ 64, P (r.get i.ra) (r.get i.rb) v ∧ Retires c s n (d1.setReeve n
        (({ r with flight := r.flight ++ [{ bank := 0, ix := r.place i.rd, val := v, div := div }] } : Reeve).advance i.len))
    let two (c : Instr) (op : ROp) (P : Nat → Nat → Nat → Prop) : Prop := gives c op (fun r i v => P (r.get i.ra) (r.get i.rb) v)
    let imm (c : Instr) (op : ROp) (P : Nat → Nat → Nat → Prop) : Prop := gives c op (fun r i v => P (r.get i.ra) i.imm v)
    let amount (i : RInstr) : Nat := (i.f10 % 2 * 32 + i.rb) % 64
    let zeros (f : Nat → Bool) (v : Nat) : Prop := v ≤ 64 ∧ (∀ b < v, f b = false) ∧ (v < 64 → f v = true)
    gives (.reeveSetq n) .setq (fun _ i v => v = i.imm) ∧
    gives (.reeveAddq n) .addq (fun r i v => v = (r.get i.rd + i.imm) % 2 ^ 64) ∧
    gives (.reeveShlq n) .shlq (fun r i v => v = r.get i.rd * 2 ^ i.imm % 2 ^ 64) ∧
    gives (.reeveShrq n) .shrq (fun r i v => sgn64 v = sgn64 (r.get i.rd) / 2 ^ i.imm) ∧
    gives (.reeveRorq n) .rorq (fun r i v => ∀ b < 64, v.testBit b = (r.get i.rd).testBit ((b + i.imm) % 64)) ∧
    gives (.reeveMovq n) .movq (fun r i v => v = r.get i.rb) ∧
    gives (.reeveAddrq n) .addrq (fun r i v => v = (r.get i.rd + r.get i.rb) % 2 ^ 64) ∧
    gives (.reeveSubq n) .subq (fun r i v => (v : Int) = ((r.get i.rd : Int) - r.get i.rb) % 2 ^ 64) ∧
    gives (.reeveAndq n) .andq (fun r i v => v = r.get i.rd &&& r.get i.rb) ∧
    two (.reeveAdd n) .add (fun a b v => v = (a + b) % 2 ^ 64) ∧
    two (.reeveSub n) .sub (fun a b v => (v : Int) = ((a : Int) - b) % 2 ^ 64) ∧
    two (.reeveAnd n) .and (fun a b v => v = a &&& b) ∧
    two (.reeveOr n) .or (fun a b v => v = a ||| b) ∧
    two (.reeveXor n) .xor (fun a b v => v = a ^^^ b) ∧
    two (.reeveAndn n) .andn (fun a b v => ∀ k < 64, v.testBit k = (a.testBit k && !b.testBit k)) ∧
    two (.reeveSll n) .sll (fun a b v => v = a * 2 ^ (b % 64) % 2 ^ 64) ∧
    two (.reeveSrl n) .srl (fun a b v => v = a / 2 ^ (b % 64)) ∧
    two (.reeveSra n) .sra (fun a b v => sgn64 v = sgn64 a / 2 ^ (b % 64)) ∧
    two (.reeveRol n) .rol (fun a b v => ∀ k < 64, v.testBit ((k + b) % 64) = a.testBit k) ∧
    two (.reeveRor n) .ror (fun a b v => ∀ k < 64, v.testBit k = a.testBit ((k + b) % 64)) ∧
    two (.reeveSlt n) .slt (fun a b v => v = if sgn64 a < sgn64 b then 1 else 0) ∧
    two (.reeveSltu n) .sltu (fun a b v => v = if a < b then 1 else 0) ∧
    two (.reeveMin n) .min (fun a b v => sgn64 v = min (sgn64 a) (sgn64 b)) ∧
    two (.reeveMax n) .max (fun a b v => sgn64 v = max (sgn64 a) (sgn64 b)) ∧
    two (.reeveMinu n) .minu (fun a b v => v = min a b) ∧
    two (.reeveMaxu n) .maxu (fun a b v => v = max a b) ∧
    gives (.reeveClz n) .clz (fun r i v => zeros (fun b => (r.get i.ra).testBit (63 - b)) v) ∧
    gives (.reeveCtz n) .ctz (fun r i v => zeros (fun b => (r.get i.ra).testBit b) v) ∧
    gives (.reevePopc n) .popc (fun r i v => v = ((List.range 64).filter (fun b => (r.get i.ra).testBit b)).length) ∧
    gives (.reeveSlli n) .slli (fun r i v => v = r.get i.ra * 2 ^ amount i % 2 ^ 64) ∧
    gives (.reeveSrli n) .srli (fun r i v => v = r.get i.ra / 2 ^ amount i) ∧
    gives (.reeveSrai n) .srai (fun r i v => sgn64 v = sgn64 (r.get i.ra) / 2 ^ amount i) ∧
    imm (.reeveAddi n) .addi (fun a x v => v = (a + x) % 2 ^ 64) ∧
    imm (.reeveAndi n) .andi (fun a x v => v = a &&& x) ∧
    imm (.reeveOri n) .ori (fun a x v => v = a ||| x) ∧
    imm (.reeveXori n) .xori (fun a x v => v = a ^^^ x) ∧
    imm (.reeveSlti n) .slti (fun a x v => v = if sgn64 a < sgn64 x then 1 else 0) ∧
    imm (.reeveSltiu n) .sltiu (fun a x v => v = if a < x then 1 else 0) ∧
    gives (.reeveLdhi n) .ldhi (fun _ i v => sgn64 v = Int.bmod (i.imm * 4096) (2 ^ 32)) ∧
    gives (.reevePcadd n) .pcadd (fun r i v => v = (r.pc + i.imm * 4096) % 2 ^ 64) ∧
    later (.reeveMul n) .mul false (fun a b v => v = a * b % 2 ^ 64) ∧
    later (.reeveMulh n) .mulh false (fun a b v => sgn64 v = sgn64 a * sgn64 b / 2 ^ 64) ∧
    later (.reeveMulhu n) .mulhu false (fun a b v => v = a * b / 2 ^ 64) ∧
    later (.reeveDiv n) .div true (fun a b v => if b = 0 then v = 2 ^ 64 - 1 else sgn64 v = Int.bmod (Int.tdiv (sgn64 a) (sgn64 b)) (2 ^ 64)) ∧
    later (.reeveDivu n) .divu true (fun a b v => v = if b = 0 then 2 ^ 64 - 1 else a / b) ∧
    later (.reeveRem n) .rem true (fun a b v => if b = 0 then v = a else sgn64 v = Int.tmod (sgn64 a) (sgn64 b)) ∧
    later (.reeveRemu n) .remu true (fun a b v => v = if b = 0 then a else a % b)

/-- R317 to R320, R323, R333, R334, Table 11-8: where each control transfer goes and what it does to the window. -/
def Obligations.ReeveControlTransfers : Prop :=
  ∀ (s : State) (n : Nat),
    let jumps (c : Instr) (op : ROp) (next : Reeve → RInstr → Reeve) : Prop := ∀ i d1, Fetches s.dev n op i d1 →
      Retires c s n (d1.setReeve n (next (d1.reeve n) i))
    let goes (r : Reeve) (pc : Nat) : Reeve := { r with pc := pc % 2 ^ 64 }
    let branch (c : Instr) (op : ROp) (taken : Nat → Nat → Bool) : Prop := jumps c op (fun r i =>
      if taken (r.get i.ra) (r.get i.rb) then goes r (r.pc + 2 * i.imm) else r.advance i.len)
    let calls (c : Instr) (op : ROp) (target : Reeve → RInstr → Nat) : Prop := ∀ i d1, Fetches s.dev n op i d1 → (d1.reeve n).flight = [] →
      ((d1.reeve n).res < 15 → ∃ r', Retires c s n (d1.setReeve n r') ∧
        let r := d1.reeve n
        r' = { r with pc := target r i, regs := r'.regs, winptr := r'.winptr } ∧ r'.get 16 = (r.pc + i.len) % 2 ^ 64 ∧
        (∀ k < 8, r'.get k = r.get k) ∧ (∀ k, 8 ≤ k → k < 16 → r'.get k = r.get (k + 16)) ∧
        r'.cur = (r.cur + 2) % 16 ∧ r'.res = r.res + 2 ∧ r'.spilled = r.spilled) ∧
      (∀ v d2, (d1.reeve n).res = 15 → d1.writeBlocks n (d1.reeve n).priv ((d1.reeve n).spillBlocks ((d1.reeve n).get 7)) = (.ok v, d2) →
        ∃ r', Retires c s n (d2.setReeve n r') ∧
        let r := d2.reeve n
        r' = { r with pc := target (d1.reeve n) i, regs := r'.regs, winptr := r'.winptr } ∧ r'.get 16 = (r.pc + i.len) % 2 ^ 64 ∧
        (∀ k < 7, r'.get k = r.get k) ∧ (∀ k, 8 ≤ k → k < 16 → r'.get k = r.get (k + 16)) ∧ r'.cur = (r.cur + 2) % 16 ∧
        (r.res = 15 → r'.get 7 = (r.get 7 + 2 ^ 64 - 128) % 2 ^ 64 ∧ r'.res = 15 ∧ r'.spilled = (r.spilled + 2) % 2 ^ 32))
    let returns (c : Instr) (op : ROp) : Prop := ∀ i d1, Fetches s.dev n op i d1 → (d1.reeve n).flight = [] → 3 < (d1.reeve n).res →
      ∃ r', Retires c s n (d1.setReeve n r') ∧
        let r := d1.reeve n
        r' = { r with pc := r.get 16, winptr := r'.winptr } ∧ (∀ k < 8, r'.get k = r.get k) ∧ (∀ k, 24 ≤ k → k < 32 → r'.get k = r.get (k - 16)) ∧
        r'.cur = (r.cur + 14) % 16 ∧ r'.res = r.res - 2 ∧ r'.spilled = r.spilled
    jumps (.reeveJzq n) .jzq (fun r i => if r.get i.rd = 0 then goes r (r.pc + 2 * i.imm) else r.advance i.len) ∧
    jumps (.reeveJnzq n) .jnzq (fun r i => if r.get i.rd ≠ 0 then goes r (r.pc + 2 * i.imm) else r.advance i.len) ∧
    jumps (.reeveDecq n) .decq (fun r i =>
      let v := (r.get i.rd + (2 ^ 64 - 1)) % 2 ^ 64
      if v ≠ 0 then goes (r.put i.rd v) (r.pc + 2 * i.imm) else (r.put i.rd v).advance i.len) ∧
    jumps (.reeveGoq n) .goq (fun r i => goes r (r.pc + 2 * i.imm)) ∧
    jumps (.reeveJmpq n) .jmpq (fun r i => goes r (r.get i.rd / 2 * 2)) ∧
    branch (.reeveBeq n) .beq (fun a b => decide (a = b)) ∧ branch (.reeveBne n) .bne (fun a b => decide (a ≠ b)) ∧
    branch (.reeveBlt n) .blt (fun a b => decide (sgn64 a < sgn64 b)) ∧ branch (.reeveBge n) .bge (fun a b => decide (sgn64 b ≤ sgn64 a)) ∧
    branch (.reeveBltu n) .bltu (fun a b => decide (a < b)) ∧ branch (.reeveBgeu n) .bgeu (fun a b => decide (b ≤ a)) ∧
    jumps (.reeveJmp n) .jmp (fun r i => goes (r.put i.rd (r.pc + i.len)) (r.pc + 2 * i.imm)) ∧
    jumps (.reeveJmpr n) .jmpr (fun r i => goes (r.put i.rd (r.pc + i.len)) ((r.get i.ra + i.imm) % 2 ^ 64 / 2 * 2)) ∧
    (∀ i d1, Fetches s.dev n .loop i d1 →
      let r := d1.reeve n
      (r.lcount % 2 ^ 48 = 0 → r.get i.ra % 2 ^ 48 ≠ 0 → Retires (.reeveLoop n) s n (d1.setReeve n { r with
        lcount := r.get i.ra % 2 ^ 48 + i.imm * 2 ^ 48, lend := (r.pc + 4 + 2 * i.imm) % 2 ^ 64, pc := (r.pc + 4) % 2 ^ 64 })) ∧
      (r.lcount % 2 ^ 48 ≠ 0 → Does (.reeveLoop n) s (fun t => t = (d1.except n { code := 0x01 } r.pc).2))) ∧
    calls (.reeveCall n) .call (fun r i => (r.pc + 2 * i.imm) % 2 ^ 64) ∧
    calls (.reeveCallq n) .callq (fun r i => (r.pc + 2 * i.imm) % 2 ^ 64) ∧
    calls (.reeveCallr n) .callr (fun r i => (r.get i.ra + i.imm) % 2 ^ 64 / 2 * 2) ∧
    returns (.reeveRet n) .ret ∧ returns (.reeveRetq n) .retq

/-- R198, R199, R311, R322, R323, R325, R328, R332, Tables 11-6, 11-8 and 11-10: the reeve's accesses; what a store leaves in memory is said of memory in the canonical form every step keeps (MemoryStaysCanonical). -/
def Obligations.ReeveAccesses : Prop :=
  ∀ (s : State) (n ecc : Nat),
    let q := 2 ^ 64
    let kept (r : Reeve) (rd v : Nat) (i : RInstr) : Reeve := (r.put rd v).advance i.len
    let ends (c : Instr) (atomic : Bool) (x : Acc × Device) (done : Nat → Reeve → Reeve) : Prop :=
      (∀ v, x.1 = .ok v → Retires c s n (x.2.setReeve n (done v (x.2.reeve n)))) ∧
      (∀ code detail a, x.1 = .fault code detail a →
        Does c s (fun t => t = (x.2.except n { code := code, detail := detail, faddr := a, atomic := atomic } (x.2.reeve n).pc).2)) ∧
      (x.1 = .wait → Does c s (fun t => t = x.2))
    -- an access granted at the matrix, where requests of logical reeve 0 count (R366): nothing else of the device changes
    let Answers (c : Instr) (d1 : Device) (r : Reeve) : Prop :=
      ∃ g, (∀ point ≠ 512, g.get 0 point = d1.grants.get 0 point) ∧ ((d1.reeve n).logical ≠ some 0 → g = d1.grants) ∧
        Retires c s n (({ d1 with grants := g } : Device).setReeve n r)
    let load (c : Nat → Nat → Instr) (op : ROp) (size : RInstr → Nat) (signed : Bool) (lends : Reeve → Bool) (at_ : Reeve → RInstr → Nat) : Prop :=
      ∀ i d1, Fetches s.dev n op i d1 →
        let r := d1.reeve n
        let extend (v : Nat) : Nat := if signed then signExtend (8 * size i) 64 v else v
        ends (c n ecc) false (d1.reeveLoad n (lends r) false (at_ r i) (size i) ecc) (fun v r => kept r i.rd (extend v) i) ∧
        (ecc = 2 → r.tr = false → lends r = false → inSram (at_ r i) (size i) → at_ r i % size i = 0 →
          ∃ d2, d1.reeveLoad n (lends r) false (at_ r i) (size i) ecc = (.fault 0x07 2 (at_ r i), d2)) ∧
        (ecc = 0 → GreenSound d1 (at_ r i) (size i) → r.tr = false → lends r = false → inSram (at_ r i) (size i) →
          ∃ v, sgn64 v = (if signed then Int.bmod (d1.mem.readLE (at_ r i) (size i)) (2 ^ (8 * size i)) else Int.bmod (d1.mem.readLE (at_ r i) (size i)) q) ∧
            Answers (c n ecc) d1 (kept r i.rd v i))
    let store (c : Instr) (op : ROp) (size : RInstr → Nat) (lends : Reeve → Bool) (at_ val : Reeve → RInstr → Nat) : Prop :=
      ∀ i d1, Fetches s.dev n op i d1 →
        let r := d1.reeve n
        ends c false (d1.reeveStore n (lends r) false (at_ r i) (bytesOf (size i) (val r i))) (fun _ r => r.advance i.len) ∧
        (d1.mem.wf = true → r.tr = false → lends r = false → inSram (at_ r i) (size i) → Does c s (fun t =>
          (∀ a, t.mem.byte a = if at_ r i ≤ a ∧ a < at_ r i + size i then BitVec.ofNat 8 (val r i / 2 ^ (8 * (a - at_ r i))) else d1.mem.byte a) ∧
          (r.stepping = false → t.reeve n = r.advance i.len) ∧ t.jobs = d1.jobs ∧ t.crofts = d1.crofts))
    let no (_ : Reeve) : Bool := false
    let below (r : Reeve) : Bool := decide (r.priv ≠ 0)
    let near (r : Reeve) (i : RInstr) : Nat := (r.get i.ra + i.imm) % q
    let stack (r : Reeve) (i : RInstr) : Nat := (r.get 7 + i.imm * 8) % q
    let coded (i : RInstr) : Nat := 2 ^ (i.f10 / 8 % 4)
    load .reeveLdq .ldq (fun _ => 8) false no stack ∧
    load .reeveLdb .ldb (fun _ => 1) true no near ∧ load .reeveLdbu .ldbu (fun _ => 1) false no near ∧
    load .reeveLdh .ldh (fun _ => 2) true no near ∧ load .reeveLdhu .ldhu (fun _ => 2) false no near ∧
    load .reeveLdw .ldw (fun _ => 4) true no near ∧ load .reeveLdwu .ldwu (fun _ => 4) false no near ∧
    load .reeveLdd .ldd (fun _ => 8) false no near ∧
    load .reeveBld .bld coded true below (fun r i => r.get i.ra) ∧ load .reeveBldu .bldu coded false below (fun r i => r.get i.ra) ∧
    store (.reeveStq n) .stq (fun _ => 8) no stack (fun r i => r.get i.rd) ∧
    store (.reeveStb n) .stb (fun _ => 1) no near (fun r i => r.get i.rb) ∧ store (.reeveSth n) .sth (fun _ => 2) no near (fun r i => r.get i.rb) ∧
    store (.reeveStw n) .stw (fun _ => 4) no near (fun r i => r.get i.rb) ∧ store (.reeveStd n) .std (fun _ => 8) no near (fun r i => r.get i.rb) ∧
    store (.reeveBst n) .bst coded below (fun r i => r.get i.ra) (fun r i => r.get i.rb) ∧
    (∀ i d1, Fetches s.dev n .ll i d1 →
      let r := d1.reeve n
      ends (.reeveLl n ecc) false (d1.reeveLL n (r.get i.ra) ecc) (fun v r => kept r i.rd v i) ∧
      (ecc = 0 → GreenSound d1 (r.get i.ra) 8 → r.tr = false → inSram (r.get i.ra) 8 → r.get i.ra % 8 = 0 → Answers (.reeveLl n ecc) d1
        (kept { r with resv := some (r.get i.ra / 64 * 64), locked := true } i.rd (d1.mem.readLE (r.get i.ra) 8) i))) ∧
    (∀ i d1, Fetches s.dev n .sc i d1 →
      let r := d1.reeve n
      let a := r.get i.ra
      ends (.reeveSc n) false (d1.reeveSC n a (r.get i.rb)) (fun v r => kept r i.rd v i) ∧
      (d1.mem.wf = true → r.tr = false → inSram a 8 → a % 8 = 0 → r.stepping = false →
        let holds := r.resv = some (a / 64 * 64)
        Does (.reeveSc n) s (fun t => t.reeve n = kept { r with resv := none, locked := false } i.rd (if holds then 0 else 1) i ∧
          ∀ b, t.mem.byte b = if holds ∧ a ≤ b ∧ b < a + 8 then BitVec.ofNat 8 (r.get i.rb / 2 ^ (8 * (b - a))) else d1.mem.byte b))) ∧
    (∀ swap i d1, Fetches s.dev n (if swap then .aswp else .aadd) i d1 →
      let c : Instr := if swap then .reeveAswp n else .reeveAadd n
      let r := d1.reeve n
      let a := r.get i.ra
      let pair := r.get i.rb + r.get (i.rb + 1) * q
      let w := if i.f10 / 8 % 4 = 2 then 64 else 128
      let old := d1.mem.readLE a 16
      ends c true (d1.reeveAtomic n a swap (if swap then 128 else w) pair) (fun v r => ((r.put i.rd (v % q)).put (i.rd + 1) (v / q)).advance i.len) ∧
      (d1.mem.wf = true → GreenSound d1 a 16 → r.tr = false → inSram a 16 → a % 16 = 0 → r.stepping = false → Does c s (fun t =>
        t.reeve n = ((r.put i.rd (old % q)).put (i.rd + 1) (old / q)).advance i.len ∧
        (∀ j < 128 / w, laneOf w (t.mem.readLE a 16) j = if swap then laneOf w pair j else (laneOf w old j + laneOf w pair j) % 2 ^ w) ∧
        ∀ b, b < a ∨ a + 16 ≤ b → t.mem.byte b = d1.mem.byte b)))

/-- R342 to R348, R312, R344, R518, Tables 12-3 to 12-6: how a reeve is diverted and comes back. -/
def Obligations.ReeveEntersAndReturns : Prop :=
  ∀ (s : State) (n : Nat),
    let d := s.dev
    let q := 2 ^ 64
    -- an entry from reeve `r` (device `d1`) with frame and privilege given: by what writing the frame answers, and in control SRAM
    let enters (c : Instr) (d1 : Device) (r : Reeve) (ev : Event) (frame priv : Nat) : Prop :=
      let w := r.drain
      (∀ v d3, d1.writeBlocks n priv ((frame, w.taskState r.pc) :: w.spillBlocks frame) = (.ok v, d3) →
        Does c s (fun t => TookEntry w ev r.pc frame priv (t.reeve n))) ∧
      (d1.mem.wf = true → r.tr = false → inSram frame 128 → r.res < 15 →
        Does c s (fun t => TookEntry w ev r.pc frame priv (t.reeve n) ∧
          (∀ k v, (frameWords w r.pc)[k]? = some v → t.mem.readLE (frame + 8 * k) 8 = v % q) ∧
          ∀ a, a < frame ∨ frame + 128 ≤ a → t.mem.byte a = d1.mem.byte a))
    let below (a : Nat) : Nat := (a + q - 128) % q
    let frameOf (r : Reeve) : Nat := if r.priv = 0 then below r.tsbp else below (r.drain.get 7)
    let fault (c : Instr) (d1 : Device) (ev : Event) : Prop :=
      let r := d1.reeve n
      (r.iml ≠ 7 → enters c d1 r ev (frameOf r) (if r.priv = 0 then 1 else r.priv)) ∧
      (r.iml = 7 → r.df = true → r.priv ≠ 0 → r.st = 0 → d1.resetUnderWay = false → Does c s (fun t => (t.reeve n).st = 2 ∧ (t.reeve n).pc = 0 ∧ (t.reeve n).logical = r.logical)) ∧
      (∀ v d3, r.iml = 7 → r.df = false → d1.writeBlocks n 3 ((below r.tsbp2, r.drain.taskState r.pc) :: r.drain.spillBlocks (below r.tsbp2)) = (.ok v, d3) →
        Does c s (fun t => (t.reeve n).pc = r.evbase ∧ (t.reeve n).df = true ∧ (t.reeve n).priv = 3 ∧ (t.reeve n).iml = 7 ∧ (t.reeve n).get 6 = below r.tsbp2 ∧
          (t.reeve n).cause = ev.code % 256 + 2 ^ 9 + ev.detail % 256 * 2 ^ 16 + 7 * 2 ^ 24))
    let trap (c : Instr) (d1 : Device) (i : RInstr) (ev : Event) : Prop :=
      let r := (d1.reeve n).advance i.len
      enters c (d1.setReeve n r) r ev (frameOf r) 3
    let halts (c : Instr) (d1 : Device) : Prop := Does c s (fun t => (t.reeve n).halted = true ∧ (t.reeve n).why = 3 ∧ (t.reeve n).stepping = false ∧
      (t.reeve n).pc = (d1.reeve n).pc ∧ (t.rg 14 0 0x010).testBit 0 = true ∧ t.mem = d1.mem ∧ t.jobs = d1.jobs)
    (∀ i d1, Fetches d n .trap i d1 → (d1.reeve n).priv ≠ 0 → trap (.reeveTrap n) d1 i { code := 0x0A, detail := i.ra, trap := true }) ∧
    (∀ i d1, Fetches d n .trap i d1 → (d1.reeve n).priv = 0 → fault (.reeveTrap n) d1 { code := 0x01 }) ∧
    (∀ i d1, Fetches d n .brk i d1 → if d1.fld 14 0 0x044 n 1 = 1 then halts (.reeveBrk n) d1 else trap (.reeveBrk n) d1 i { code := 0x0B, trap := true }) ∧
    (∀ i d1, Fetches d n .brkq i d1 → if d1.fld 14 0 0x044 n 1 = 1 then halts (.reeveBrkq n) d1 else trap (.reeveBrkq n) d1 i { code := 0x0B, trap := true }) ∧
    (∀ d1, d.mayRun n = true → d.fetchAt n (d.reeve n).pc 0 = (.instr none, d1) →
      fault (.illegalInstr n) d1 { code := 0x01 } ∧
      (let r := d1.reeve n
       ∀ v d3 tag j, r.priv = 0 → r.iml ≠ 7 → d1.writeBlocks n 1 ((frameOf r, r.drain.taskState r.pc) :: r.drain.spillBlocks (frameOf r)) = (.ok v, d3) →
        d3.boundJob n = some (tag, j) → d3.job? tag = some j → j.stop = none →
        Does (.illegalInstr n) s (fun t => t.job? tag = some { j with stop := some (match j.sownFail with
          | some f => { status := f.status, detail := f.detail }
          | none => { status := stAborted, detail := 0x02 }) }))) ∧
    (∀ ecc code detail a d1, d.mayRun n = true → d.fetchAt n (d.reeve n).pc ecc = (.fault code detail a, d1) →
      fault (.fetchFault n ecc) d1 { code := code, detail := detail, faddr := a }) ∧
    (∀ code level, d.atBoundary n = true → d.dueInterrupt n = some (code, level) → (d.reeve n).longFlight = false →
      let r := Device.settleLong (d.reeve n)
      enters (.interruptEntry n) (d.setReeve n r) r { code := code, level := level, interrupt := true } (frameOf r) (if r.priv = 0 then 1 else r.priv)) ∧
    (n < 5 → (d.reeve n).st = 0 → d.atBoundary n = false → Does (.interruptEntry (n + 8)) s (fun t => t = d.setReeve n { (d.reeve n) with ipi := true })) ∧
    (∀ i d1 f d2, Fetches d n .rete i d1 → (d1.reeve n).priv ≠ 0 → (d1.reeve n).flight = [] → d1.readBlocks n (d1.reeve n).priv [((d1.reeve n).get 6, 128)] = (.ok [f], d2) →
      let r := d1.reeve n
      let w (k : Nat) : Nat := f / 2 ^ (64 * k) % q
      let cur := w 4 % 16
      let res := w 4 / 16 % 32
      w 4 / 2 ^ 16 % 2 ^ 32 = r.spilled → statusOk (putField (w 1) 6 1 0) = true → w 1 % 4 ≤ r.priv → r.cur = (cur + 2) % 16 → r.res = res + 2 →
      r.get 7 = r.get 6 → r.get 6 ≠ below r.tsbp2 → (r.df = true → (w 1).testBit 6 = true) → d2.reeve n = r →
      ∃ r', Retires (.reeveRete n) s n (d2.setReeve n r') ∧ r'.pc = w 0 ∧ r'.priv = w 1 % 4 ∧ r'.tr = (w 1).testBit 2 ∧ r'.iml = w 1 / 8 % 8 ∧
        r'.df = (w 1).testBit 6 ∧ r'.le = (w 1).testBit 7 ∧ r'.cause = w 2 ∧ r'.faddr = w 3 ∧ r'.cur = cur ∧ r'.res = res ∧ r'.spilled = r.spilled ∧
        r'.lcount = w 5 ∧ r'.lend = w 6 ∧ r'.vl = w 7 ∧ r'.vstart = w 8 ∧ r'.get 6 = w 9 ∧ r'.get 7 = w 10 ∧ (∀ k < 6, r'.get k = r.get k))

/-- R308 to R316, R328 to R330, R335 to R340, R344, R360, R458, R470, Tables 11-2, 11-3, 11-11 and 11-13. -/
def Obligations.ReeveSystemInstructions : Prop :=
  ∀ (s : State) (n : Nat),
    let d := s.dev
    let q := 2 ^ 64
    let goesOn (c : Instr) (op : ROp) : Prop := ∀ i d1, Fetches d n op i d1 → Retires c s n (d1.setReeve n ((d1.reeve n).advance i.len))
    let illegal (c : Instr) (d1 : Device) : Prop := Does c s (fun t => t = (d1.except n { code := 0x01 } (d1.reeve n).pc).2)
    let reads (priv k : Nat) : Bool := decide (k < 12) && (decide (priv ≠ 0) || decide (k = 0) || decide (7 ≤ k))
    let writes (priv k : Nat) : Bool :=
      if priv = 0 then [7, 8, 9, 10].contains k else if priv = 1 then [1, 2, 4, 6, 7, 8, 9, 10, 11].contains k else decide (1 ≤ k) && decide (k ≤ 11)
    let csr (c : Instr) (op : ROp) (new : Nat → Nat → Nat) : Prop := ∀ i d1, Fetches d n op i d1 →
      let r := d1.reeve n
      let v := new (r.cr i.rb) (r.get i.ra)
      let allowed : Bool := writes r.priv i.rb && (!decide (i.rb = 1) || (statusOk v && decide (v % 4 ≤ r.priv))) && (!decide (i.rb = 11) || winptrOk v)
      (allowed = true → ∃ r', Retires c s n (d1.setReeve n r') ∧ (i.rb ≠ 1 → i.rb ≠ 11 → ∀ k, r'.get k = r.get k) ∧
        r'.cr i.rb = (if i.rb = 1 then putField (v % q) 6 1 (if r.df then 1 else 0) else if [3, 4, 5].contains i.rb then v % q / 64 * 64 else v % q) ∧
        (∀ k, 1 ≤ k → k ≠ i.rb → r'.cr k = (r.advance i.len).cr k) ∧ r'.pc = (r.advance i.len).pc) ∧
      (allowed = false → illegal c d1)
    let sows (c : Instr) (op : ROp) (at_ : Reeve → RInstr → Nat) : Prop := ∀ i d1, Fetches d n op i d1 →
      let r := d1.reeve n
      ((d1.boundJob n).isNone = true → illegal c d1) ∧
      ((d1.boundJob n).isSome = true → at_ r i % 128 ≠ 0 → Does c s (fun t => t = (d1.except n { code := 0x02, faddr := at_ r i } r.pc).2)) ∧
      ((d1.boundJob n).isSome = true → at_ r i % 128 = 0 → Does c s (fun t => t = d1.setReeve n { r with sow := some (at_ r i + i.len * q) }))
    goesOn (.reeveNopq n) .nopq ∧ goesOn (.reeveFence n) .fence ∧
    (∀ i d1, Fetches d n .wfi i d1 →
      let r := d1.reeve n
      (r.priv ≠ 0 → Retires (.reeveWfi n) s n (d1.setReeve n { r.advance i.len with wfi := (d1.eligible n).isNone && !r.stepping })) ∧
      (r.priv = 0 → illegal (.reeveWfi n) d1)) ∧
    (∀ i d1, Fetches d n .csrr i d1 →
      let r := d1.reeve n
      (reads r.priv i.rb = true → Retires (.reeveCsrr n) s n (d1.setReeve n ((r.put i.rd (r.cr i.rb)).advance i.len))) ∧
      (reads r.priv i.rb = false → illegal (.reeveCsrr n) d1)) ∧
    csr (.reeveCsrw n) .csrw (fun _ v => v) ∧ csr (.reeveCsrs n) .csrs (fun old v => old ||| v) ∧
    csr (.reeveCsrc n) .csrc (fun old v => old &&& (q - 1 - v)) ∧
    sows (.reeveSow n) .sow (fun r i => r.get i.ra) ∧ sows (.reeveSowq n) .sowq (fun r i => r.get i.rd) ∧
    (∀ i d1 tag j, Fetches d n .sowsync i d1 → d1.boundJob n = some (tag, j) → d1.job? tag = some j →
      let result : Nat := match j.sownFail with
        | some f => f.status % 256 + j.flags % 256 * 2 ^ 8 + f.detail % 256 * 2 ^ 16 + Device.sownIndex j f.instr % 2 ^ 32 * 2 ^ 32
        | none => j.flags % 256 * 2 ^ 8 + 0xFFFFFFFF * 2 ^ 32
      (Device.sownOver j = true → Retires (.reeveSowsync n) s n
        ((d1.setJob tag { j with sownOpen := true }).setReeve n (((d1.reeve n).put i.rd result).advance i.len))) ∧
      (Device.sownOver j = false → Does (.reeveSowsync n) s (fun t => t = d1.setJob tag { j with sownOpen := false }))) ∧
    (∀ i d1 tag j, Fetches d n .exit i d1 → (d1.reeve n).priv = 0 → d1.boundJob n = some (tag, j) → d1.job? tag = some j → Device.sownOver j = true →
      j.stageCells = [] → d1.hasExtent tag = false → (d1.chan j.ch).ledgerQ.any (fun w => decide (w.tag = tag)) = false → j.sownFail = none → j.stop = none →
      (d1.reeve n).stepping = false →
      let code := (d1.reeve n).get i.ra % 256
      Does (.reeveExit n) s (fun t => t.reeve n = (d1.reeve n).advance i.len ∧ t.mem = d1.mem ∧ t.job? tag = some (if code = 0 then { j with sownOpen := true, exitAt := 0, exitRead := false, workDone := true }
        else { j with sownOpen := true, exitAt := 0, exitRead := false, stop := some { status := stAborted, detail := 0x80 ||| code % 128 } }))) ∧
    (∀ i d1, Fetches d n .exit i d1 → (d1.reeve n).priv ≠ 0 → illegal (.reeveExit n) d1) ∧
    (∀ va len tag j a se v d1 d2, (d.reeve n).sow = some (va + len * q) → va < q → d.boundJob n = some (tag, j) → d.job? tag = some j → (d.reeve n).st = 0 →
      (d.reeve n).halted = false → (d.reeve n).stepping = false → j.stop = none → j.workDone = false → d.stoodDown = false → (∀ f ∈ j.faults, f.place ≠ .reeve) →
      j.sownFail = none → j.refuse = none → (∀ v ∈ j.sown, v < Device.sownLimit) → (d.chan j.ch).st.live = true → j.sownCount < 2 ^ 32 - 1 → j.sown.length < 16 → d.journaledControl j = false →
      d.xlate (entSpace (d.entry j.ch)) va .read { user := true } (d.chan j.ch).origin.isSome = (.pa a se, d1) → d1.inReserved (d1.ownPa a) 128 = false → d1.boundJob n = some (tag, j) → d1.journaledControl j = false →
      d1.readHigh (d1.ownPa a) 128 = (.ok v, d2) → d2.job? tag = some j → d2.boundJob n = some (tag, j) → d2.journaledControl j = false →
      Does (.sowRetire n) s (fun t => t.job? tag = some { j with sown := j.sown ++ [v], sownCount := j.sownCount + 1, sownOpen := true } ∧
        ((d2.reeve n).stepping = false → t.reeve n = { (d2.reeve n).advance len with sow := none }) ∧ t.mem = d2.mem)) ∧
    (∀ w rest, (d.reeve n).flight = w :: rest → Does (.scalarResultWriteback n) s (fun t => t = d.setReeve n { (d.reeve n) with
      flight := rest
      regs := if w.bank = 0 then (d.reeve n).regs.set w.ix w.val else (d.reeve n).regs
      lregs := if w.bank = 1 then (d.reeve n).lregs.set w.ix w.val else (d.reeve n).lregs
      mregs := if w.bank ≤ 1 then (d.reeve n).mregs else (d.reeve n).mregs.set w.ix w.val })) ∧
    Does (.llReservationTimeout n) s (fun t => t = d.setReeve n { (d.reeve n) with resv := none }) ∧
    (n < 5 → (d.reeve n).le = true → Does (.longUnitReady n) s (fun t => t = d.setReeve n { (d.reeve n) with longReady := true })) ∧
    (n < 5 → (d.reeve n).st = 0 → 3 ≤ d.power.step → d.watchdogFrozen n = false →
      Does (.watchdogWarn n) s (fun t => t = d.setReeve n { (d.reeve n) with warn := true }) ∧
      (d.resetUnderWay = false → Does (.watchdogExpiry n) s (fun t => t.reeve n = { st := 2, logical := (d.reeve n).logical, haltReq := (d.reeve n).haltReq || (d.reeve n).halted } ∧
        (∀ tag j, d.boundJob n = some (tag, j) → d.job? tag = some j → ∃ k, t.job? tag = some k ∧ k.st = .finished ∧ k.reeve = none ∧
          (j.stop = none → j.sownFail = none → k.status = stAborted ∧ k.detail = 0x03)))) ∧
      (d.resetUnderWay = true → Does (.watchdogExpiry n) s (fun t => t = d))) ∧
    (n < 5 → d.takingOver n = true → 3 ≤ d.power.step → d.watchdogFrozen n = false → d.resetUnderWay = false →
      Does (.watchdogExpiry n) s (fun t => t.reeve n = { st := 2 } ∧ t.jobs = d.jobs)) ∧
    (∀ m, (d.reeve n).st = 2 → (d.reeve n).logical.isSome = true → (List.range 5).find? (fun k => decide ((d.reeve k).st = 1)) = some m →
      Does (.reeveSelfTestDone n true) s (fun t => (t.reeve m).st = 0 ∧ (t.reeve m).logical = (d.reeve n).logical ∧ (t.reeve m).pc = 0 ∧
        (t.reeve n).logical = none ∧ ((t.reeve n).st = 1 ∨ (t.reeve n).st = 3)) ∧
      Does (.reeveSelfTestDone n false) s (fun t => (t.reeve m).st = 0 ∧ (t.reeve m).logical = (d.reeve n).logical ∧ (t.reeve n).st = 3 ∧ (t.reeve n).logical = none))

/-- R350 to R357, R359, R360, Tables 12-9 and 12-10: the long unit. -/
def Obligations.LongInstructionsActElementwise : Prop :=
  ∀ (s : State) (n : Nat),
    let can (r : Reeve) (i : RInstr) : Prop := i.longOk = true ∧ (i.op = .lsize ∨ r.vl ≤ i.vlmax) ∧ r.le = true ∧ r.longReady = true
    let on (r : Reeve) (i : RInstr) (e : Nat) : Bool := decide (r.vstart ≤ e) && decide (e < r.vl) && (!i.masked || (r.mreg 0).testBit e)
    let runs (c : Instr) (op : ROp) (P : RInstr → Reeve → Reeve → Prop) : Prop := ∀ i d1, Fetches s.dev n op i d1 → can (d1.reeve n) i →
      ∃ r', Retires c s n (d1.setReeve n r') ∧ r'.vstart = 0 ∧ r'.pc = ((d1.reeve n).advance i.len).pc ∧ r'.status = (d1.reeve n).status ∧ P i (d1.reeve n) r'.drain
    let each (c : Instr) (op : ROp) (f : Reeve → RInstr → Nat → Nat) : Prop := runs c op (fun i r z => z.vl = r.vl ∧ ∀ e < i.vlmax, z.elem i.ew i.rd e =
      if on r i e then f r i e % 2 ^ i.ew else r.elem i.ew i.rd e)
    let both (c : Instr) (op : ROp) (f : Nat → Nat → Nat → Nat) : Prop := each c op (fun r i e => f i.ew (r.elem i.ew i.ra e) (r.elem i.ew i.rb e))
    let addr (r : Reeve) (i : RInstr) (e : Nat) : Nat :=
      (r.get i.ra + (match i.op with
        | .lgets => e * r.get i.rb
        | .lputs => e * r.get i.rb
        | .lgath => r.elem i.ew i.rb e % 2 ^ 64
        | .lscat => r.elem i.ew i.rb e % 2 ^ 64
        | _ => e * (i.ew / 8))) % 2 ^ 64
    -- the elements that a load or store has not done: from VSTART, or from where its earlier steps stopped; 16 of them are a step's (R359)
    let left (r : Reeve) (i : RInstr) : List Nat :=
      let from_ : Nat := match r.longAt with
        | some (pc, e) => if pc = r.pc then e else r.vstart
        | none => r.vstart
      (List.range r.vl).filter (fun e => decide (from_ ≤ e) && (!i.masked || (r.mreg 0).testBit e))
    let turn (r : Reeve) (i : RInstr) : List Nat := (left r i).take 16
    let flat (d1 : Device) (i : RInstr) : Prop :=
      let r := d1.reeve n
      r.tr = false ∧ r.longFlight = false ∧ ∀ e ∈ turn r i, addr r i e % (i.ew / 8) = 0 ∧ inSram (addr r i e) (i.ew / 8) ∧ GreenSound d1 (addr r i e) (i.ew / 8)
    let loads (c : Instr) (op : ROp) : Prop := ∀ i d1, Fetches s.dev n op i d1 → can (d1.reeve n) i → flat d1 i →
      let r := d1.reeve n
      -- its requests are granted at the matrix, where those of logical reeve 0 count (R366)
      ∃ r' g, (∀ point ≠ 512, g.get 0 point = d1.grants.get 0 point) ∧ (r.logical ≠ some 0 → g = d1.grants) ∧ r'.vl = r.vl ∧ r'.regs = r.regs ∧
        (∀ e < i.vlmax, r'.elem i.ew i.rd e = if e ∈ turn r i then d1.mem.readLE (addr r i e) (i.ew / 8) else r.elem i.ew i.rd e) ∧
        (match (left r i)[16]? with
          | none => Retires c s n (({ d1 with grants := g } : Device).setReeve n r') ∧ r'.vstart = 0 ∧ r'.pc = (r.advance i.len).pc
          | some e => Does c s (fun t => t = (({ d1 with grants := g } : Device).setReeve n r')) ∧ r'.vstart = r.vstart ∧ r'.pc = r.pc ∧ r'.longAt = some (r.pc, e))
    let stores (c : Instr) (op : ROp) : Prop := ∀ i d1, Fetches s.dev n op i d1 → can (d1.reeve n) i → flat d1 i → d1.mem.wf = true →
      let r := d1.reeve n
      let k := i.ew / 8
      Does c s (fun t => (match (left r i)[16]? with
          | none => r.stepping = false → t.reeve n = { r with vstart := 0, longAt := none, longFlight := false }.advance i.len
          | some e => t.reeve n = { r with longAt := some (r.pc, e), longFlight := false }) ∧
        (∀ a, (∀ e ∈ turn r i, a < addr r i e ∨ addr r i e + k ≤ a) → t.mem.byte a = d1.mem.byte a) ∧
        ∀ e ∈ turn r i, (∀ g ∈ turn r i, e < g → addr r i g + k ≤ addr r i e ∨ addr r i e + k ≤ addr r i g) →
          t.mem.readLE (addr r i e) k = r.elem i.ew i.rd e)
    let stops (c : Instr) (op : ROp) : Prop := ∀ i d1, Fetches s.dev n op i d1 →
      let r := d1.reeve n
      let legal : Prop := i.longOk = true ∧ (op = .lsize ∨ r.vl ≤ i.vlmax)
      (¬ legal → Does c s (fun t => t = (d1.except n { code := 0x01 } r.pc).2)) ∧
      (legal → r.le = false → Does c s (fun t => t = (d1.except n { code := 0x0C } r.pc).2)) ∧
      (legal → r.le = true → r.longReady = false → Does c s (fun t => t = d1))
    (∀ i d1, Fetches s.dev n .lsize i d1 → can (d1.reeve n) i →
      let r := d1.reeve n
      let vl := min (r.get i.ra) (i.group * 4096 / i.ew)
      Retires (.reeveLsize n) s n (d1.setReeve n (({ r with vl := vl, vstart := 0 }.put i.rd (r.get i.ra - vl)).advance i.len))) ∧
    both (.reeveLadd n) .ladd (fun _ a b => a + b) ∧ both (.reeveLsub n) .lsub (fun w a b => a + 2 ^ w - b) ∧ both (.reeveLmul n) .lmul (fun _ a b => a * b) ∧
    both (.reeveLand n) .land (fun _ a b => a &&& b) ∧ both (.reeveLor n) .lor (fun _ a b => a ||| b) ∧ both (.reeveLxor n) .lxor (fun _ a b => a ^^^ b) ∧
    both (.reeveLcopy n) .lcopy (fun _ a _ => a) ∧ each (.reeveLfill n) .lfill (fun r i _ => r.get i.ra) ∧
    runs (.reeveLtest n) .ltest (fun i r z => ∀ e < i.vlmax, (z.mreg i.rd).testBit e =
      if on r i e then
        let a := r.elem i.ew i.ra e
        let b := r.elem i.ew i.rb e
        match i.rd / 8 % 4 with
        | 0 => decide (a = b)
        | 1 => decide (a < b)
        | _ => decide (laneInt true i.ew a < laneInt true i.ew b)
      else (r.mreg i.rd).testBit e) ∧
    runs (.reeveLsum n) .lsum (fun i r z => z.get i.rd = (((List.range i.vlmax).filter (on r i)).map (r.elem i.ew i.ra)).sum % 2 ^ 64) ∧
    loads (.reeveLget n) .lget ∧ loads (.reeveLgets n) .lgets ∧ loads (.reeveLgath n) .lgath ∧ loads (.reeveLprobe n) .lprobe ∧
    stores (.reeveLput n) .lput ∧ stores (.reeveLputs n) .lputs ∧ stores (.reeveLscat n) .lscat ∧
    stops (.reeveLadd n) .ladd ∧ stops (.reeveLget n) .lget ∧ stops (.reeveLsize n) .lsize

/-- R219, R223, R238 to R240, R243, R260, Table 8-9: the doorbell page's writes. -/
def Obligations.OwnersDriveTheirChannels : Prop :=
  ∀ (s : State) (p fn ch v : Nat), let d := s.dev
    OwnsPage d p fn ch → v < 2 ^ 32 →
    -- the entry of the channel counts as used where it is cached, and is read where it is not
    let u := d.lookOwner ch
    let c := u.chan ch
    let deaf := c.st = .off ∨ c.st = .enabling ∨ c.st = .broken
    let refused (all : Bool) : Device :=
      let d1 := u.setChan ch { c with refused := (c.refused + 1) % 2 ^ 32 }
      if all then d1.count 4 0 0x078 else d1
    let ignored : Device := u.setChan ch { c with cmdIgnored := true }
    let nj := 2 ^ entJrLog2 (d.entry ch)
    let nc := 2 ^ entCrLog2 (d.entry ch)
    let nf := 2 ^ entFqLog2 (d.entry ch)
    let takes := ringIndex nj v ∧ ringDist nj c.accept v ≤ nj ∧ ringDist nj c.accept c.tail ≤ ringDist nj c.accept v
    let waits (off : Nat) : Prop := ¬ deaf ∧ Device.mustHold c off = true
    let acts (off : Nat) : Prop := ¬ deaf ∧ Device.mustHold c off = false
    let held (off : Nat) (t : Device) : Prop := t = u.setChan ch { c with waits := c.waits ++ [(off, v)] }
    let crOk := ringIndex nc v ∧ ringDist nc c.crHead v ≤ ringDist nc c.crHead c.done
    let fqOk := ringIndex nf v ∧ ringDist nf c.fqHead v ≤ ringDist nf c.fqHead c.fqTail
    (acts 0x000 ∧ takes → Does (.doorbell p fn ch v) s (fun t => t = u.setChan ch { c with tail := v })) ∧
    (deaf ∨ (acts 0x000 ∧ ¬ takes) → Does (.doorbell p fn ch v) s (fun t => t = refused true)) ∧
    (waits 0x000 → Does (.doorbell p fn ch v) s (held 0x000)) ∧
    (acts 0x00C ∧ crOk → Does (.crHeadWrite p fn ch v) s (fun t => t = u.setChan ch { c with crHead := v })) ∧
    (acts 0x00C ∧ ¬ crOk → Does (.crHeadWrite p fn ch v) s (fun t => t = refused false)) ∧
    (waits 0x00C → Does (.crHeadWrite p fn ch v) s (held 0x00C)) ∧
    (deaf → Does (.crHeadWrite p fn ch v) s (fun t => t = refused true) ∧ Does (.fqHeadWrite p fn ch v) s (fun t => t = refused true)) ∧
    (acts 0x014 ∧ ¬ fqOk → Does (.fqHeadWrite p fn ch v) s (fun t => t = refused false)) ∧
    (waits 0x014 → Does (.fqHeadWrite p fn ch v) s (held 0x014)) ∧
    (acts 0x014 ∧ fqOk → v = c.fqHead → Does (.fqHeadWrite p fn ch v) s (fun t => t = u.setChan ch c)) ∧
    (∀ act d1 tag j, acts 0x014 ∧ fqOk → ringDist nf c.fqHead v = 1 →
      u.readHigh (Device.fqPa (d.entry ch) c.fqHead + 2) 1 = (.ok act, d1) →
      (d1.jobsOf ch).find? (fun e => e.2.faults.any (fun f => f.slot = some c.fqHead)) = some (tag, j) →
      let left := j.faults.filter (fun f => f.slot ≠ some c.fqHead)
      (act = 0 → left = [] → Does (.fqHeadWrite p fn ch v) s (fun t => (t.chan ch).fqHead = v ∧ (∃ k, t.job? tag = some k ∧ k.faults = [] ∧ k.st = .running) ∧
        (∀ n, ∀ st ∈ (t.croft n).strips, st.tk.job = tag → st.parked = false) ∧
        ((∀ e ∈ d1.crofts, ∀ st ∈ e.2.strips, st.tk.job = tag → st.parked = true → st.tk.paired = d1.effPaired (d1.gov j)) →
          t.job? tag = some { j with faults := [], st := .running }))) ∧
      (act = 0 → left ≠ [] → Does (.fqHeadWrite p fn ch v) s (fun t => (t.chan ch).fqHead = v ∧ t.job? tag = some { j with faults := left })) ∧
      (∀ f, act ≠ 0 → j.stop = none → Device.lowestFault j.faults = some f →
        (f.place = .copy ∨ f.place = .reeve ∨ (∃ k, f.place = .finalWrite k) ∨ (∃ k, f.place = .commit k) → (dsKind j.desc ≠ 1 ∨ (f.place = .reeve ∧ j.sownFail = none ∧ ∀ n, j.reeve = some n → (d1.reeve n).sow = none)) →
          Does (.fqHeadWrite p fn ch v) s (fun t => t.job? tag = some { j with
            stop := some { status := 0x20, detail := f.cause, instr := f.instr, element := f.element } })) ∧
        (∀ n, f.place = .reeve → j.reeve = some n → (d1.reeve n).sow.isSome = true → Does (.fqHeadWrite p fn ch v) s (fun t =>
          ∃ k, t.job? tag = some k ∧ k.sown = j.sown ++ [Device.sownStop 0x20 f.cause] ∧ k.stop = none ∧ ∀ g ∈ k.faults, g.place ≠ .reeve)) ∧
        (∀ c1 st, f.place = .strip c1 st → Does (.fqHeadWrite p fn ch v) s (fun t =>
          ∃ k, t.job? tag = some k ∧ k.faults = j.faults.filter (fun g => decide (g.place = .reeve)) ∧ k.st ≠ .running)))) ∧
    ((c.st = .off ∨ c.st = .broken) ∧ c.cmdBusy = false ∧ d.pwrState ≠ 2 → Does (.enable p fn ch) s (fun t => t = u.setChan ch { c with
      st := .enabling, cmdBusy := true, entry := none, windows := [], recovering := true, abortAfter := false, yielded := false, acceptStopped := false })) ∧
    (¬ ((c.st = .off ∨ c.st = .broken) ∧ c.cmdBusy = false ∧ d.pwrState ≠ 2) → Does (.enable p fn ch) s (fun t => t = ignored)) ∧
    -- whether the places of the channel's header serve at once
    let serves : Bool := d.placesServe (d.entry ch) && !d.power.mute
    (c.st = .run ∧ c.cmdBusy = false ∧ c.mirror ≠ .mirrored → Does (.pause p fn ch) s (fun t => (if serves then (t.chan ch).st = .paused ∧ hdrPaused (t.chan ch).hdr = true
      else t.chan ch = { c with cmdBusy := true, pauseOwed := some (true, false) }) ∧ t.jobs = d.jobs ∧
      (∀ n ≠ ch, t.chan n = d.chan n) ∧ t.crofts = d.crofts)) ∧
    (c.st = .paused ∧ c.cmdBusy = false ∧ c.mirror ≠ .mirrored → Does (.resume p fn ch) s (fun t => (if serves then (t.chan ch).st = .run ∧ hdrPaused (t.chan ch).hdr = false
      else t.chan ch = { c with cmdBusy := true, pauseOwed := some (false, false) }) ∧ t.jobs = d.jobs ∧
      (∀ n ≠ ch, t.chan n = d.chan n) ∧ t.crofts = d.crofts)) ∧
    (¬ (c.st = .run ∧ c.cmdBusy = false) → Does (.pause p fn ch) s (fun t => t = ignored)) ∧
    (¬ (c.st = .paused ∧ c.cmdBusy = false) → Does (.resume p fn ch) s (fun t => t = ignored)) ∧
    (c.st = .enabling → Does (.abort p fn ch) s (fun t => t = u.setChan ch { c with abortAfter := true })) ∧
    (c.st = .run ∨ c.st = .paused ∨ c.st = .draining → Does (.abort p fn ch) s (fun t =>
      (c.st = .draining → (t.chan ch).st = .draining) ∧
      (c.st ≠ .draining → serves = true → c.mirror ≠ .mirrored → (t.chan ch).st = .paused ∧ hdrPaused (t.chan ch).hdr = true) ∧
      (∀ tag j, d.job? tag = some j → j.ch = ch → j.over = false → d.inHandler j = false →
        (∃ k, t.job? tag = some k ∧ k.st = .finished ∧ k.chains = [] ∧ k.status = match j.stop, j.sownFail with
          | some f, _ => f.status
          | none, some f => f.status
          | none, none => 0x40) ∧
        { tag := tag, step := 7 } ∈ (t.chan ch).ledgerQ ∧ ∀ n, ∀ st ∈ (t.croft n).strips, st.tk.job ≠ tag) ∧
      (∀ tag j, d.job? tag = some j → j.ch = ch → j.over = false → d.inHandler j = true → j.stop = none → j.sownFail = none →
        t.job? tag = some { j with stop := some { status := 0x40 } }) ∧
      (∀ tag j, d.job? tag = some j → (j.over = true ∨ ∀ e ∈ d.jobs, e.1 = tag → e.2.ch ≠ ch) → t.job? tag = some j))) ∧
    (c.st = .off ∨ c.st = .broken → Does (.abort p fn ch) s (fun t => t = ignored)) ∧
    ((c.st = .run ∨ c.st = .paused) ∧ c.cmdBusy = false → Does (.drain p fn ch) s (fun t => t = u.setChan ch { c with st := .draining, cmdBusy := true })) ∧
    (¬ ((c.st = .run ∨ c.st = .paused) ∧ c.cmdBusy = false) → Does (.drain p fn ch) s (fun t => t = ignored)) ∧
    (v % 2 = 1 → Does (.commit p fn ch v) s (fun t => t = u.setChan ch { c with pend := some (c.shShare, c.shMode) }))

/-- R225 to R234, R250: jobs from the ring to FINISHED. -/
def Obligations.JobsPassThroughTheirStates : Prop :=
  ∀ (s : State) (ch tag : Nat) (j : Job), let d := s.dev
    let c := d.chan ch
    -- the channel as its entry, used for the fetch, is stamped (R219)
    let u := d.useEntry ch
    let e := d.entry ch
    let nj := 2 ^ entJrLog2 e
    let ix := ixAdvance nj c.accept c.fetched.length
    let slot := ringPa e (entJrBase e) + ix % 2 ^ 20 * 64
    let adds (f : Fetched) (d1 : Device) : Prop :=
      Does (.descriptorFetch ch) s (fun t => t = d1.setChan ch { u.chan ch with fetched := c.fetched ++ [f] })
    let goes := c.st = .run ∧ c.acceptStopped = false ∧ c.invalidating = false ∧ d.stoodDown = false
    (goes ∧ c.entry.isSome = true ∧ ix ≠ c.tail ∧ d.hostServes (entPort e) = true ∧ ixAdvance nj c.accept (c.fetched.length + 1) = c.tail →
      (∀ v d1, u.readFor 4 slot 64 = (.ok v, d1) → adds { jidx := ix, desc := v, decided := descVerdict e d.stroke v } d1) ∧
      (∀ d1, u.readFor 4 slot 64 = (.poison, d1) → adds { jidx := ix, desc := 0, decided := some { status := 0x31 } } d1) ∧
      (∀ d1, u.readFor 4 slot 64 = (.lost, d1) ∨ u.readFor 4 slot 64 = (.err, d1) → adds { jidx := ix, desc := 0, decided := some { status := 0x30 } } d1)) ∧
    (∀ w more, c.ledgerQ = w :: more → w.sent = false → d.power.mute = false → d.placesServe e = true → d.job? w.tag = some j → c.mirror ≠ .mirrored → c.pauseOwed = none →
      w.step ≠ 1 → Does (.ledgerWriteDurable ch) s (fun t => t.job? w.tag = some (Device.stepJob w j) ∧ (t.chan ch).ledgerQ = more ∧
        (d.mem.wf = true → d.computeOff = false → hasNear e = true → w.tag < 262144 → ∀ copy < 2, d.rangeLost (nearRecPa w.tag copy) 128 = false →
          HbmHolds t (nearRecPa w.tag copy) (Device.recOf w.tag (Device.stepJob w j)).bytes))) ∧
    (∀ f rest, c.ledgerQ = [] → c.fetched = f :: rest → f.tag = none → goes → c.entry.isSome = true → d.hostServes (entPort e) = true → c.pauseOwed = none → d.tagFree ch = true → d.slotFree ch = true → d.placesServe e = true →
      d.farSlotFree e c.seq = true → Does (.ledgerWriteDurable ch) s (fun t => ∃ g, (c.headTag = none → g ∉ d.usedTags) ∧ (∀ h, c.headTag = some h → g = h) ∧
        (t.chan ch).fetched = { f with tag := some g, durable := decide (c.mirror ≠ .mirrored) } :: rest ∧ t.jobs = d.jobs ∧
        (d.mem.wf = true → d.computeOff = false → hasNear e = true → g < 262144 → ∀ copy < 2, d.rangeLost (nearRecPa g copy) 128 = false →
          HbmHolds t (nearRecPa g copy) (d.openRec ch g f).bytes))) ∧
    (∀ f rest g, c.fetched = f :: rest → f.tag = some g → f.durable = true → c.st = .run → d.stoodDown = false → c.invalidating = false → c.acceptStopped = false → d.slotFree ch = true →
      c.entry.isSome = true → d.hostServes (entPort e) = true → c.pauseOwed = none →
      Does (.jobAccept ch) s (fun t => (t.chan ch).seq = (c.seq + 1) % 2 ^ 64 ∧ (t.chan ch).accept = ixAdvance nj c.accept 1 ∧ (t.chan ch).fetched = rest ∧
        ∃ k, t.job? g = some k ∧ k.ch = ch ∧ k.seq = c.seq ∧ k.jidx = f.jidx ∧ k.desc = f.desc ∧ k.acceptBell = d.bellNow ∧
          (d.verdict ch f = none → k.st = .waiting) ∧
          (∀ x, d.verdict ch f = some x → k.st = .finished ∧ k.status = x.status ∧ k.detail = x.detail ∧ { tag := g, step := 7 } ∈ (t.chan ch).ledgerQ))) ∧
    (d.job? tag = some j →
      let cj := (d.useEntry j.ch).chan j.ch
      (MayStart d j → Settled cj →
        (dsKind j.desc = 0 → Does (.streamJob tag) s (fun t =>
          (∃ b, t.job? tag = some { j with st := .running, started := true, gov := cj.entry, clamped := b, workDone := j.workDone || decide (dsCount j.desc = 0) }) ∧
          t.chan j.ch = { cj with ledgerQ := cj.ledgerQ ++ [{ tag := tag, step := 2 }] } ∧ t.mem = d.mem)) ∧
        (∀ n, dsKind j.desc = 1 → 3 ≤ d.power.step → j.exitWith = none → d.freeReeve = some n → Does (.controlJob tag) s (fun t =>
          (∃ k, t.job? tag = some k ∧ k.st = .running ∧ k.started = true ∧ k.reeve = some n ∧ k.sown = [] ∧ k.sownOpen = true) ∧
          t.chan j.ch = { cj with ledgerQ := cj.ledgerQ ++ [{ tag := tag, step := 2 }] } ∧
          (t.reeve n).pc = dsProgram j.desc ∧ (t.reeve n).status = 0x84 ∧ (t.reeve n).regs = [(0, dsArg j.desc), (1, j.ch), (2, j.seq)] ∧
          (t.reeve n).resv = none ∧ (t.reeve n).logical = (d.reeve n).logical)) ∧
        (dsKind j.desc = 3 → Does (.fenceJob tag) s (fun t => (∃ k, t.job? tag = some k ∧ k.st = .finished ∧ k.status = 0 ∧ k.seq = j.seq) ∧
          (t.chan j.ch).ledgerQ = cj.ledgerQ ++ [{ tag := tag, step := 7 }])) ∧
        (dsKind j.desc = 4 → Does (.markJob tag) s (fun t =>
          (∃ k, t.job? tag = some k ∧ k.st = .finished ∧ k.status = 0 ∧ k.finishBell = d.bellNow ∧ k.finishFree = d.bellFree) ∧
          (t.chan j.ch).ledgerQ = cj.ledgerQ ++ [{ tag := tag, step := 7 }]))) ∧
      (d.stroke < dsNotBefore j.desc ∨ (dsDeadline j.desc ≠ 0 ∧ dsDeadline j.desc ≤ d.stroke) ∨ (∃ e ∈ d.jobs, e.2.ch = j.ch ∧ e.2.seq < j.seq ∧ e.2.started = false ∧ e.2.over = false ∧ e.2.decided = false ∧ dsKind e.2.desc ≠ 4) →
        Does (.streamJob tag) s (fun t => t = d) ∧ (j.exitWith = none → Does (.controlJob tag) s (fun t => t = d)) ∧ Does (.fenceJob tag) s (fun t => t = d) ∧ Does (.markJob tag) s (fun t => t = d)) ∧
      (cj.st.live = true → (j.st = .running ∨ j.st = .parked) → d.stoodDown = false → ∀ f : Fail, (j.stop = some f ∧ d.inHandler j = false ∨ j.stop = none ∧ j.workDone = true ∧ f = { status := 0 }) →
        Does (.jobFinish tag) s (fun t => (∃ k, t.job? tag = some k ∧ k.st = .finished ∧ k.status = f.status ∧ k.detail = f.detail ∧ k.instr = (if dsKind j.desc = 1 then 0xFFFF else f.instr) ∧
            k.element = (if dsKind j.desc = 1 then 0 else f.element) ∧ k.finishBell = d.bellNow ∧ k.chains = [] ∧ k.flags = j.flags ||| d.parkedFlags tag j) ∧
          (t.chan j.ch).ledgerQ = cj.ledgerQ ++ [{ tag := tag, step := 7 }] ∧ (∀ n, ∀ st ∈ (t.croft n).strips, st.tk.job ≠ tag) ∧
          ((∀ e ∈ d.crofts, ∀ st ∈ e.2.strips, st.tk.job = tag → Device.passedStores st = []) → t.mem = d.mem))))

/-- R174, R226, R233, R294: COPY/FILL. -/
def Obligations.CopyAndFillMovePieces : Prop :=
  ∀ (s : State) (tag : Nat) (j : Job), let d := s.dev
    let cj := d.chan j.ch
    let cmd := if dsFill j.desc then Instr.fillJob tag else Instr.copyJob tag
    let other := if dsFill j.desc then Instr.copyJob tag else Instr.fillJob tag
    d.job? tag = some j → dsKind j.desc = 2 →
    Does other s (fun t => t = d) ∧
    (MayStart d j → Settled cj → Does cmd s (fun t => (∃ b, t.job? tag = some { j with st := .running, started := true, gov := cj.entry, clamped := b }) ∧
      t.chan j.ch = { (d.useEntry j.ch).chan j.ch with ledgerQ := cj.ledgerQ ++ [{ tag := tag, step := 2 }] } ∧ t.mem = d.mem)) ∧
    (j.st = .running → j.startedDurable = true → j.workDone = false → j.stop = none → d.stoodDown = false → cj.st.live = true →
      (dsBytes j.desc ≤ j.copied → Does cmd s (fun t => t = d.setJob tag { j with workDone := true })) ∧
      (j.copied < dsBytes j.desc → cj.quota = 0 → d.pieceWaits j = true → Does cmd s (fun t => t = d)) ∧
      (j.copied < dsBytes j.desc → cj.quota = 0 → d.pieceWaits j = false →
        let left := 4096 - j.copied % 65536 / 16
        -- a COPY's unit comes from a read of on-module memory, kept where its page is a side-effect one, or from a block that is kept (R294)
        let held (va v : Nat) (d2 : Device) : Prop :=
          (∃ at_ n b, j.copyBuf = some (at_, n, b) ∧ at_ ≤ j.copied ∧ j.copied + 16 ≤ at_ + n ∧ v = b / 2 ^ (8 * (j.copied - at_)) % 2 ^ 128 ∧ d2 = d) ∨
          (j.copyBuf = none ∧ ∃ qs se d1 dr, d.sowerXlates j.ch .read (Device.pieceHolds j.copied va) [(va, 16)] = (.ok qs se, d1) ∧
            (let r := regionOf (d1.ownPa ((qs.map (fun p => p.2.1)).headD 0))
             r = .hbm ∨ r = .granary) ∧ d1.readParts j.ch greenSlice [] va qs = (.ok v, dr) ∧
            d2 = if se then dr.upJob tag (fun k => { k with copyBuf := some (j.copied, 16, v) }) else dr)
        (∀ off runs d1 k, d.copyUnits tag j left j.runs j.copied = (off, runs, none, d1) → d1.job? tag = some k →
          Does cmd s (fun t => t = d1.setJob tag { k with copied := off, runs := runs, workDone := decide (dsBytes j.desc ≤ off) })) ∧
        (∀ v d2 pa se d3 ss d4, left = 1 → (dsFill j.desc = true → v = dsPattern j.desc ∧ d2 = d) →
          (dsFill j.desc = false → held (dsProgram j.desc + j.copied) v d2) →
          d2.sowerXlates j.ch .write (Device.pieceHolds j.copied (dsDst j.desc + j.copied)) (pageParts (dsDst j.desc + j.copied) 16) = (.ok [(dsDst j.desc + j.copied, pa, 16)] se, d3) →
          d.copyUnit tag j j.copied = (.ok ss, .write, d4) → regionOf pa = .hbm → d3.mem.wf = true → (d4.job? tag).isSome = true →
          Does cmd s (fun t => HbmHolds t pa (bytesOf 16 v) ∧ ∃ k, t.job? tag = some k ∧ k.copied = j.copied + 16 ∧ k.workDone = decide (dsBytes j.desc ≤ j.copied + 16))) ∧
        (∀ c v a off runs d1 k0, entFailOnFault (d1.gov k0) = false → d.copyUnits tag j left j.runs j.copied = (off, runs, some (.cause c v, a), d1) → d1.job? tag = some k0 →
          dsBytes j.desc > off →
          Does cmd s (fun t => ∃ k f, t.job? tag = some k ∧ k.copied = off ∧ (k.st = .parked ∧ f ∈ k.faults ∧ f.cause = c ∧ f.addr = v ∧ f.instr = 0xFFFF ∧ f.element = off / 16 ∨ k.stop.isSome = true)))))

/-- R218, R221, R236, R237, R240 to R242, R250, R260, R559: a channel's records and its entry. -/
def Obligations.ChannelsKeepTheirRecords : Prop :=
  ∀ (s : State) (ch : Nat), let d := s.dev
    let c := d.chan ch
    let e := d.entry ch
    let nc := 2 ^ entCrLog2 e
    let nf := 2 ^ entFqLog2 e
    (∀ tag j r d1, c.st.live = true → d.power.mute = false → d.oldestOpen ch = some (tag, j) → j.st = .finished → j.finishDurable = true → d.farOwed tag = false →
      let w := d.recordOf j c.done
      (d.useEntry ch).writeFor 4 (Device.crPa e c.done) (bytesOf 32 w) = (.ok r, d1) →
      let halts := entHaltOnError (d.gov j) = true ∧ j.status ≠ 0 ∧ (c.st = .run ∨ c.st = .draining)
      Does (.completionRecordWrite ch) s (fun t => (t.chan ch).done = ixAdvance nc c.done 1 ∧ t.job? tag = some { j with st := .complete } ∧
        (halts → d.placesServe e = true → c.mirror ≠ .mirrored → (t.chan ch).st = .paused ∧ hdrPaused (t.chan ch).hdr = true) ∧ (¬ halts → (t.chan ch).st = c.st ∧ t.mem = d1.mem) ∧
        (¬ halts → d.mem.wf = true → regionOf (Device.crPa e c.done) = .hbm → HbmHolds t (Device.crPa e c.done) (bytesOf 32 w))) ∧
      (j.status < 256 → j.flags < 256 → j.detail < 256 → j.instr < 2 ^ 16 → j.seq < 2 ^ 64 → j.element < 2 ^ 40 →
        field w 0 8 = j.status ∧ field w 8 8 = j.flags ∧ field w 16 8 = j.detail ∧ w.testBit 24 = !c.done.testBit 31 ∧ w.testBit 25 = j.replayed ∧
        w.testBit 26 = j.adopted ∧ field w 28 4 = 0 ∧ field w 32 16 = j.instr ∧ field w 48 16 = dsTag j.desc ∧ field w 64 64 = j.seq ∧
        field w 128 40 = j.element ∧ field w 168 24 = 0 ∧
        (dsKind j.desc = 4 → w.testBit 27 = j.finishFree ∧ w / 2 ^ 192 = j.finishBell) ∧ (dsKind j.desc ≠ 4 → w.testBit 27 = d.bellFree ∧ w / 2 ^ 192 = d.bellNow))) ∧
    (∀ tag j f r d1, c.st.live = true → d.unposted ch = some (tag, j, f) → ringDist nf c.fqHead c.fqTail < nf → d.placesServe e = true →
      let w := Device.faultEntry j f c.fqTail
      d.writeHigh (Device.fqPa e c.fqTail) (bytesOf 32 w) = (.ok r, d1) →
      Does (.faultEntryPost ch) s (fun t => (t.chan ch).fqTail = ixAdvance nf c.fqTail 1 ∧ hdrFqTail (t.chan ch).hdr = ixAdvance nf c.fqTail 1 % 2 ^ 32 ∧
        (∃ k, t.job? tag = some k ∧ k.faults = Device.slotFirst c.fqTail j.faults) ∧
        (d.mem.wf = true → d.latent = [] → regionOf (Device.fqPa e c.fqTail) = .hbm → HbmHolds t (Device.fqPa e c.fqTail) (bytesOf 32 w))) ∧
      (f.cause < 256 → f.access < 4 → f.instr < 2 ^ 16 → j.seq < 2 ^ 64 → f.addr < 2 ^ 64 → f.element < 2 ^ 40 →
        field w 0 8 = f.cause ∧ field w 8 2 = f.access ∧ w.testBit 15 = !c.fqTail.testBit 31 ∧ field w 32 16 = f.instr ∧ field w 48 16 = dsTag j.desc ∧
        field w 64 64 = j.seq ∧ field w 128 64 = f.addr ∧ field w 192 40 = f.element)) ∧
    (∀ tag j d1, c.st.live = true → d.oldestOpen ch = some (tag, j) → j.st = .finished → j.finishDurable = true →
      d.writeFails (Device.crPa e c.done) (bytesOf 32 (d.recordOf j c.done)) = some d1 → d1.jobs = d.jobs →
      Does (.recordWriteFailure ch) s (fun t => (t.chan ch).st = .broken ∧ t.jobs = d.jobs ∧ (t.chan ch).ledgerQ = [] ∧ (t.rg 1 0 0x010).testBit 10 = true ∧
        ∀ n, ∀ st ∈ (t.croft n).strips, d.isJobOf ch st.tk.job = false)) ∧
    (∀ x js, c.entry.isSome = true → c.st ≠ .broken → d.placesServe e = true → c.hdrSent = false → c.mirror ≠ .mirrored →
      (∀ y ∈ d.jobsOf ch, y.2.st = .complete → hdrRseq c.hdr ≤ y.2.seq) → d.retireList ch (hdrRseq c.hdr) 64 = x :: js →
      Does (.ledgerRetire ch) s (fun t => hdrRseq (t.chan ch).hdr = (hdrRseq c.hdr + (x :: js).length) % 2 ^ 64 ∧ (∀ y ∈ x :: js, t.job? y.1 = none) ∧
        (js = [] → (∀ tag ≠ x.1, t.job? tag = d.job? tag) ∧
          (d.mem.wf = true → d.computeOff = false → d.latent = [] → hasNear e = true → x.1 < 262144 → ∀ copy < 2, d.rangeLost (nearRecPa x.1 copy) 128 = false →
            HbmHolds t (nearRecPa x.1 copy) ({ Device.recOf x.1 x.2 with state := 0 } : Rec).bytes)))) ∧
    (c.st = .draining → (∀ y ∈ d.jobsOf ch, y.2.st = .complete) → d.placesServe e = true →
      Does (.drainComplete ch) s (fun t => (t.chan ch).st = .off ∧ (t.chan ch).cmdBusy = false ∧ hdrOwned (t.chan ch).hdr = false ∧
        hdrPaused (t.chan ch).hdr = false ∧ (t.chan ch).fetched = [] ∧ t.jobs = d.jobs ∧ ∀ n ≠ ch, t.chan n = d.chan n)) ∧
    (∀ v d1, c.hold = none → c.recoverAll = false → c.adopting = none → c.waits = [] → c.entry = none → (c.st = .enabling ∨ c.st.live = true) → (d.chans.filter (fun x => x.2.entry.isSome)).length < 512 →
      d.readFor 4 (d.entryPa ch) 128 = (.ok v, d1) →
      (∀ r ws d2, c.st = .enabling → d1.entryPasses v = true → d1.readWindows (ent v 0x58 0 64) (ent v 0x60 0 7) = (.ok r, ws, d2) →
        Does (.channelEntryLoad ch) s (fun t => ∃ stamp, t = d2.setChan ch { d2.chan ch with entry := some v, windows := ws, stamp := stamp, leaseFor := if (d2.chan ch).leaseHeld then some v else (d2.chan ch).leaseFor })) ∧
      (ent v 0 0 1 = 0 ∨ entLedger v = 3 ∨ entGlean v = 3 ∨ entDepth v = 3 ∨ d1.fnEnabled (entPort v) (entFunction v) = false →
        Does (.channelEntryLoad ch) s (fun t => (t.chan ch).st = .broken ∧ (t.chan ch).entry = none ∧ (t.chan ch).cmdBusy = false ∧
          (t.rg 1 0 0x010).testBit 10 = true ∧ t.jobs = d1.jobs))) ∧
    (∀ who all, CanWrite d who 4 0 0x04C (ch + all * 2 ^ 12 + 2 ^ 31) = true → ch < 4096 → all < 2 →
      (d.fld 4 0 0x04C 31 1 = 0 → Does (.chnInv who ch all) s (fun t => t.fld 4 0 0x04C 31 1 = 1 ∧ t.jobs = d.jobs ∧
        (∀ n x, d.chans.find? n = some x → t.chans.find? n = some (if all = 1 ∨ n = ch then { x with invalidating := true } else x)))) ∧
      (d.fld 4 0 0x04C 31 1 = 1 → Does (.chnInv who ch all) s (fun t => t = (paged d who 4 0).err 4 0 3 0x04C 0))) ∧
    (d.fld 4 0 0x04C 31 1 = 1 → (∀ x ∈ d.chans, x.2.invalidating = true → ∀ y ∈ d.jobsOf x.1, y.2.st = .complete) →
      Does .chnInvComplete s (fun t => t.fld 4 0 0x04C 31 1 = 0 ∧ t.jobs = d.jobs ∧ ∀ n x, d.chans.find? n = some x → t.chans.find? n = some
        (if x.invalidating then { x with invalidating := false, entry := none, windows := [], wbPending := false, fetched := [], ledgerQ := x.ledgerQ.filter (fun w => decide (w.step ≠ 1)), headTag := (x.fetched.findSome? (fun (f : Fetched) => f.tag)).orElse (fun _ => x.headTag) } else x))) ∧
    ((∀ y ∈ d.jobsOf ch, y.2.st ≠ .waiting) → ∀ v share mode, c.entry = some v → c.pend = some (share, mode) →
      let bad := field share 16 8 = 0 ∨ (field mode 3 5 ≠ 0 ∧ ¬ (8 ≤ field mode 3 5 ∧ field mode 3 5 ≤ 16))
      (bad → Does (.shadowApply ch) s (fun t => (t.chan ch).pend = none ∧ (t.chan ch).shRefused = true ∧ (t.chan ch).entry = some v ∧ t.jobs = d.jobs ∧
        (c.wbPending = false → t = d.setChan ch { c with pend := none, shRefused := true }))) ∧
      (¬ bad → Does (.shadowApply ch) s (fun t => (t.chan ch).pend = none ∧ ∃ w, (t.chan ch).entry = some w ∧ entQuota w = field share 0 16 ∧
        entWeight w = field share 16 8 ∧ entGlean w = field mode 0 2 ∧ entWitness w = field mode 2 1 ∧ entStripLog2 w = field mode 3 5 ∧
        entFailOnFault w = mode.testBit 8 ∧ entHaltOnError w = mode.testBit 9 ∧ t.jobs = d.jobs)))

/-- R194, R195, R469, R474: swaps by command, and the end of a bank copy. -/
def Obligations.SwapsAreNamedAndBanksSwitched : Prop :=
  ∀ (s : State), let d := s.dev
    (∀ who kind unit, CanWrite d who 11 0 0x044 (kind + unit * 2 ^ 4 + 2 ^ 31) = true → kind < 2 → unit < 512 →
      let at_ := d.rg 11 0 0x048 + d.rg 11 0 0x04C % 2 ^ 8 * 2 ^ 32
      let fit := if kind = 0 then unit < 272 ∧ (d.croft unit).st ≠ 2 ∧ (d.croft unit).st ≠ 4 ∧ (d.croft unit).retiring = false ∧ (d.seedCroft (Device.hamletOf unit)).isSome = true
        else unit < 264 ∧ d.bankState unit = 1 ∧ d.seedBanks (bankDie unit) ≠ []
      (d.fld 11 0 0x044 31 1 = 1 → Does (.sprCmdGo who kind unit) s (fun t => t = (paged d who 11 0).err 11 0 3 0x044 0)) ∧
      (d.fld 11 0 0x044 31 1 = 0 → fit → Does (.sprCmdGo who kind unit) s (fun t => t.fld 11 0 0x044 31 1 = 1 ∧
        t.spare = { d.spare with named := d.spare.named.filter (fun e => decide (¬ (e.1 = kind ∧ e.2.1 = unit))) ++ [(kind, unit, max at_ (d.stroke + 1), 5)] } ∧
        t = { paged d who 11 0 with regs := t.regs, spare := t.spare })) ∧
      (d.fld 11 0 0x044 31 1 = 0 → ¬ fit → Does (.sprCmdGo who kind unit) s (fun t => t.fld 11 0 0x044 31 1 = 0 ∧ (t.rg 11 0 0x010).testBit 3 = true ∧
        t.spare = d.spare ∧ t.crofts = d.crofts ∧ t.mem = d.mem))) ∧
    (∀ old new reason rest l, d.spare.copying = (old, new, reason) :: rest → d.logicalOf old = some l → old ≠ new → d.bankErrors l = [] → d.spare.copied = [] →
      (d.midStrip ≠ [] → Does .bankCopyComplete s (fun t => t = { d with
        spare := { d.spare with copying := rest, copied := [((old, new, reason), d.midStrip)] } })) ∧
      (d.midStrip = [] → Does .bankCopyComplete s (fun t => t.bankOf l = new ∧ t.bankState old = 3 ∧ t.bankState new = 1 ∧ (∀ m ≠ l, t.bankOf m = d.bankOf m) ∧
        (∀ b, b ≠ old → b ≠ new → t.bankState b = d.bankState b) ∧ t.spare.copying = rest ∧ t.spare.copied = [] ∧ (t.rg 11 0 0x010).testBit 1 = true ∧
        (d.spare.log.length < 64 → t.spare.log = d.spare.log ++ [(old % 512 + new % 512 * 2 ^ 9 + 1 * 2 ^ 18 + reason % 8 * 2 ^ 21 + 2 ^ 31, d.stroke % 2 ^ 32)]) ∧
        t.mem = d.mem ∧ t.poison = d.poison)))

/-- R190: the interleave hash. -/
def Obligations.HbmPlacementIsOneToOne : Prop :=
  (∀ pa < 0x4800000000,
    let bits (hi lo : Nat) := pa / 2 ^ lo % 2 ^ (hi + 1 - lo)
    let d := bits 16 16 ^^^ bits 24 24 ^^^ bits 32 32
    let h := bits 22 16 ^^^ bits 29 23 ^^^ bits 36 30 ^^^ bits 38 37
    let c := bits 14 8 ^^^ h
    let stack := 4 * d + c % 4
    let pc := c / 4
    hbmPlace pa = (stack, pc, 256 * (2 * bits 38 17 + bits 15 15) + bits 7 0) ∧ hbmChannel pa = 32 * stack + pc ∧
    stack < 8 ∧ pc < 32 ∧ 256 * (2 * bits 38 17 + bits 15 15) + bits 7 0 < 0x48000000) ∧
  (∀ stack < 8, ∀ pc < 32, ∀ off < 0x48000000, ∃ pa, (pa < 0x4800000000 ∧ hbmPlace pa = (stack, pc, off)) ∧
    ∀ pb, pb < 0x4800000000 ∧ hbmPlace pb = (stack, pc, off) → pb = pa)

/-- R214: HBM_ARB_CFG and GRN_ARB_CFG. -/
def Obligations.ArbitrationConfigurationWaitsForTheWindow : Prop :=
  ∀ (s : State) (who : Initiator) (kind inst v : Nat), let d := s.dev
    ((kind = 16 ∧ inst < 8) ∨ (kind = 17 ∧ inst = 0)) → CanWrite d who kind inst 0x040 v = true → v < 2 ^ 32 → d.locked kind inst = false →
    let quota := v % 2 ^ 12
    let window := v / 2 ^ 16 % 2 ^ 12
    let bad := quota = 0 ∨ window < quota ∨ window < 64
    let page := if kind = 16 then inst else 8
    (bad → Does (.arbCfgWrite who kind inst v) s (fun t => t =
      if d.rg kind inst 0x040 % 2 ^ 12 = quota ∧ d.rg kind inst 0x040 / 2 ^ 16 % 2 ^ 12 = window then paged d who kind inst else (paged d who kind inst).err kind inst 1 0x040 0)) ∧
    (¬ bad → Does (.arbCfgWrite who kind inst v) s (fun t => t.rg kind inst 0x040 % 2 ^ 12 = quota ∧ t.rg kind inst 0x040 / 2 ^ 16 % 2 ^ 12 = window ∧
      (∀ k i o, regKey k i o ≠ regKey kind inst 0x040 → t.rg k i o = d.rg k i o) ∧ t = { paged d who kind inst with regs := t.regs })) ∧
    (∀ point, (if kind = 16 then 32 * inst ≤ point ∧ point < 32 * inst + 32 else 256 ≤ point ∧ point < 512) →
      Does (.highClassWindowEnd point) s (fun t => t.arbCfg.get 0 page = d.rg kind inst 0x040 ∧ t.grants.get 0 point = 0 ∧
        (∀ p ≠ page, t.arbCfg.find? p = d.arbCfg.find? p) ∧ (∀ p ≠ point, t.grants.find? p = d.grants.find? p) ∧
        t = { d with arbCfg := t.arbCfg, grants := t.grants }))

/-- R302 to R304, R306, R307, Tables 10-9 and 10-10. -/
def Obligations.InvalidationsRemoveWhatTheyName : Prop :=
  ∀ (s : State) (who : Initiator), let d := s.dev
    -- GO of the path of the initiator, and what its command waits for
    let go (t : Device) : Bool := if viaMatrix who then t.xlt.fwInv.2.2.testBit 31 else decide (t.fld 5 0 0x04C 31 1 = 1)
    let waitsFor (t : Device) : List InvUse := if viaMatrix who then t.xlt.fwWait else t.xlt.invWait
    (∀ asid va size, asid < 2 ^ 16 → va < 2 ^ 64 → size < 64 → (∀ off ∈ [0x044, 0x048, 0x04C], ∀ v, CanWrite d who 5 0 off v = true) →
      let removes (c : Instr) (leaf : TlbEntry → Prop) (ptr : PtrEntry → Prop) : Prop := Does c s (fun t => go t = true ∧
        (∀ e, CachedLeaf t e ↔ CachedLeaf d e ∧ ¬ leaf e) ∧ (∀ p, CachedPtr t p ↔ CachedPtr d p ∧ ¬ ptr p) ∧
        t.mem = d.mem ∧ t.jobs = d.jobs ∧ t.chans = d.chans ∧
        (∀ tag j, (tag, j) ∈ d.jobs → j.stageCells ≠ [] → (∃ e ∈ j.stagePages, leaf e) → .staged tag ∈ waitsFor t) ∧
        ∀ n, (t.croft n).strips.length = (d.croft n).strips.length ∧ ∀ (k : Nat) p, (d.croft n).strips[k]? = some p →
          let used := ∃ e ∈ p.used, leaf e
          (p.parked = false → used → .strip n (d.croft n).gen p.tk.job p.tk.instr p.tk.strip ∈ waitsFor t) ∧
          (¬ (p.parked = true ∧ used) → ∃ ctx, (t.croft n).strips[k]? = some { p with ctx := ctx } ∧ ∀ c, c ∈ ctx ↔ c ∈ p.ctx ∧ ¬ leaf c.2) ∧
          (p.parked = true → used → ∃ q, (t.croft n).strips[k]? = some q ∧ q.tk = p.tk ∧ q.parked = true ∧ q.e = p.ckE ∧ q.ctx = [] ∧ q.used = [] ∧ q.staged = []))
      let refused (c : Instr) : Prop := Does c s (fun t => t.xlt = { d.xlt with fwInv := t.xlt.fwInv } ∧ t.crofts = d.crofts ∧ go t = go d ∧
        t.rg 5 0 0x024 / 2 ^ 31 = 1 ∧ t.mem = d.mem)
      let lo := va / 2 ^ size * 2 ^ size
      (go d = false →
        removes (.invPage who asid va) (fun e => e.fw = false ∧ e.asid = asid ∧ e.vpn = va / 2 ^ (12 + 9 * e.level))
          (fun p => p.fw = false ∧ p.asid = asid ∧ p.prefixVa = va / 2 ^ (12 + 9 * (p.level + 1))) ∧
        (12 ≤ size ∧ size ≤ 57 → removes (.invRange who asid va size)
          (fun e => e.fw = false ∧ e.asid = asid ∧ e.vpn * 2 ^ (12 + 9 * e.level) < lo + 2 ^ size ∧ lo < (e.vpn + 1) * 2 ^ (12 + 9 * e.level))
          (fun p => p.fw = false ∧ p.asid = asid ∧ p.prefixVa * 2 ^ (12 + 9 * (p.level + 1)) < lo + 2 ^ size ∧ lo < (p.prefixVa + 1) * 2 ^ (12 + 9 * (p.level + 1)))) ∧
        (¬ (12 ≤ size ∧ size ≤ 57) → refused (.invRange who asid va size)) ∧
        removes (.invAsid who asid) (fun e => e.fw = false ∧ e.asid = asid) (fun p => p.fw = false ∧ p.asid = asid) ∧
        removes (.invAll who) (fun e => e.fw = false) (fun p => p.fw = false) ∧
        (viaMatrix who = true → removes (.invFirmware who) (fun e => e.fw = true) (fun p => p.fw = true)) ∧
        (viaMatrix who = false → refused (.invFirmware who))) ∧
      (go d = true → refused (.invPage who asid va) ∧ refused (.invRange who asid va size) ∧ refused (.invAsid who asid) ∧
        refused (.invAll who) ∧ refused (.invFirmware who))) ∧
    (d.fld 5 0 0x04C 31 1 = 1 → (∀ w ∈ d.xlt.invWait, d.stillUsing w = false) → Does .xltInvComplete s (fun t => t.fld 5 0 0x04C 31 1 = 0 ∧ t.xlt.tlb = d.xlt.tlb ∧
      (d.fld 5 0 0x008 0 1 = 0 → t.counter 5 0 0x0E8 = (d.counter 5 0 0x0E8 + 1) % 2 ^ 48) ∧ t.crofts = d.crofts ∧ t.mem = d.mem)) ∧
    ((∃ w ∈ d.xlt.invWait, d.stillUsing w = true) → Does .xltInvComplete s (fun t => t.fld 5 0 0x04C 31 1 = d.fld 5 0 0x04C 31 1 ∧
      t.xlt.invWait = d.xlt.invWait ∧ t.counter 5 0 0x0E8 = d.counter 5 0 0x0E8 ∧ t.crofts = d.crofts)) ∧
    (d.xlt.fwInv.2.2.testBit 31 = true → (∀ w ∈ d.xlt.fwWait, d.stillUsing w = false) → Does .xltInvComplete s (fun t =>
      t.xlt.fwInv.2.2.testBit 31 = false ∧ t.xlt.fwWait = [] ∧ t.xlt.tlb = d.xlt.tlb ∧ t.crofts = d.crofts ∧ t.mem = d.mem)) ∧
    ((∃ w ∈ d.xlt.fwWait, d.stillUsing w = true) → Does .xltInvComplete s (fun t =>
      t.xlt.fwInv.2.2.testBit 31 = d.xlt.fwInv.2.2.testBit 31 ∧ t.xlt.fwWait = d.xlt.fwWait)) ∧
    (∀ n hi v, n < 8 → hi < 2 → v < 2 ^ 32 → CanWrite d who 5 0 (0x080 + 8 * n + 4 * hi) v = true → d.locked 5 0 = false →
      let off := 0x080 + 8 * n + 4 * hi
      let bad := hi = 0 ∧ v % 2 = 1 ∧ ¬ (12 ≤ v / 2 % 64 ∧ v / 2 % 64 ≤ 52)
      let same := if hi = 0 then d.rg 5 0 off % 2 ^ 7 = v % 2 ^ 7 ∧ d.rg 5 0 off / 2 ^ 12 = v / 2 ^ 12 else d.rg 5 0 off % 2 ^ 24 = v % 2 ^ 24
      (bad → Does (.sewWindowWrite who n hi v) s (fun t => t = if same then paged d who 5 0 else (paged d who 5 0).err 5 0 1 off 0)) ∧
      (¬ bad → Does (.sewWindowWrite who n hi v) s (fun t =>
        (if hi = 0 then t.rg 5 0 off % 2 ^ 7 = v % 2 ^ 7 ∧ t.rg 5 0 off / 2 ^ 12 = v / 2 ^ 12 else t.rg 5 0 off % 2 ^ 24 = v % 2 ^ 24) ∧
        (∀ k i o, regKey k i o ≠ regKey 5 0 off → t.rg k i o = d.rg k i o) ∧ t = { paged d who 5 0 with regs := t.regs })))

/-- R195, R198 to R200, R204, R205, R207, R208, R256: memory's own commands. -/
def Obligations.MemoryAtomicsScrubAndLoss : Prop :=
  ∀ (s : State), let d := s.dev
    (∀ swap pa code v, pa % 16 = 0 → code ≤ 4 → v < 2 ^ 128 →
      let w := 128 / 2 ^ code
      let old := d.mem.readLE (windowBase + pa) 16
      ((regionOf pa = .hbm ∧ d.rangeLost pa 16 = false ∨ regionOf pa = .granary) → d.rangePoison pa 16 = false → d.computeOff = false →
        (∀ u ∈ Device.unitsOf pa 16, d.latent.find? (unitBase u) = none) → d.mem.wf = true →
        Does (.memoryAtomic swap pa code v) s (fun t => ∃ new, HbmHolds t pa (bytesOf 16 new) ∧ new < 2 ^ 128 ∧
          (swap = true → new = v) ∧ (swap = false → ∀ j < 2 ^ code, field new (j * w) w = (field old (j * w) w + field v (j * w) w) % 2 ^ w) ∧
          (∀ a, a < windowBase + pa ∨ windowBase + pa + 16 ≤ a → t.mem.byte a = d.mem.byte a))) ∧
      ((∀ u ∈ Device.unitsOf pa 16, d.latent.find? (unitBase u) = none) →
        (regionOf pa = .hbm ∧ (d.rangeLost pa 16 = true ∨ d.rangePoison pa 16 = true) ∨ regionOf pa = .granary ∧ d.rangePoison pa 16 = true ∨ ∃ p, regionOf pa = .pool p) →
        Does (.memoryAtomic swap pa code v) s (fun t => t.mem = d.mem ∧ t.poison = d.poison)) ∧
      (regionOf pa = .hbm → d.rangeLost pa 16 = false → d.computeOff = false → d.latent.find? (unitBase pa) = some 2 →
        Does (.memoryAtomic swap pa code v) s (fun t => t.mem = d.mem ∧ unitBase pa ∈ t.poison))) ∧
    (∀ pa found, regionOf pa = .hbm → d.fld 16 (hbmPlace pa).1 0x048 8 1 = 1 → d.stackState (hbmPlace pa).1 = 2 → d.computeOff = false → d.latent = [] →
      (found < 4 → Does (.scrubRead pa found) s (fun t => t.mem = d.mem ∧
        (found = 0 → (hbmPlace pa).2.1 ≠ 31 → t = d) ∧
        (found = 1 → t.poison = d.poison ∧ (d.fld 16 (hbmPlace pa).1 0x008 0 1 = 0 →
          t.counter 16 (hbmPlace pa).1 0x060 = (d.counter 16 (hbmPlace pa).1 0x060 + 1) % 2 ^ 48)) ∧
        (2 ≤ found → pa / 32 * 32 ∈ t.poison ∧ ∀ u ∈ d.poison, u ∈ t.poison))) ∧
      (∀ k, k = 1 ∨ k = 2 → Does (.scrubRead pa (3 + k)) s (fun t => t.mem = d.mem ∧ t.poison = d.poison ∧ t.latent = [(unitBase pa, k)]))) ∧
    (∀ pa found, regionOf pa = .granary → d.fld 17 0 0x044 16 1 = 1 → d.computeOff = false → d.latent = [] → found < 4 →
      Does (.scrubRead pa found) s (fun t => t.mem = d.mem ∧ (found = 2 → pa / 16 * 16 ∈ t.poison) ∧
        (found = 3 → ∀ a, regionOf a = .granary → a % 16 = 0 → (grnPlace a).1 = (grnPlace pa).1 → a ∈ t.poison))) ∧
    (∀ k < 8, d.stackState k ≠ 4 → Does (.stackLost k) s (fun t => t.stackState k = 4 ∧ (∀ j, j ≠ k → j < 8 → t.stackState j = d.stackState j) ∧
      (t.rg 10 0 0x010).testBit 5 = true ∧ (t.rg 3 0 0x010).testBit 1 = true ∧ t.ledger.degraded = true ∧ t.mem = d.mem ∧ t.poison = d.poison))

/-- R362, R375 to R378, R380, R381: mailboxes and the boot window. -/
def Obligations.MailboxesNumberTheirWords : Prop :=
  ∀ (s : State) (who : Initiator) (n v : Nat), let d := s.dev
    let b := d.box n
    let host := decide (mbxKind who = 13)
    let code := initiatorCode who
    let word := b.hold.get 0 code + v * 2 ^ 32
    let q := if host then b.toReeve else b.toHost
    let seq := if host then b.seqReeve else b.seqHost
    let mine := mbxKind who
    let theirs := if host then 22 else 13
    let keeps (t : Device) : Prop := t.mem = d.mem ∧ t.chans = d.chans ∧ t.jobs = d.jobs ∧ t.reeves = d.reeves ∧ ∀ m ≠ n, t.box m = d.box m
    n < 4 → v < 2 ^ 32 →
    (CanWrite d who mine n 0x040 v = true → Does (.mbxTxLoWrite who n v) s (fun t => t = (paged d who mine n).setBox n { b with hold := b.hold.set code v })) ∧
    (CanWrite d who mine n 0x044 v = true →
      (host = true ∧ d.servedBy n = none → Does (.mbxPush who n v) s (fun t => t.box n = { b with hold := b.hold.set code 0 } ∧
        (t.rg 13 n 0x010).testBit 2 = true ∧ keeps t)) ∧
      (¬ (host = true ∧ d.servedBy n = none) → Does (.mbxPush who n v) s (fun t => keeps t ∧
        (let k := if 8 ≤ q.length then q else q ++ [(word, seq, code)]
         let m := (seq + 1) % 2 ^ 16
         t.box n = (if host then { b with hold := b.hold.set code 0, toReeve := k, seqReeve := m } else { b with hold := b.hold.set code 0, toHost := k, seqHost := m })) ∧
        (8 ≤ q.length → (t.rg mine n 0x010).testBit 1 = true) ∧ (q = [] → (t.rg theirs n 0x010).testBit 0 = true)))) ∧
    (CanRead d who mine n 0x048 = true →
      let mineQ := if host then b.toHost else b.toReeve
      (∀ w sq c rest, mineQ = (w, sq, c) :: rest → Does (.mbxPop who n) s (fun t =>
        let l := (w / 2 ^ 32, sq + c * 2 ^ 16 + 2 ^ 31)
        t.box n = (if host then { b with toHost := rest, lastHost := l, crossed := false } else { b with toReeve := rest, lastReeve := l, crossed := false }) ∧ keeps t)) ∧
      (mineQ = [] → Does (.mbxPop who n) s (fun t => t.box n = (if host then { b with lastHost := (0, 0) } else { b with lastReeve := (0, 0) }) ∧ keeps t))) ∧
    (8 ≤ b.toReeve.length → 8 ≤ b.toHost.length → b.crossed = false → Does (.mbxCrossed n) s (fun t => t.box n = { b with crossed := true } ∧
      (t.rg 13 n 0x010).testBit 3 = true ∧ (t.rg 22 n 0x010).testBit 3 = true ∧ keeps t)) ∧
    (b.toReeve.length < 8 ∨ b.toHost.length < 8 ∨ b.crossed = true → Does (.mbxCrossed n) s (fun t => t = d)) ∧
    (CanWrite d who 20 0 0x040 1 = true → Does (.remap who) s (fun t => t.fld 20 0 0x040 0 1 = 1 ∧ (∀ pa < 0x800000, t.target pa = .sram (sramBase + pa)) ∧
      (∀ pa, 0x800000 ≤ pa → pa < 0x1000000 → t.target pa = .hole) ∧ (∀ pa, 0x1000000 ≤ pa → t.target pa = d.target pa) ∧ t = { paged d who 20 0 with regs := t.regs }))

/-- R369 to R374, Table 13-4: housekeeping DMA. -/
def Obligations.HousekeepingDmaMovesBursts : Prop :=
  ∀ (s : State) (who : Initiator) (n : Nat), n < 8 → let d := s.dev
    (∀ op v, op < 3 → CanWrite d who 21 0 (hkdBase n + 0x24) v = true →
      let cmd := if op = 0 then Instr.hkdCopy who n else if op = 1 then Instr.hkdFill who n else Instr.hkdCompare who n
      let src := d.hkdSrc n
      let dst := d.hkdDst n
      let len := d.hkdLen n
      let bad := src % 16 ≠ 0 ∨ dst % 16 ≠ 0 ∨ len % 16 ≠ 0 ∨ 2 ^ 64 < src + len ∨ 2 ^ 64 < dst + len ∨ (op = 0 ∧ src ≠ dst ∧ src < dst + len ∧ dst < src + len)
      (d.hkdState n = 1 ∨ d.hkdState n = 3 → Does cmd s (fun t => (∀ k < 8, t.hkdState k = d.hkdState k) ∧ t.hkdDone n = d.hkdDone n ∧
        t.rg 21 0 0x024 / 2 ^ 31 = 1 ∧ t.mem = d.mem)) ∧
      (d.hkdState n ≠ 1 → d.hkdState n ≠ 3 → Does cmd s (fun t => t.hkdDone n = 0 ∧ t.hkdOp n = op ∧ t.mem = d.mem ∧
        (∀ k < 8, k ≠ n → t.hkdState k = d.hkdState k) ∧
        (bad → t.hkdState n = 4 ∧ field (t.rg 21 0 (hkdBase n + 0x28)) 8 4 = 8) ∧ (¬ bad → 0 < len → t.hkdState n = 1) ∧
        (¬ bad → len = 0 → t.hkdState n = 2 ∧ (t.rg 21 0 0x010).testBit n = true)))) ∧
    (3 ≤ d.power.step → d.hkdDue = some n →
      let done := d.hkdDone n
      let len := d.hkdLen n
      let src := d.hkdSrc n + done
      let dst := d.hkdDst n + done
      let k := min 4 ((len - done) / 16)
      (done < len → len % 16 = 0 → done % 16 = 0 → src % 16 = 0 → dst % 16 = 0 → d.mem.wf = true → inSram dst (16 * k) →
        let moved (bytes : Nat → Byte) : Prop := Does (.hkdBurstResponse n) s (fun t => (∀ i < 16 * k, t.mem.byte (dst + i) = bytes i) ∧
          (∀ a, a < dst ∨ dst + 16 * k ≤ a → t.mem.byte a = d.mem.byte a) ∧ t.hkdDone n = done + 16 * k ∧ t.hkdTurn = (n + 1) % 8 ∧
          t.hkdState n = (if done + 16 * k = len then 2 else 1) ∧ (done + 16 * k = len → (t.rg 21 0 0x010).testBit n = true))
        (d.hkdOp n = 1 → moved (fun i => (bytesOf 16 (d.hkdPattern n)).getD (i % 16) 0)) ∧
        (d.hkdOp n = 0 → inSram src (16 * k) → GreenSound d src (16 * k) → (src = dst ∨ src + 16 * k ≤ dst ∨ dst + 16 * k ≤ src) → moved (fun i => d.mem.byte (src + i))) ∧
        (d.hkdOp n = 2 → inSram src (16 * k) → GreenSound d src (16 * k) → GreenSound d dst (16 * k) →
          ((∀ i < 16 * k, d.mem.byte (src + i) = d.mem.byte (dst + i)) → moved (fun i => d.mem.byte (dst + i)) ∧
            (done + 16 * k = len → Does (.hkdBurstResponse n) s (fun t => t.rg 21 0 (hkdBase n + 0x30) = len))) ∧
          (∀ u < k, (∀ i < 16 * u, d.mem.byte (src + i) = d.mem.byte (dst + i)) → (∃ i < 16, d.mem.byte (src + 16 * u + i) ≠ d.mem.byte (dst + 16 * u + i)) →
            Does (.hkdBurstResponse n) s (fun t => t.hkdState n = 2 ∧ field (t.rg 21 0 (hkdBase n + 0x28)) 3 1 = 1 ∧
              t.rg 21 0 (hkdBase n + 0x30) = done + 16 * u ∧ t.hkdDone n = done + 16 * u ∧ t.mem = d.mem)))) ∧
      (done < len → d.hkdOp n = 1 → d.target dst = .hole → dst % 16 = 0 → Does (.hkdBurstResponse n) s (fun t => t.hkdState n = 4 ∧ t.hkdDone n = done ∧
        (∀ m < 8, m ≠ n → t.hkdState m = if d.hkdState m = 1 then 3 else d.hkdState m) ∧ field (t.rg 21 0 0x044) 0 3 = n ∧ field (t.rg 21 0 0x044) 4 4 = 1 ∧
        (t.rg 21 0 0x010).testBit 8 = true ∧ t.mem = d.mem)) ∧
      -- two bursts that fail in the same cycle, which 8 added to the channel says of them (the model's input, log entry 108)
      (∀ m < 8, ((List.range 7).map (fun k => (n + 1 + k) % 8)).find? (fun j => decide (d.hkdState j = 1)) = some m →
        (∀ c ∈ [n, m], d.hkdDone c < d.hkdLen c ∧ d.hkdOp c = 1 ∧ d.target (d.hkdDst c + d.hkdDone c) = .hole ∧ (d.hkdDst c + d.hkdDone c) % 16 = 0) →
        Does (.hkdBurstResponse (n + 8)) s (fun t => t.hkdState n = 4 ∧ t.hkdState m = 4 ∧ field (t.rg 21 0 0x044) 0 3 = min n m ∧ t.mem = d.mem))) ∧
    (CanWrite d who 21 0 (hkdBase n + 0x24) (d.hkdOp n + 2 ^ 9) = true → Does (.hkdDisable who n) s (fun t => t.hkdState n = 0 ∧
      field (t.rg 21 0 (hkdBase n + 0x28)) 8 4 = field (d.rg 21 0 (hkdBase n + 0x28)) 8 4 ∧
      (∀ m < 8, m ≠ n → t.hkdState m = d.hkdState m) ∧ t.mem = d.mem)) ∧
    (CanWrite d who 21 0 0x040 1 = true →
      (d.fld 21 0 0x010 8 1 = 1 → Does (.hkdResume who) s (fun t => t = paged d who 21 0)) ∧
      (d.fld 21 0 0x010 8 1 = 0 → Does (.hkdResume who) s (fun t => (∀ m < 8, t.hkdState m = if d.hkdState m = 3 then 1 else d.hkdState m) ∧
        t.hkdDone n = d.hkdDone n ∧ t.mem = d.mem)))

/-- R553, with R205 and R388 where it names them. -/
def Obligations.HdmWritesAreAppliedOrDropped : Prop :=
  ∀ (s : State) (p hpa enables data base size : Nat) (poison : Bool), let d := s.dev
    p < 2 → (d.host p).up = true → (d.host p).memEn = true → (d.host p).hdm = some (base, size) → base ≤ hpa → hpa < base + size →
    let a := (hpa - base) / 64 * 64
    a < hbmSize → enables < 2 ^ 64 →
    let done (t : Device) : Prop := t.out = d.out ++ [.memDone p]
    let byteOn (k : Nat) : Bool := enables.testBit k
    let whole (u : Nat) : Prop := a ≤ u ∧ u < a + 64 ∧ ∀ k < 32, byteOn (u - a + k) = true
    (d.power.memActive = false ∨ d.ideBlocked p = true → Does (.cxlMemWrite p hpa enables data poison) s (fun t => done t ∧ t.mem = d.mem ∧ t.poison = d.poison ∧
      (t.rg 6 p 0x010).testBit 3 = true ∧ (d.fld 6 p 0x008 0 1 = 0 → t.counter 6 p 0x080 = (d.counter 6 p 0x080 + 1) % 2 ^ 48) ∧
      t.counter 6 p 0x0A0 = d.counter 6 p 0x0A0)) ∧
    (d.power.memActive = true → d.ideBlocked p = false →
      (d.reservedBase < a + 64 ∨ d.rangeLost a 64 = true → Does (.cxlMemWrite p hpa enables data poison) s (fun t => done t ∧ t.mem = d.mem ∧ t.poison = d.poison ∧
        (t.rg 6 p 0x010).testBit 6 = true ∧ (d.fld 6 p 0x008 0 1 = 0 → t.counter 6 p 0x0A0 = (d.counter 6 p 0x0A0 + 1) % 2 ^ 48))) ∧
      (a + 64 ≤ d.reservedBase → d.rangeLost a 64 = false → d.computeOff = false → (∀ u ∈ Device.unitsOf a 64, d.latent.find? (unitBase u) = none) → d.mem.wf = true → Does (.cxlMemWrite p hpa enables data poison) s (fun t => done t ∧
        (∀ k < 64, t.mem.byte (windowBase + a + k) = if byteOn k then BitVec.ofNat 8 (data / 2 ^ (8 * k)) else d.mem.byte (windowBase + a + k)) ∧
        (∀ x, x < windowBase + a ∨ windowBase + a + 64 ≤ x → t.mem.byte x = d.mem.byte x) ∧
        (poison = false → ∀ u, unitBase u = u → (u ∈ t.poison ↔ u ∈ d.poison ∧ ¬ whole u)) ∧
        (poison = true → ∀ k < 64, byteOn k = true → unitBase (a + k) ∈ t.poison) ∧
        (t.rg 6 p 0x010).testBit 6 = (d.rg 6 p 0x010).testBit 6)))

/-- R365, R383 to R388, R390, R393, R397, R400, R476: the host link's commands. -/
def Obligations.HostRequestsAreServed : Prop :=
  ∀ (s : State) (p : Nat), let d := s.dev
    let h := d.host p
    p < 2 →
    (∀ hpa base size, h.up = true → h.memEn = true → h.hdm = some (base, size) → base ≤ hpa → hpa < base + size →
      let a := (hpa - base) / 64 * 64
      a < hbmSize →
      let answers (bs : List Byte) (bad : Bool) : Prop := Does (.cxlMemRead p hpa) s (fun t => t.out = d.out ++ [.memData p bs bad] ∧ t.mem = d.mem)
      (d.power.memActive = false ∨ d.ideBlocked p = true ∨ d.reservedBase < a + 64 ∨ d.rangeLost a 64 = true ∨ d.rangePoison a 64 = true ∨
          (∃ u ∈ Device.unitsOf a 64, d.latent.find? (unitBase u) = some 2) → answers [] true) ∧
      (d.power.memActive = true → d.ideBlocked p = false → a + 64 ≤ d.reservedBase → d.rangeLost a 64 = false → d.rangePoison a 64 = false →
        d.computeOff = false → (∀ u ∈ Device.unitsOf a 64, d.latent.find? (unitBase u) = none) →
        answers (bytesOf 64 (d.mem.readLE (windowBase + a) 64)) false)) ∧
    (∀ base size ways, h.up = true → Does (.hdmCommit p base size ways) s (fun t => (∀ q ≠ p, t.host q = d.host q) ∧
      let fits := ways = 1 ∧ base % 2 ^ 28 = 0 ∧ size % 2 ^ 28 = 0 ∧ 2 ^ 28 ≤ size ∧ size ≤ 288 * 2 ^ 30
      (fits → t.host p = { h with hdm := some (base, size), hdmError := false }) ∧ (¬ fits → t.host p = { h with hdm := none, hdmError := true }))) ∧
    (∀ line inval, h.up = true → h.cacheEn = true → let l := (hostBase p + line) / 64 * 64
      Does (.h2dSnoop p line inval) s (fun t => t.out = d.out ++ [.snoop p (decide (l ∈ h.lines))] ∧
        (t.host p).lines = (if inval then h.lines.filter (fun x => decide (x ≠ l)) else h.lines) ∧ t.mem = d.mem)) ∧
    (d.hostServes p = false → Does (.linkWaitExpiry p) s (fun t => t = d.setHost p { h with waitOver := true })) ∧
    (∀ fn vec rest, h.msgs = (fn, vec) :: rest →
      (Device.msixOpen h fn vec = true → Does (.msixMessage p) s (fun t => t.out = d.out ++ [.msix p fn vec] ∧ t.host p = { h with msgs := rest } ∧ t.regs = d.regs)) ∧
      (Device.msixOpen h fn vec = false → Does (.msixMessage p) s (fun t => t.out = d.out ∧ (t.host p).msgs = rest ∧ ∀ k, k ∈ (t.host p).pba ↔ k ∈ h.pba ∨ k = fn * 2048 + vec))) ∧
    (∀ fn off v, h.up = true → d.fnEnabled p fn = true → fn ∉ h.d3 → d.ideBlocked p = false → off % 4 = 0 → off < 0x8000 → v < 2 ^ 32 →
      Does (.msixTableWrite p fn off v) s (fun t => field (Device.msixEntry (t.host p) fn (off / 16)) (off % 16 * 8) 32 = v ∧
        (∀ f x, (f, x) ≠ (fn, off / 16) → f < 64 → x < 2048 → fn < 64 → Device.msixEntry (t.host p) f x = Device.msixEntry h f x) ∧
        (∃ l : List Nat, t.out = d.out ++ l.map (fun x => .msix p fn x) ∧ ∀ x < 2048, x ∈ l ↔ fn * 2048 + x ∈ h.pba ∧ Device.msixOpen (t.host p) fn x = true) ∧
        (∀ x < 2048, fn * 2048 + x ∈ (t.host p).pba ↔ fn * 2048 + x ∈ h.pba ∧ Device.msixOpen (t.host p) fn x = false))) ∧
    (∀ fn v, h.up = true → d.fnEnabled p fn = true → fn ∈ h.readyFns → let on := decide (v % 2 = 1)
      let sets (f : ConfigField) (k : HostPort) : Prop := Does (.configurationSpaceWrite p fn f v) s (fun t => t = (d.setHost p k).emit (.config p fn false))
      (∀ g, Does (.configurationSpaceWrite p fn .busMaster v) s (fun t => (g ∈ (t.host p).busMaster ↔ if g = fn then on = true else g ∈ h.busMaster))) ∧
      (∀ g, Does (.configurationSpaceWrite p fn .powerState v) s (fun t => (g ∈ (t.host p).d3 ↔ if g = fn then v % 4 = 3 else g ∈ h.d3))) ∧
      (∀ g, Does (.configurationSpaceWrite p fn .msixEnable v) s (fun t => (g ∈ (t.host p).msixEn ↔ if g = fn then on = true else g ∈ h.msixEn))) ∧
      (∀ g, Does (.configurationSpaceWrite p fn .functionMask v) s (fun t => (g ∈ (t.host p).fnMask ↔ if g = fn then on = true else g ∈ h.fnMask))) ∧
      (fn = 0 → sets .cacheEnable { h with cacheEn := on, waitOver := false } ∧ sets .memEnable { h with memEn := on } ∧ sets .uioEnable { h with uioEn := on } ∧
        (v % 2 = 1 → sets .vfEnable { h with vfEnable := true }) ∧
        (v % 2 = 0 → Does (.configurationSpaceWrite p fn .vfEnable v) s (fun t => (t.host p).vfEnable = false ∧ ∀ g ≠ 0, t.fnEnabled p g = false ∧ g ∉ (t.host p).busMaster)) ∧
        (h.vfEnable = false → v ≤ 63 → sets .numVfs { h with numVfs := v })) ∧
      ((v = 128 ∨ v = 256 ∨ v = 512 → sets .maxPayload { h with payload := h.payload.set fn v }) ∧ (¬ (v = 128 ∨ v = 256 ∨ v = 512) → Does (.configurationSpaceWrite p fn .maxPayload v) s (fun t => t = d.emit (.config p fn false)))) ∧
      ((∃ k ≤ 5, v = 128 * 2 ^ k) → sets .maxReadRequest { h with readSize := h.readSize.set fn v }) ∧
      (∀ x, featureThere x = false → Does (.configurationSpaceWrite p fn (.feature x) v) s (fun t => t = d.emit (.config p fn false))) ∧
      (∀ x, featureThere x = true → Does (.configurationSpaceWrite p fn (.feature x) v) s (fun t => ∀ e, (e ∈ (t.host p).features ↔ if e = (fn, x) then on = true else e ∈ h.features))) ∧
      (∀ n, n = 0 ∨ n = 2 ∨ n = 4 → sets (.bar n) { h with bars := h.bars.set (8 * fn + n) (v % 2 ^ 64 / Device.barSize n fn * Device.barSize n fn) })) ∧
    (∀ fn f v, h.up = true → d.fnEnabled p fn = true → fn ∉ h.readyFns →
      Does (.configurationSpaceWrite p fn f v) s (fun t => let r := d.takeFree 1
        t = if r.1 = 0 then r.2.emit (.config p fn true) else ((r.2.setHost p { h with readyFns := h.readyFns ++ [fn] }).configSet p fn f v).emit (.config p fn false))) ∧
    (∀ who v, CanWrite d who 6 p 0x040 v = true → v < 2 ^ 32 → d.locked 6 p = false →
      (v % 8 = 0 ∨ v % 8 = 7 → Does (.hlkCfgWrite who p v) s (fun t => t = if d.rg 6 p 0x040 % 2 ^ 5 = v % 2 ^ 5 then paged d who 6 p else (paged d who 6 p).err 6 p 1 0x040 0)) ∧
      (v % 8 ≠ 0 ∧ v % 8 ≠ 7 → Does (.hlkCfgWrite who p v) s (fun t => t.rg 6 p 0x040 % 2 ^ 5 = v % 2 ^ 5 ∧ t = { paged d who 6 p with regs := t.regs }))) ∧
    (∀ fn bar off (data : List Byte), d.hostMay p fn true = true → d.hostMay p fn false = true → (bar = 0 ∨ bar = 2) → data.length = 4 →
      off + 4 ≤ Device.barSize bar fn →
      (off % 4 = 0 → bar = 0 → d.ready = true → fn ≠ 0 → Does (.barAccess p fn bar off 4 (some data)) s (fun t => t = d.decodeErr p fn 0 off true)) ∧
      (∀ kind inst o, off = regKey kind inst o → bar = 0 → fn = 0 → off % 4 = 0 →
        Does (.barAccess p fn bar off 4 (some data)) s (fun t => t = d.writeReg (.host p 0) kind inst o 0 (ofBytes data)) ∧
        Does (.barAccess p fn bar off 4 none) s (fun t => t = (d.readReg (.host p 0) kind inst o 0).2)) ∧
      (off % 4 = 0 → bar = 2 → Does (.barAccess p fn bar off 4 (some data)) s (fun t => t = d.dbWrite p fn (off / 0x1000) (off % 0x1000) (ofBytes data))) ∧
      (off % 4 ≠ 0 → d.ready = true → Does (.barAccess p fn bar off 4 (some data)) s (fun t => t = d.decodeErr p fn (bar / 2) off true) ∧
        Does (.barAccess p fn bar off 4 none) s (fun t => t = (d.decodeErr p fn (bar / 2) off false).emit (.barData p [0, 0, 0, 0])))) ∧
    (∀ fn bar off (data : List Byte) t1, data.length = 8 → off % 4 = 0 → d.hostMay p fn true = true → (bar = 0 ∨ bar = 2) → off + 8 ≤ Device.barSize bar fn →
      exec (.barAccess p fn bar off 4 (some (data.take 4))) s = .next t1 → t1.dev.hostMay p fn true = true →
      ∃ t, exec (.barAccess p fn bar off 8 (some data)) s = .next t ∧ exec (.barAccess p fn bar (off + 4) 4 (some (data.drop 4))) t1 = .next t)

/-- R25, R401 to R409, R411, R412, R425, R548: the Bell unit. The phase of a missing stroke is the model's (log entry 33). -/
def Obligations.BellTimeFollowsItsSource : Prop :=
  ∀ (s : State), let d := s.dev
    let b := d.bell
    (∀ v i, d.power.vnw = true → (field v 0 8 ≠ 0xD5 ∨ field v 52 12 ≠ 0 ∨ field v 64 32 ≠ crc32c (bytesOf 8 v) ∨ 4 < field v 48 3) →
      Does (.bellFrame v i) s (fun t => t = d.count 7 0 0x070)) ∧
    (∀ c code (m : Mark) interval p,
      ((∃ v, c = .bellFrame v interval ∧ code = 1 ∧ field v 0 8 = 0xD5 ∧ field v 52 12 = 0 ∧ field v 64 32 = crc32c (bytesOf 8 v) ∧ d.power.vnw = true ∧
          m = { stroke := field v 8 40, period := field v 48 3, free := decide (field v 51 1 = 1), hops := 0, origin := d.moduleId }) ∨
       (∃ q < 4, c = .alnarMark q m.stroke m.period m.free m.hops m.origin interval ∧ code = 4 + q ∧ m.stroke < 2 ^ 40 ∧ m.hops < 4096 ∧ m.origin < 4096 ∧
          d.alnUp q = true ∧ d.fld 8 q 0x040 1 1 = 1)) →
      b.sources.find? code = some p → b.source = code → b.behind = false → d.fld 7 0 0x040 0 3 = code → m.period ≤ 4 →
      ¬ (b.stroke = lastStroke ∧ b.phase = 2 ^ 24 - 1) →
      (wholePeriods p.period interval = none → Does c s (fun t => t = d.count 7 0 0x070)) ∧
      (∀ k, wholePeriods p.period interval = some k →
        Does c s (fun t => t.bell.source = code ∧
          (p.period = m.period → b.period = m.period →
            let iv := (interval / k :: b.intervals).take 16
            t.bell.intervals = iv ∧ t.bell.measured = iv.foldl (· + ·) 0 / iv.length ∧ t.bell.holdover = some t.bell.measured) ∧
          (b.stroke < m.stroke → m.stroke = b.stroke + 1 ∨ b.state ≠ 3 →
            t.bell.stroke = m.stroke ∧ t.bell.phase = 0 ∧ t.bell.period = m.period ∧ (m.free = true → t.bell.state = 0) ∧
            (m.free = false → b.state ≠ 0 → t.bell.state = 2) ∧
            (m.free = false → b.state = 0 → p.free = false → m.stroke = p.stroke + 1 → p.run = 2 → t.bell.state = 2 ∧ (t.rg 7 0 0x010).testBit 0 = true) ∧
            (p.period ≠ m.period → b.period ≠ m.period → t.bell.intervals = [] ∧ t.bell.measured = 50000 * 2 ^ m.period ∧ (t.rg 7 0 0x010).testBit 5 = true) ∧
            (m.stroke ≠ b.stroke + 1 → (t.rg 7 0 0x010).testBit 2 = true ∧
              (d.fld 7 0 0x008 0 1 = 0 → t.counter 7 0 0x068 = (d.counter 7 0 0x068 + (m.stroke - b.stroke - 1)) % 2 ^ 48)) ∧
            (3 ≤ d.power.step → ∀ q < 4, d.alnUp q = true → d.fld 8 q 0x040 2 1 = 1 →
              ∃ age < 2 ^ 16, .mark q m.stroke m.period (decide (t.bell.state ≠ 2)) (if code = 1 then d.moduleId else m.origin) (if code = 1 then 0 else m.hops + 1) age ∈ t.out)) ∧
          (m.stroke ≤ b.stroke → t.bell.stroke = b.stroke ∧ t.bell.phase = b.phase ∧ t.jobs = d.jobs ∧ t.chans = d.chans ∧
            (b.stroke - m.stroke < d.fld 7 0 0x040 8 8 → t.bell.state = 3 ∧ (b.state ≠ 3 → (t.rg 7 0 0x010).testBit 4 = true)) ∧
            (d.fld 7 0 0x040 8 8 ≤ b.stroke - m.stroke → t.bell.state = 0 ∧ t.bell.behind = true ∧ (t.rg 7 0 0x010).testBit 3 = true))))) ∧
    (d.power.vnw = true → (b.source = 2 ∨ b.behind = true) →
      (b.stroke < lastStroke → Does .freeStroke s (fun t => t.bell.stroke = b.stroke + 1 ∧ t.bell.phase = 0 ∧ t.bell.state = b.state ∧ t.bell.source = b.source ∧
        t.bell.period = (if b.holdover = none ∨ d.fld 7 0 0x040 0 3 = 2 then d.fld 7 0 0x040 4 3 else b.period))) ∧
      (b.stroke = lastStroke → Does .freeStroke s (fun t => t.bell.stroke = lastStroke ∧ t.bell.phase = 2 ^ 24 - 1 ∧ t.bell.state = 3 ∧ t.jobs = d.jobs))) ∧
    (b.source ≠ 2 → b.behind = false → b.stroke < lastStroke → Does .sourceLost s (fun t => t.bell.stroke = b.stroke + 1 ∧ t.bell.phase = 2 ^ 20 ∧ t.bell.state = 0 ∧
      t.bell.source ≠ b.source ∧ (t.rg 7 0 0x010).testBit 1 = true ∧ (t.rg 15 0 0x00C).testBit 6 = true ∧ b.source ∉ t.bell.sources.map (·.1) ∧
      (d.fld 7 0 0x040 0 3 = b.source ∧ b.source ≠ 0 ∨ (∀ e ∈ b.sources, e.1 = b.source) → t.bell.source = 2) ∧
      (d.fld 7 0 0x040 0 3 = 0 → ∀ x, (1, x) ∈ b.sources → b.source ≠ 1 → x.free = false → 3 ≤ x.run → t.bell.source = 1))) ∧
    (∀ p < 4, ∀ echo < 2 ^ 16, ∀ r2 < 2 ^ 16, d.alnUp p = true → let one := (r2 + 65536 - echo) % 65536 / 2
      let a := d.port p
      (a.delayN < 255 → Does (.timingExchange p echo r2) s (fun t => t = d.setPort p { a with delaySum := a.delaySum + one, delayN := a.delayN + 1 })) ∧
      (a.delayN = 255 → a.delaySum ≤ 255 * 32767 → Does (.timingExchange p echo r2) s (fun t => t.rg 8 p 0x044 = (a.delaySum + one) / 256 ∧
        (t.port p).delayN = 0 ∧ (t.port p).delaySum = 0))) ∧
    (∀ who v, CanWrite d who 7 0 0x040 v = true → v < 2 ^ 32 →
      let same (w : Nat) : Prop := field w 0 3 = field v 0 3 ∧ field w 4 3 = field v 4 3 ∧ field w 8 8 = field v 8 8
      (field v 0 3 ≠ 3 ∧ field v 4 3 ≤ 4 → Does (.belCfgWrite who v) s (fun t => same (t.rg 7 0 0x040) ∧
        t.bell = (if d.fld 7 0 0x040 4 3 = field v 4 3 then b else { b with holdover := none }))) ∧
      (field v 0 3 = 3 ∨ 4 < field v 4 3 → Does (.belCfgWrite who v) s (fun t => (same (d.rg 7 0 0x040) → t = paged d who 7 0) ∧ (¬ same (d.rg 7 0 0x040) → t = (paged d who 7 0).err 7 0 1 0x040 0)))) ∧
    (∀ c t, ((∃ v i, c = .bellFrame v i) ∨ (∃ p st pe f h o i, c = .alnarMark p st pe f h o i) ∨ c = .freeStroke ∨ c = .sourceLost ∨ ∃ p e r, c = .timingExchange p e r) →
      b.phase < 2 ^ 24 → exec c s = .next t → d.bellNow ≤ t.dev.bellNow)

/-- R416 to R420, R426, R427, R467, R473: the link layer of the ring. -/
def Obligations.RingLinksDeliverInOrder : Prop :=
  ∀ (s : State) (p : Nat), let d := s.dev
    let a := d.port p
    let st (t : Device) : Nat := t.rg 8 p 0x00C % 8
    p < 4 →
    (∀ w : Codeword, d.alnUp p = true → d.fld 8 p 0x008 0 1 = 0 →
      let counted (t : Device) (off n : Nat) : Prop := t.counter 8 p off = (d.counter 8 p off + n) % 2 ^ 48
      (w.uncorr = true → Does (.codewordReceive p w) s (fun t => t.out = d.out ++ [.nak p a.rxSeq] ∧ t.port p = a ∧ counted t 0x068 1)) ∧
      (w.uncorr = false → w.crcBad = true → Does (.codewordReceive p w) s (fun t => t.out = d.out ++ [.nak p a.rxSeq] ∧ t.port p = a ∧
        counted t 0x070 1 ∧ counted t 0x060 w.symbols)) ∧
      (w.uncorr = false → w.crcBad = false → a.queue = [] → w.seq < 4096 → a.rxSeq < 4096 → (w.nak = false ∨ a.naks < 63) → ∀ held rest,
        a.unacked = held ++ rest → (rest = a.unacked ∨ ∃ l f, held = l ++ [(w.ack, f)]) → (∀ x ∈ held.dropLast, x.1 ≠ w.ack) →
        (rest = a.unacked → ∀ x ∈ rest, x.1 ≠ w.ack) →
        Does (.codewordReceive p w) s (fun t => (t.port p).unacked = rest ∧ (∀ k < 8, (t.port p).credits.get 0 k = a.credits.get 0 k + (w.credits[k]?).getD 0) ∧
          let ahead := (w.seq + 4096 - a.rxSeq) % 4096
          let again : List Out := if w.nak then rest.map (fun x => .frame p x.2) else []
          (0 < w.flits → ahead = 1 → (t.port p).rxSeq = w.seq ∧ t.out = d.out ++ again ∧ counted t 0x088 w.flits ∧ counted t 0x098 w.reserved) ∧
          (w.flits = 0 ∨ ahead = 0 ∨ 2048 < ahead → (t.port p).rxSeq = a.rxSeq ∧ t.out = d.out ++ again) ∧
          (0 < w.flits → 2 ≤ ahead → ahead ≤ 2048 → (t.port p).rxSeq = a.rxSeq ∧ t.out = d.out ++ .nak p a.rxSeq :: again))) ∧
      (w.uncorr = false → w.crcBad = false → w.nak = true → 63 ≤ a.naks → (∀ x ∈ a.unacked, x.1 ≠ w.ack) →
        Does (.codewordReceive p w) s (fun t => st t = 0 ∧ (t.port p).unacked = [] ∧ (t.rg 8 p 0x010).testBit 1 = true))) ∧
    (d.alnUp p = true → Does (.portDown p) s (fun t => st t = 0 ∧ t.port p = {} ∧ (t.rg 8 p 0x010).testBit 1 = true ∧ t.fld 8 p 0x00C 20 1 = 0)) ∧
    (∀ (sent lost : Bool) lane, (st d = 2 ∨ st d = 3) → lane < 8 →
      ((∀ k ∈ d.spare.lanesUsed, k % 8 ≠ p + 4 * (if sent then 1 else 0)) → Does (.laneSpare p sent lost lane) s (fun t => st t = 3 ∧ t.fld 8 p 0x00C 3 4 = lane ∧
        (t.rg 8 p 0x010).testBit 2 = true ∧ t.port p = a ∧ t.out = d.out)) ∧
      ((∃ k ∈ d.spare.lanesUsed, k % 8 = p + 4 * (if sent then 1 else 0)) → Does (.halfRetrain p sent lane) s (fun t => st t = 4 ∧ t.fld 8 p 0x00C 3 4 = 0 ∧
        (t.rg 8 p 0x010).testBit 3 = true ∧ t.port p = a ∧ t.out = d.out ++ a.unacked.map (fun x => .frame p x.2)))) ∧
    (∀ src links age, d.alnUp p = true → src < 4096 →
      (¬ (d.assigned = true ∧ src = d.moduleId) → Does (.topology p src links age) s (fun t => t.ring.links.find? src = some links ∧
        (age = 0 → t.fld 8 p 0x00C 8 12 = src ∧ t.fld 8 p 0x00C 20 1 = 1) ∧
        (d.ring.links.find? src ≠ some links → (∀ q < 4, q ≠ p → d.alnUp q = true → .topology q src links (age + 1) ∈ t.out) ∧
          (∀ dest q h l, t.routeOf dest = some (q, h, l) → q < 4 ∧ d.alnUp q = true ∧ 1 ≤ h ∧ l ≤ 250000 * 2 ^ d.bell.period)))) ∧
      (d.assigned = true → src = d.moduleId → (age = 0 ∨ links ≠ d.ownLinks.map (fun l => l.2)) →
        Does (.topology p src links age) s (fun t => t.fld 8 0 0x048 13 1 = 1 ∧ (t.rg 8 0 0x010).testBit 5 = true ∧ t.ring = d.ring))) ∧
    (∀ who v, CanWrite d who 8 0 0x048 v = true → v < 2 ^ 32 → d.locked 8 0 = false →
      Does (.alnIdWrite who v) s (fun t => t.moduleId = v % 2 ^ 12 ∧ t.assigned = v.testBit 12 ∧ t.mem = d.mem)) ∧
    (∀ port v, d.hostMay port 0 true = true → d.ready = true → Does (.alnIdWrite (.host port 0) v) s (fun t => t = d.decodeErr port 0 0 (regKey 8 0 0x048) true)) ∧
    (∀ who n hi v, n < 8 → hi < 2 → CanWrite d who 8 0 (0x0C0 + 8 * n + 4 * hi) v = true → v < 2 ^ 32 → d.locked 8 0 = false →
      (hi = 0 → field v 0 1 = 0 ∨ (12 ≤ field v 1 6 ∧ field v 1 6 ≤ 39) → Does (.alnOpenWrite who n 0 v) s (fun t => let w := t.rg 8 0 (0x0C0 + 8 * n)
        field w 0 8 = field v 0 8 ∧ field w 12 20 = field v 12 20 ∧ t = { paged d who 8 0 with regs := t.regs })) ∧
      (hi = 0 → field v 0 1 = 1 → field v 1 6 < 12 ∨ 39 < field v 1 6 → field (d.rg 8 0 (0x0C0 + 8 * n)) 0 8 ≠ field v 0 8 →
        Does (.alnOpenWrite who n 0 v) s (fun t => t = (paged d who 8 0).err 8 0 1 (0x0C0 + 8 * n) 0)) ∧
      (hi = 1 → Does (.alnOpenWrite who n 1 v) s (fun t => field (t.rg 8 0 (0x0C4 + 8 * n)) 0 8 = field v 0 8 ∧ t = { paged d who 8 0 with regs := t.regs })))

/-- R418 to R420, R422: ring frames. -/
def Obligations.RingFramesAreServed : Prop :=
  ∀ (s : State) (p : Nat) (f : Frame), let d := s.dev
    let mine : Prop := d.assigned = true ∧ f.dest = d.moduleId ∧ d.fld 8 0 0x048 13 1 = 0
    let n := 16 * (f.units + 1)
    p < 4 → d.alnUp p = true → f.src < 4096 → f.tag < 2 ^ 16 → f.epoch < 2 ^ 16 → f.units < 16 → d.mem.wf = true →
    (∀ q, GoesOut d f.src q 2 →
      let reply (kind st data : Nat) : Out := .frame q { kind := kind, dest := f.src, src := f.dest, tag := f.tag, status := st, units := if st = 0 ∧ kind = 4 then f.units else 0, addr := if kind = 8 then f.addr else 0, channel := if kind = 8 then f.channel else 0, epoch := d.ring.epoch % 65536, data := data }
      (mine → d.computeOff = false → d.stoodDown = false → f.kind = 1 → f.addr + n ≤ d.reservedBase →
        let gives (st data : Nat) : Prop := Does (.farRead p f) s (fun t => t.out = d.out ++ [reply 4 st data] ∧ t.mem = d.mem)
        let sound : Prop := ∀ u ∈ Device.unitsOf f.addr n, d.latent.find? (unitBase u) = none
        (OpenToPeers d f.addr n false → (d.rangeLost f.addr n = false → sound → d.rangePoison f.addr n = false → gives 0 (d.mem.readLE (windowBase + f.addr) n)) ∧
          (d.rangeLost f.addr n = false → sound → d.rangePoison f.addr n = true → gives 1 0) ∧
          (d.rangeLost f.addr n = false → (∃ u ∈ Device.unitsOf f.addr n, d.latent.find? (unitBase u) = some 2) →
            Does (.farRead p f) s (fun t => (∃ o, t.out = o ++ [reply 4 2 0]) ∧ t.mem = d.mem)) ∧ (d.rangeLost f.addr n = true → gives 2 0)) ∧
        (¬ OpenToPeers d f.addr n false → gives 3 0)) ∧
      (mine → f.addr < hbmSize → d.reservedBase < f.addr + n → f.kind = 1 ∨ f.kind = 2 → ∀ c, Arrives p f f.kind c →
        Does c s (fun t => t.out = d.out ++ [reply (f.kind + 3) 3 0] ∧ t.mem = d.mem)) ∧
      (mine → d.computeOff = false → d.stoodDown = false → f.kind = 2 → f.addr + n ≤ d.reservedBase →
        (OpenToPeers d f.addr n true → d.rangeLost f.addr n = false → (∀ u ∈ Device.unitsOf f.addr n, d.latent.find? (unitBase u) = none) → Does (.farWrite p f) s (fun t => t.out = d.out ++ [reply 5 0 0] ∧
          HbmHolds t f.addr (bytesOf n f.data) ∧ (∀ a, a < windowBase + f.addr ∨ windowBase + f.addr + n ≤ a → t.mem.byte a = d.mem.byte a) ∧
          (∀ u ∈ t.poison, u ∈ d.poison))) ∧
        (¬ OpenToPeers d f.addr n true → Does (.farWrite p f) s (fun t => t.out = d.out ++ [reply 5 3 0] ∧ t.mem = d.mem))) ∧
      (let slot := 0x47FE000000 + (f.src * 256 + f.tag % 256) * 32
       let kept := d.mem.readLE (windowBase + slot) 32
       let w := 128 / 2 ^ f.width
       let old := d.mem.readLE (windowBase + f.addr) 16
       mine → d.computeOff = false → d.stoodDown = false → f.kind = 3 → (f.op = 1 ∨ f.op = 2) → f.width ≤ 4 → f.addr % 16 = 0 → f.addr + 16 ≤ d.reservedBase →
       OpenToPeers d f.addr 16 true → d.rangeLost f.addr 16 = false → d.rangePoison f.addr 16 = false → d.rangeLost slot 32 = false → d.rangePoison slot 32 = false →
       (∀ u ∈ Device.unitsOf f.addr 16 ++ Device.unitsOf slot 32, d.latent.find? (unitBase u) = none) →
       (field kept 128 16 ≠ f.tag ∨ field kept 144 16 ≠ f.epoch ∨ field kept 168 1 = 0) →
       ∃ t u, exec (.farAtomic p f) s = .next t ∧ exec (.farAtomic p f) t = .next u ∧ t.dev.out = d.out ++ [reply 6 0 old] ∧
         u.dev.out = t.dev.out ++ [reply 6 0 old] ∧ u.dev.mem = t.dev.mem ∧
         (∃ new, HbmHolds t.dev f.addr (bytesOf 16 new) ∧ (f.op = 2 → new = f.data % 2 ^ 128) ∧
           (f.op = 1 → new < 2 ^ 128 ∧ ∀ j < 2 ^ f.width, field new (j * w) w = (field old (j * w) w + field f.data (j * w) w) % 2 ^ w)) ∧
         (∀ a, a < windowBase + f.addr ∨ windowBase + f.addr + 16 ≤ a → a < windowBase + slot ∨ windowBase + slot + 32 ≤ a → t.dev.mem.byte a = d.mem.byte a)) ∧
      (∀ k c, Arrives p f k c → f.kind = k → k ∈ [1, 2, 3, 7, 9] → let ak := if k ≤ 3 then k + 3 else 8
        (d.assigned = true → f.dest = d.moduleId → d.fld 8 0 0x048 13 1 = 1 → Does c s (fun t => t.out = d.out ++ [reply ak 3 0] ∧ t.mem = d.mem)) ∧
        (¬ (d.assigned = true ∧ f.dest = d.moduleId) → d.routeOf f.dest = none → Does c s (fun t => t.out = d.out ++ [reply ak 4 0] ∧ t.mem = d.mem)))) ∧
    (∀ k c, Arrives p f k c → f.kind = k → k ∈ [4, 5, 6, 8, 0xA] →
      (d.assigned = true ∧ f.dest = d.moduleId ∧ d.fld 8 0 0x048 13 1 = 1) ∨ (¬ (d.assigned = true ∧ f.dest = d.moduleId) ∧ d.routeOf f.dest = none) →
      Does c s (fun t => t = d.count 8 p 0x098)) ∧
    (∀ k c q, Arrives p f k c → f.kind = k → ¬ (d.assigned = true ∧ f.dest = d.moduleId) → f.set < 2 →
      let fset := if d.assigned = true ∧ ∀ m ∈ d.ring.links, d.moduleId ≤ m.1 then 1 else f.set
      let cls := if k ≤ 3 then 0 else if k ≤ 6 ∨ k = 8 then 1 else if k = 0xA then 3 else 2
      GoesOut d f.dest q (2 * cls + fset) → Does c s (fun t => t.out = d.out ++ [.frame q { f with set := fset }] ∧ t.mem = d.mem)) ∧
    (∀ k ∈ [1, 2, 3], ∀ c, Arrives p f (k + 3) c → f.kind = k + 3 → mine → Does c s (fun t => t = { d with ring := { d.ring with far := t.ring.far } } ∧
      t.ring.far.length = d.ring.far.length ∧ ∀ (i : Nat) (r : FarReq), d.ring.far[i]? = some r → t.ring.far[i]? =
        some (if r.frame.kind = k ∧ r.frame.dest = f.src ∧ r.frame.tag = f.tag ∧ r.resp = none then { r with resp := some (f.status, f.data) } else r))) ∧
    (∀ (r : FarReq) l1 l2, d.ring.far = l1 ++ r :: l2 → r.resp = none → r.frame.kind ≤ 3 → r.frame.set = 0 → r.frame.units < 16 →
      (∀ x ∈ l1 ++ l2, ¬ (x.frame.kind = r.frame.kind ∧ x.frame.dest = r.frame.dest ∧ x.frame.tag = r.frame.tag)) →
      let c : Instr := .farRequestTimeout r.frame.kind r.frame.dest r.frame.tag
      (d.fld 8 0 0x054 16 2 ≤ r.retries → Does c s (fun t => t.ring.far = l1 ++ { r with resp := some (2, 0) } :: l2 ∧ t.out = d.out)) ∧
      (∀ q, r.retries < d.fld 8 0 0x054 16 2 → GoesOut d r.frame.dest q 0 → Does c s (fun t => t.ring.far = l1 ++ { r with retries := r.retries + 1 } :: l2 ∧
        t.out = d.out ++ [.frame q { r.frame with src := d.moduleId, epoch := d.ring.epoch % 65536 }])))

/-- R272 to R274, R423: the mirror and the lease. -/
def Obligations.MirrorAndLeaseAreKept : Prop :=
  ∀ (s : State) (p ch : Nat) (f : Frame), let d := s.dev
    let c := d.chan ch
    let mine : Prop := p < 4 ∧ d.alnUp p = true ∧ d.assigned = true ∧ f.dest = d.moduleId ∧ d.fld 8 0 0x048 13 1 = 0
    let same (x : MirrorSetup) : Prop := x.origin = f.src ∧ x.channel = f.channel
    let acked (q st addr : Nat) : Out := .frame q { kind := 8, dest := f.src, src := d.moduleId, channel := f.channel, status := st, addr := addr, epoch := d.ring.epoch % 65536 }
    (∀ q, mine → f.kind = 9 → GoesOut d f.src q 2 → let e := f.data
      let size (x : Nat) : Nat := ((0x1000 + 2 ^ farRecLog2 x * 128 + 65535) / 65536) * 65536
      let room := ((d.ledger.setups.filter (fun x => ¬ (x.origin = f.src ∧ x.channel = f.channel))).map (fun x => size x.entry)).sum + size e ≤ d.fld 3 0 0x040 8 8 * 2 ^ 28
      let accepts := d.fld 3 0 0x04C 8 1 = 1 ∧ (entLedger e = 1 ∨ entLedger e = 2) ∧ entRingSpace e = 0 ∧ room ∧ (d.fld 1 0 0x040 6 2 = 2 ∨ d.fld 1 0 0x040 6 2 = entLedger e)
      (accepts → Does (.mirrorSetup p f) s (fun t => t.out = d.out ++ [acked q 0 0] ∧ { origin := f.src, channel := f.channel, entry := e } ∈ t.ledger.setups ∧
        (∀ x ∈ t.ledger.setups, same x → x.entry = e ∧ x.records = []) ∧ (∀ x, ¬ same x → (x ∈ t.ledger.setups ↔ x ∈ d.ledger.setups)))) ∧
      (¬ accepts → Does (.mirrorSetup p f) s (fun t => t.out = d.out ++ [acked q 3 0] ∧ t.ledger = d.ledger))) ∧
    (∀ q (x : MirrorSetup), mine → f.kind = 7 → GoesOut d f.src q 2 → d.ledger.setups.find? (fun y => y.origin = f.src && y.channel = f.channel) = some x →
      let v := f.data
      let sound (tail : List Byte) : Prop := field v 480 32 = crc32c (bytesOf 60 v ++ tail)
      let becomes (y : MirrorSetup) : Prop := Does (.mirrorWrite p f) s (fun t => t.out = d.out ++ [acked q 0 f.addr] ∧ y ∈ t.ledger.setups ∧
        (∀ z ∈ t.ledger.setups, same z → z = y) ∧ (∀ z, ¬ same z → (z ∈ t.ledger.setups ↔ z ∈ d.ledger.setups)))
      (f.addr = 0 → (sound [] ∧ (x.header = 0 ∨ field x.header 320 64 ≤ field v 320 64) → becomes { x with header := v }) ∧
        (¬ sound [] ∨ (x.header ≠ 0 ∧ field v 320 64 < field x.header 320 64) → becomes x)) ∧
      (f.addr ≠ 0 → let r := Rec.ofNat v
        (¬ sound (bytesOf 64 (v / 2 ^ 512)) → becomes x) ∧
        (∀ old, sound (bytesOf 64 (v / 2 ^ 512)) → x.records.find? r.seq = some old → (Rec.ofNat old).rank ≤ r.rank → becomes { x with records := x.records.set r.seq v }) ∧
        (∀ old, x.records.find? r.seq = some old → r.rank < (Rec.ofNat old).rank → becomes x) ∧
        (sound (bytesOf 64 (v / 2 ^ 512)) → x.records.find? r.seq = none → Does (.mirrorWrite p f) s (fun t => ∃ y ∈ t.ledger.setups, same y ∧ y.records.find? r.seq = some v ∧
          (∀ k w, k % 2 ^ farRecLog2 x.entry ≠ r.seq % 2 ^ farRecLog2 x.entry → (y.records.find? k = some w ↔ x.records.find? k = some w)) ∧ y.header = x.header)))) ∧
    -- where the mirrored region keeps the record of a tag: that of its job, else of the next job of the channel
    (let slot (tag : Nat) : Nat := 0x1000 + ((d.job? tag).map (·.seq)).getD c.seq % 2 ^ farRecLog2 (d.entry ch) * 128
     let rest := c.mirrorOut.erase f.addr
     let up := decide (c.resync = true ∧ rest = [])
     let c1 : Channel := { c with missed := 0, mirrorOut := rest, mirror := if up then .mirrored else c.mirror, resync := c.resync && !up }
     mine → f.kind = 8 → f.channel = ch → c.entry.isSome = true → entUnderstudy (d.entry ch) = f.src →
      (c.setupDue = true → c.mirrorOut = [] → entUnderstudyEn (d.entry ch) = true →
        (f.status = 0 → Does (.mirrorAck p f) s (fun t => t = d.setChan ch { c with setupDue := false, mirror := .mirrored, missed := 0 })) ∧
        (f.status ≠ 0 → Does (.mirrorAck p f) s (fun t => (t.chan ch).mirror = .refused ∧ (t.chan ch).setupDue = false ∧ (t.rg 3 0 0x010).testBit 6 = true ∧ t.jobs = d.jobs))) ∧
      (c.mirrorOut ≠ [] ∨ c.setupDue = false → f.addr ∉ c.mirrorOut ∨ f.status ≠ 0 → Does (.mirrorAck p f) s (fun t => t = d)) ∧
      (f.addr ∈ c.mirrorOut → f.status = 0 →
        (f.addr ∈ rest → Does (.mirrorAck p f) s (fun t => t = d.setChan ch c1)) ∧
        (f.addr = 0 → f.addr ∉ rest → c.pauseOwed = none → Does (.mirrorAck p f) s (fun t => t = d.setChan ch { c1 with hdrSent := false })) ∧
        (∀ tag, f.addr ≠ 0 → f.addr ∉ rest → c.retiring.find? (fun x => decide (slot x = f.addr)) = some tag → Does (.mirrorAck p f) s (fun t =>
          (t.chan ch).retiring = c.retiring.erase tag ∧ (t.chan ch).missed = 0 ∧ (t.chan ch).ledgerQ = c.ledgerQ ∧ ∀ m, t.job? m = if m = tag then none else d.job? m)) ∧
        (∀ w after, f.addr ≠ 0 → f.addr ∉ rest → (∀ x ∈ c.retiring, slot x ≠ f.addr) → c.ledgerQ = w :: after → w.sent = true → slot w.tag = f.addr →
          Does (.mirrorAck p f) s (fun t => (t.chan ch).ledgerQ = after ∧ (t.chan ch).missed = 0 ∧
          (w.step = 1 → (t.chan ch).fetched = c.fetched.map (fun x => if x.tag = some w.tag then { x with durable := true } else x) ∧ t.jobs = d.jobs) ∧
          (∀ j, w.step = 2 ∨ w.step = 7 → d.job? w.tag = some j → ∃ k, t.job? w.tag = some k ∧ (w.step = 2 → k.startedDurable = true) ∧ (w.step = 7 → k.finishDurable = true)))) ∧
        (f.addr ≠ 0 → (∀ x ∈ c.retiring, slot x ≠ f.addr) → (∀ w after, c.ledgerQ = w :: after → w.sent = false ∨ slot w.tag ≠ f.addr) →
          Does (.mirrorAck p f) s (fun t => t = d.setChan ch c1)))) ∧
    (mine → f.kind = 0xA → Does (.heartbeat p f) s (fun t => t.ledger.setups = d.ledger.setups.map (fun x => if x.origin = f.src then { x with missed := 0 } else x) ∧
      t = { d with ledger := { d.ledger with setups := t.ledger.setups } })) ∧
    (c.mirror = .mirrored → 2 ≤ c.missed → Does (.unmirrored ch) s (fun t => (t.chan ch).mirror = .unmirrored ∧ (t.rg 3 0 0x010).testBit 2 = true ∧
      (d.fld 3 0 0x008 0 1 = 0 → t.counter 3 0 0x0A8 = (d.counter 3 0 0x0A8 + 1) % 2 ^ 48) ∧
      (∀ w rest, c.ledgerQ = w :: rest → (t.chan ch).ledgerQ = (if w.sent then rest else w :: rest)) ∧
      (∀ tag ∈ c.retiring, t.job? tag = none))) ∧
    (∀ q, c.mirror = .unmirrored → c.resync = false → c.fetched = [] → GoesOut d (entUnderstudy (d.entry ch)) q 4 → (d.jobsOf ch).length = 0 →
      Does (.mirrorResend ch) s (fun t => t.chan ch = { c with resync := true, missed := 0, mirrorOut := c.mirrorOut ++ [0] } ∧
        t.out = d.out ++ [.frame q { kind := 7, dest := entUnderstudy (d.entry ch), src := d.moduleId, channel := ch, units := 3, epoch := d.ring.epoch % 65536, data := c.hdr % 2 ^ 512 }])) ∧
    (∀ l v d1, c.leaseUnread = some l → d.readPa (farBase (c.leaseFor.getD (d.entry ch))) 64 = (.ok v, d1) →
      let holds := (v = 0 ∨ field v 480 32 = crc32c (bytesOf 60 v)) ∧ field v 0 12 = d.moduleId ∧ field v 128 40 = l
      (holds → Does (.leaseReadback ch) s (fun t => t = d.setChan ch { c with lease := l, leaseUnread := none })) ∧ (¬ holds → Does (.leaseReadback ch) s (fun t => t = d)))

/-- R261, R268, R269, R271, R275 to R277, R279, R282, R556: recovery and adoption. -/
def Obligations.ChannelsAreRecoveredAndAdopted : Prop :=
  ∀ (s : State) (ch : Nat), let d := s.dev
    let c := d.chan ch
    let e := d.entry ch
    let ended (h : Nat) : Prop := d.bell.state = 2 ∧ field h 13 1 = 0 ∧ field h 128 40 + 2 ≤ d.bell.stroke
    (c.recovering = true → c.st = .enabling → c.entry.isSome = true → c.hold = none → (c.recoverAll = true → 6 ≤ d.power.step) →
      (d.readHeader ch = .lost → Does (.channelRecovery ch) s (fun t => (t.chan ch).st = .broken ∧ (t.rg 3 0 0x010).testBit 0 = true ∧ t.mem = d.mem)) ∧
      (∀ h, d.readHeader ch = .ok h → d.recordsWait e (d.recsOf ch h none) = true → Does (.channelRecovery ch) s (fun t => t = d)) ∧
      (∀ h0, d.readHeader ch = .ok h0 → d.recordsWait e (d.recsOf ch h0 none) = false → let h := h0
        let mine := field h 12 1 = 1 ∧ field h 0 12 = d.moduleId
        -- a far header claimed is read back, and another module's claim found there wins (R276, R277)
        (¬ mine → c.recoverAll = false → hasFar e = true → field h 12 1 = 0 ∨ ended h → (d.claimHdr e (d.claimed ch h)).1 = some false →
          Does (.channelRecovery ch) s (fun t => (t.chan ch).st = .broken)) ∧
        (¬ mine → c.recoverAll = true → Does (.channelRecovery ch) s (fun t => (t.chan ch).st = (if c.wasBroken then .broken else .off) ∧ (t.chan ch).seq = 0 ∧
          (t.chan ch).accept = 0 ∧ (t.chan ch).done = 0 ∧ (t.chan ch).entry = none ∧ t.mem = d.mem)) ∧
        (field h 12 1 = 1 → field h 0 12 ≠ d.moduleId → c.recoverAll = false → hasFar e = true → ¬ ended h → Does (.channelRecovery ch) s (fun t => (t.chan ch).st = .broken ∧ t.mem = d.mem)) ∧
        (mine ∨ (c.recoverAll = false ∧ (hasFar e = false ∨ field h 12 1 = 0 ∨ ended h)) → c.abortAfter = false → hdrRseq h < 2 ^ 63 → (entRingSpace e = 0 ∨ entCrBase e + 2 ^ 25 ≤ hbmSize) →
          let claim := decide (¬ mine ∧ hasFar e = true)
          let d1 := if claim then (d.claimHdr e (d.claimed ch h)).2 else d
          let h := if claim then hdrSeal (d.claimed ch h) else h
          let recs := d1.recsOf ch h none
          let next := recs.foldl (fun m r => max m (r.seq + 1)) (hdrRseq h)
          let at_ (log2 i0 q : Nat) : Nat := ixAdvance (2 ^ log2) i0 ((q + 2 ^ 64 * (2 * 2 ^ log2) - hdrSeq0 h) % (2 * 2 ^ log2))
          let written (q : Nat) : Prop := ∃ r, bestRec recs q = some r ∧ r.state = 2 ∧ d1.recordWritten ch r = true
          (claim = true → (d.claimHdr e (d.claimed ch h0)).1 = some true) → (∀ r ∈ recs, r.seq < 2 ^ 63) → (∀ x ∈ d.crofts, ∀ p ∈ x.2.strips, ∃ j, d.job? p.tk.job = some j ∧ j.ch ≠ ch) →
          Does (.channelRecovery ch) s (fun t => let k := t.chan ch
            k.st = (if field h 15 1 = 1 then .paused else .run) ∧ k.seq = next ∧ k.accept = at_ (entJrLog2 e) (hdrJidx0 h) next ∧ k.tail = k.accept ∧
            k.fqTail = field h 384 32 ∧ k.fqHead = k.fqTail ∧ k.crHead = ixAdvance (2 ^ entCrLog2 e) k.done (2 ^ entCrLog2 e) ∧
            (∀ q, hdrRseq h ≤ q → q ≤ next → (∀ x, hdrRseq h ≤ x → x < q → written x) → (q = next ∨ ¬ written q) → k.done = at_ (entCrLog2 e) (hdrCidx0 h) q) ∧
            hdrOwner k.hdr = d.moduleId ∧ hdrOwned k.hdr = true ∧ hdrHandoff k.hdr = false ∧ hdrSeq0 k.hdr = next ∧ hdrRseq k.hdr = hdrRseq h ∧
            hdrEpoch k.hdr = (if mine ∨ hasFar e = false then hdrEpoch h0 else (hdrEpoch h0 + 1) % 2 ^ 32) ∧
            (∀ x ∈ t.jobs, x.2.ch = ch → hdrRseq h ≤ x.2.seq ∧ x.2.seq < next) ∧
            (∀ q, hdrRseq h ≤ q → q < next → ∃ x ∈ t.jobs, x.2.ch = ch ∧ x.2.seq = q ∧
              (bestRec recs q = none → x.2.st = .finished ∧ x.2.status = stMemoryLost ∧ (t.rg 3 0 0x010).testBit 0 = true) ∧
              (∀ r, bestRec recs q = some r → r.state = 2 → x.2.status = r.status ∧ x.2.st = (if d1.recordWritten ch r then .complete else .finished)) ∧
              (∀ r, bestRec recs q = some r → r.state = 1 → let late := dsDeadline r.desc ≠ 0 ∧ dsDeadline r.desc ≤ d.bell.stroke
                (late → x.2.st = .finished ∧ x.2.status = stDeadline) ∧ (¬ late → r.side = true ∧ dsKind r.desc = 1 → x.2.st = .finished ∧ x.2.status = stAborted ∧ x.2.detail = 1) ∧
                (¬ late → ¬ (r.side = true ∧ dsKind r.desc = 1) → x.2.st = .waiting ∧ x.2.desc = r.desc ∧ x.2.replayed = (r.replayed || r.started) ∧
                  (x.2.jphase = .staging ↔ r.jstate = 1) ∧ x.2.redo = decide (r.jstate = 2) ∧ x.2.skipAt = decide (r.jstate = 3) ∧ x.2.resume = (if r.jstate = 0 then 0 else r.jchain)))))))) ∧
    (∀ origin (x : MirrorSetup) v, d.ledger.setups.find? (fun y => y.origin = origin && y.channel = ch) = some x →
      let a := farBase (putField x.entry 16 8 (d.fld 3 0 0x04C 0 8))
      d.hostServes (d.fld 3 0 0x04C 7 1) = true → regionOf a = .host (d.fld 3 0 0x04C 7 1) → v = d.mem.readLE (windowBase + a) 64 → hdrValid v = true → d.mem.wf = true →
      let gone (t : Device) : Prop := ∀ y ∈ t.ledger.setups, ¬ (y.origin = origin ∧ y.channel = ch)
      (field v 12 1 = 0 ∨ field v 0 12 ≠ origin → Does (.adoption origin ch) s (fun t => gone t ∧ t.mem = d.mem ∧ t.chans = d.chans)) ∧
      (field v 12 1 = 1 → field v 0 12 = origin → field v 14 1 = 0 → x.command = false → x.missed < 3 ∨ ¬ ended v → Does (.adoption origin ch) s (fun t => t = d)) ∧
      (∀ reason, field v 12 1 = 1 → field v 0 12 = origin →
        (field v 14 1 = 1 ∧ reason = 1) ∨ (field v 14 1 = 0 ∧ x.command = true ∧ reason = 2) ∨ (field v 14 1 = 0 ∧ x.command = false ∧ 3 ≤ x.missed ∧ ended v ∧ reason = 0) →
        let e1 := putField x.entry 16 8 (d.fld 3 0 0x04C 0 8)
        let recs := (x.records.map (fun r => Rec.ofNat r.2)).filter (fun r => decide (hdrRseq v ≤ r.seq))
        let pool (n : Nat) : Prop := d.fld 3 0 0x048 0 12 ≤ n ∧ n < d.fld 3 0 0x048 0 12 + d.fld 3 0 0x048 12 13 ∧ (d.chan n).st = .off
        (d.recordsWait e1 recs = true → Does (.adoption origin ch) s (fun t => t = d)) ∧
        (d.recordsWait e1 recs = false → (∀ n, ¬ pool n) → Does (.adoption origin ch) s (fun t => (t.rg 3 0 0x010).testBit 5 = true ∧ t.ledger = d.ledger ∧ t.mem = d.mem)) ∧
        (∀ n, d.recordsWait e1 recs = false → pool n → (∀ m < n, ¬ pool m) → n < 4096 → regionOf (d.entryPa n) = .hbm → d.ledger.adoptLog.length < 64 →
          Does (.adoption origin ch) s (fun t => gone t ∧ (t.chan n).origin = some origin ∧
            ((t.chan n).adopting = none → ((t.chan n).st = .run ∨ (t.chan n).st = .paused ∨ (t.chan n).st = .broken) ∧
              t.ledger.adoptLog = d.ledger.adoptLog ++ [(n + ch * 2 ^ 12 + 2 ^ 31, origin + reason * 2 ^ 12)] ∧ (t.rg 3 0 0x010).testBit 3 = true) ∧
            ((t.chan n).adopting ≠ none → (t.chan n).st = .enabling ∧ t.ledger.adoptLog = d.ledger.adoptLog) ∧
            ∃ h, HbmHolds t a (bytesOf 64 h) ∧ hdrOwner h = d.moduleId ∧ hdrOwned h = true ∧ hdrHandoff h = false ∧ field h 32 12 = n ∧ hdrEpoch h = (hdrEpoch v + 1) % 2 ^ 32)))) ∧
    (∀ who origin, origin < 4096 → CanWrite d who 3 0 0x050 (origin + 2 ^ 31) = true →
      (d.fld 3 0 0x050 31 1 = 1 → Does (.ldgAdoptCmd who origin) s (fun t => t = (paged d who 3 0).err 3 0 3 0x050 0)) ∧
      (d.fld 3 0 0x050 31 1 = 0 → Does (.ldgAdoptCmd who origin) s (fun t => t.fld 3 0 0x050 0 12 = origin ∧
        t.ledger.setups = d.ledger.setups.map (fun x => if x.origin = origin then { x with command := true } else x) ∧
        (t.fld 3 0 0x050 31 1 = 1 ↔ ∃ x ∈ t.ledger.setups, x.command = true)))) ∧
    (∀ who, ch < 4096 → CanWrite d who 3 0 0x05C (ch + 2 ^ 12) = true →
      (c.st ≠ .off → Does (.clear who ch) s (fun t => t = paged d who 3 0)) ∧
      (c.st = .off → d.mem.wf = true → d.computeOff = false → Does (.clear who ch) s (fun t => (t.chan ch).hdr = 0 ∧ t.jobs = d.jobs ∧
        ∀ k < 2, let a := 0x47FC000000 + ch / 1024 * 0x20000 + k * 0x10000 + ch % 1024 * 64
          d.rangeLost a 64 = false → HbmHolds t a (bytesOf 64 0)))) ∧
    (∀ who v, CanWrite d who 3 0 0x040 v = true → v < 2 ^ 32 → d.locked 3 0 = false →
      let same := field (d.rg 3 0 0x040) 0 16 = field v 0 16
      let off := ∀ x ∈ d.chans, x.2.st = .off
      (same → off → Does (.ldgCfgWrite who v) s (fun t => t = paged d who 3 0)) ∧ (¬ off → Does (.ldgCfgWrite who v) s (fun t => t = (paged d who 3 0).err 3 0 3 0x040 0)) ∧
      (¬ same → off → 128 < field v 0 8 ∨ 64 < field v 8 8 → Does (.ldgCfgWrite who v) s (fun t => t = (paged d who 3 0).err 3 0 1 0x040 0)) ∧
      (off → field v 0 8 ≤ 128 → field v 8 8 ≤ 64 → Does (.ldgCfgWrite who v) s (fun t => field (t.rg 3 0 0x040) 0 16 = field v 0 16 ∧ t = { paged d who 3 0 with regs := t.regs })))

/-- R203, R494 to R497, R501, R503, R504, R508, R549: Gate sessions. The lowest REASON of several is this model's reading. -/
def Obligations.GateSessionsOpenAndClose : Prop :=
  ∀ (s : State) (m : GateMsg), let d := s.dev
    let g := d.gate
    let slot (k : Nat) : KeySlot := g.slots.get {} k
    let counted (t : Device) (off : Nat) : Prop := d.fld 12 0 0x008 0 1 = 0 → t.counter 12 0 off = (d.counter 12 0 off + 1) % 2 ^ 48
    let raised (t : Device) (bit : Nat) : Prop := (t.rg 12 0 0x010).testBit bit = true
    let sec (n : Nat) : Nat := n * 1000000 / (250 * 2 ^ d.bell.period) * 2 ^ 24
    let wiped (t : Device) : Prop := ∀ a, strongBase ≤ a → a < strongBase + 0x400000 → t.mem.byte a = 0
    let fails (o : Opening) (t : Device) : Prop := t.gate.opening = none ∧ t.gate.session = g.session ∧ counted t 0x060 ∧ raised t 2 ∧ t.out = d.out ∧
      let b := if (slot o.slot).backoff = 0 then 1 else min 1024 (2 * (slot o.slot).backoff)
      t.gate.slots.get {} o.slot = { slot o.slot with backoff := b, until_ := d.bellNow + sec b }
    let closed (t : Device) : Prop := t.gate.session = none ∧ t.gate.staged = [] ∧ raised t 1 ∧ t.gate.transfer = false ∧
      (g.transfer = true → (if g.active = 0 then t.gate.bankB else t.gate.bankA).valid = false) ∧ (if g.active = 0 then t.gate.bankA = g.bankA else t.gate.bankB = g.bankB)
    (∀ n, m.slot = n → n < 8 → d.endpointUp m.binding = true →
      let reason := if g.session.isSome then 1 else if (slot n).state ≠ 1 then 2 else if d.bellNow < (slot n).until_ then 3
        else if g.lifecycle = 0 ∨ g.lifecycle = 4 then 4 else if g.tamper = true ∧ g.lifecycle = 2 then 5 else if 65535 ≤ g.sids.length then 6 else 0
      (reason ≠ 0 → Does (.gateOpen m) s (fun t => t.gate = g ∧ ∃ left, t.out = d.out ++ [.gate m.binding 0x3F n 0 0 (BitVec.ofNat 8 reason :: left) none] ∧
        (reason ≠ 3 → left = []) ∧ (reason = 3 → left = bytesOf 2 (ceilDiv ((slot n).until_ - d.bellNow) (sec 1))))) ∧
      (reason = 0 → m.args.length = 32 → Does (.gateOpen m) s (fun t => ∃ nm < 2 ^ 256, t.gate = { g with opening := some { slot := n, binding := m.binding, nh := ofBytes m.args, nm := nm } } ∧
        t.out = d.out ++ [.gate m.binding 0x02 n 0 0 (bytesOf 32 nm) (some (Config.hmacSha384 (slot n).key (0x01 :: m.args ++ bytesOf 32 nm ++ bytesOf 16 g.serial)))]))) ∧
    (∀ n, m.slot = n → n < 8 → d.endpointUp m.binding = true → g.session = none → (slot n).state = 1 → (slot n).until_ ≤ d.bellNow → g.lifecycle ≠ 0 → g.lifecycle ≠ 4 →
      ¬ (g.tamper = true ∧ g.lifecycle = 2) → g.sids.length < 65535 → m.args.length ≠ 32 →
      Does (.gateOpen m) s (fun t => t.gate = g ∧ counted t 0x060 ∧ raised t 2 ∧ t.out = d.out)) ∧
    (∀ o, g.opening = some o → d.endpointUp m.binding = true →
      let k := slot o.slot
      let right := o.binding = m.binding ∧ o.slot = m.slot ∧ m.args = [] ∧ m.mac = Config.hmacSha384 k.key (0x02 :: bytesOf 32 o.nm ++ bytesOf 32 o.nh ++ bytesOf 16 g.serial)
      (right → g.sids.length < 65535 → Does (.gateProve m) s (fun t => t.gate.opening = none ∧ ∃ n : Session, t.gate.session = some n ∧ n.slot = o.slot ∧ n.binding = o.binding ∧
        n.ks = Config.hmacSha384 k.key (0x03 :: bytesOf 32 o.nh ++ bytesOf 32 o.nm) ∧ n.seqIn = 0 ∧ n.seqOut = 0 ∧ n.fails = 0 ∧ 1 ≤ n.sid ∧ n.sid ≤ 65535 ∧ n.sid ∉ g.sids ∧
        t.gate.sids = g.sids ++ [n.sid] ∧ t.gate.slots.get {} o.slot = { k with backoff := 0, until_ := 0 } ∧ counted t 0x078 ∧ raised t 0 ∧
        t.out = d.out ++ [.gate m.binding 0x04 o.slot n.sid 0 (bytesOf 2 n.sid) (some (Config.hmacSha384 n.ks (0x04 :: bytesOf 2 n.sid)))])) ∧
      (¬ right → Does (.gateProve m) s (fails o)) ∧ Does .proveTimeout s (fails o)) ∧
    (g.opening = none → d.endpointUp m.binding = true → Does (.gateProve m) s (fun t => t.gate = g ∧ counted t 0x060 ∧ raised t 2 ∧ t.out = d.out)) ∧
    (∀ x, g.session = some x → d.endpointUp m.binding = true →
      let drops (c : Instr) (ok : Prop) : Prop := x.seqIn < 2 ^ 32 - 1 → ¬ ok → Does c s (fun t => t.out = d.out ∧ counted t 0x060 ∧ raised t 2 ∧
        (x.fails < 2 → t.gate = { g with session := some { x with fails := x.fails + 1 } }) ∧ (2 ≤ x.fails → closed t))
      (∀ code len right c, GateCommand m code len right c → drops c (Authentic x m 0x10 (BitVec.ofNat 8 code :: m.args)) ∧
        (x.seqIn = 2 ^ 32 - 1 → Does c s (fun t => closed t ∧ t.out = d.out))) ∧
      drops (.gateClose m) (Authentic x m 0x1F m.args) ∧
      (x.seqIn < 2 ^ 32 - 1 → Authentic x m 0x1F m.args → Does (.gateClose m) s (fun t => closed t ∧ t.out = d.out ∧ t.jobs = d.jobs ∧ t.mem = d.mem)) ∧
      Does .sessionIdleTimeout s (fun t => closed t ∧ t.out = d.out ∧ t.jobs = d.jobs ∧ t.mem = d.mem)) ∧
    (d.endpointUp m.binding = true →
      let right := m.binding = 0 ∧ g.lifecycle = 0 ∧ m.slot = 0 ∧ m.sid = 0 ∧ m.seq = 0 ∧ m.args.length = 32 ∧ m.mac = Config.sha384 (0x06 :: m.args ++ bytesOf 16 g.serial)
      (right → Does (.provision m) s (fun t => t.gate.lifecycle = 1 ∧ t.gate.session = none ∧ t.gate.slots.get {} 0 = { state := 1, key := ofBytes m.args, rights := 127 } ∧
        t.gate.wiping = true ∧ wiped t ∧ t.out = d.out ++ [.gate 0 0x11 0 0 0 [0x05, 0x00] (some (Config.hmacSha384 (ofBytes m.args) (0x07 :: bytesOf 16 g.serial)))])) ∧
      (¬ right → Does (.provision m) s (fun t => t = d.count 12 0 0x060))) ∧
    (∀ stays, d.power.vnw = true → let runs := 3 ≤ d.power.step ∧ d.power.standby = false ∧ d.fld 9 0 0x00C 0 3 ≠ 5
      (runs → Does (.tamper stays) s (fun t => t.gate.session = none ∧ t.gate.opening = none ∧ t.gate.tamper = true ∧ t.gate.loopsOpen = stays ∧ wiped t ∧ t.gate.wiping = true ∧
        counted t 0x070 ∧ raised t 3 ∧ (t.gate.unsealed = true → g.unsealed = true ∧ g.lifecycle ≠ 2) ∧ t.jobs = d.jobs ∧
        (∀ a, a < strongBase ∨ strongBase + 0x400000 ≤ a → t.mem.byte a = d.mem.byte a))) ∧
      (¬ runs → Does (.tamper stays) s (fun t => t = { d with gate := { g with loopsOpen := stays, latched := true } }))) ∧
    (g.wiping = true → 3 ≤ d.power.step → Does .wipeDone s (fun t => t.gate = { g with wiping := false } ∧ raised t 4 ∧ t.mem = d.mem))

/-- R419, R438, R490, R496, R499 to R502, R505, R506, R509, R516: Gate commands. That the right is checked before LEN is this model's reading. -/
def Obligations.GateCommandsAct : Prop :=
  ∀ (s : State) (m : GateMsg) (x : Session), let d := s.dev
    let g := d.gate
    let a := m.args
    let arg (k : Nat) : Nat := ((a[k]?).getD 0).toNat
    let half (k : Nat) : Nat := arg k + 256 * arg (k + 1)
    g.session = some x → d.endpointUp m.binding = true → x.seqIn < 2 ^ 32 - 1 →
    let k := g.slots.get {} x.slot
    let heard (code : Nat) : Prop := Authentic x m 0x10 (BitVec.ofNat 8 code :: a)
    let after (code st : Nat) (data : List Byte) : Device := replied d x m code st data
    let allowed (right : Option Nat) : Prop := x.slot = 0 ∨ right = none ∨ ∃ b < 7, right = some b ∧ k.rights.testBit b = true
    let gives (c : Instr) (P : Device → Prop) : Prop := Does c s P
    (∀ code len right c, GateCommand m code len right c → heard code →
      (¬ allowed right → gives c (fun t => t = after code 1 [])) ∧ (allowed right → a.length + 1 ≠ len → gives c (fun t => t = after code 3 []))) ∧
    (heard 1 → a = [] → gives (.gateInfo m) (fun t => let act := if g.active = 0 then g.bankA else g.bankB
      let oth := if g.active = 0 then g.bankB else g.bankA
      t = after 1 0 (bytesOf 1 (g.lifecycle % 8 + (if g.tamper then 8 else 0)) ++ bytesOf 2 (((List.range 8).map (fun j => (g.slots.get {} j).state % 4 * 4 ^ j)).sum) ++
        bytesOf 2 act.version ++ bytesOf 1 (act.svn % 64) ++ bytesOf 1 (g.minSvn % 64) ++ bytesOf 2 (if oth.valid then oth.version else 0xFFFF) ++
        bytesOf 1 ((if g.pendingBank then 1 else 0) + 2 * (g.active % 2)) ++ bytesOf 2 g.calGen))) ∧
    (heard 2 → allowed (some 0) → a.length = 2 →
      (4096 ≤ half 0 → gives (.gateSetId m) (fun t => t = after 2 3 [])) ∧
      (half 0 < 4096 → d.fld 8 0 0x01C 0 1 = 1 → gives (.gateSetId m) (fun t => t = after 2 2 [])) ∧
      (half 0 < 4096 → d.fld 8 0 0x01C 0 1 = 0 → gives (.gateSetId m) (fun t => t.moduleId = half 0 ∧ t.assigned = true ∧ t.gate = (after 2 0 []).gate ∧ t.mem = d.mem))) ∧
    (heard 3 → allowed (some 1) → a = [] → gives (.gateWarmReset m) (fun t => t = (after 3 0 []).requestWarm)) ∧
    (heard 4 → allowed (some 2) → a.length = 1 → (4 ≤ arg 0 → gives (.gatePower m) (fun t => t = after 4 3 [])) ∧
      (arg 0 < 4 → gives (.gatePower m) (fun t => t = (after 4 0 []).pwrCmd (arg 0) true))) ∧
    (heard 5 → allowed (some 3) → a.length = 3 →
      let v := Int.bmod (half 1) (2 ^ 16)
      let within := ∃ r ∈ ([(1, 0, 100), (2, -200, 0), (3, -20, 0), (4, -20, 0), (5, -40, 0), (6, -20, 0), (7, -20, 0), (8, -90, 0), (9, -600, 0), (0x10, -2, 0), (0x11, -99, 0),
        (0x12, -99, 0), (0x20, -800, 800)] : List (Nat × Int × Int)), arg 0 = r.1 ∧ r.2.1 ≤ v ∧ v ≤ r.2.2
      (¬ within → gives (.gateCalSet m) (fun t => t = after 5 3 [])) ∧
      (within → gives (.gateCalSet m) (fun t => t = { after 5 0 [] with gate := { (after 5 0 []).gate with staged := g.staged.set (arg 0) (half 1) } }))) ∧
    (heard 6 → allowed (some 3) → a = [] → gives (.gateCalCommit m) (fun t => t.gate.calGen = (g.calGen + 1) % 2 ^ 16 ∧ t.gate.staged = [] ∧ t = { after 6 0 [] with gate := t.gate } ∧
      (∀ i, t.gate.deltas.get 0 i = (match (g.staged.filter (fun e => e.1 = i)).getLast? with | some e => e.2 | none => g.deltas.get 0 i)))) ∧
    (heard 7 → allowed (some 4) → a.length = 2 → let n := arg 0
      (5 ≤ n ∨ arg 1 ≠ 0xA0 + n → gives (.gateLifecycle m) (fun t => t = after 7 3 [])) ∧
      (n < 5 → arg 1 = 0xA0 + n → (n ≠ g.lifecycle + 1 ∧ n ≠ 4) ∨ n ≤ g.lifecycle ∨ (n = 4 ∧ g.lifecycle = 0) ∨ (∃ e ∈ d.chans, e.2.st ≠ .off) ∨ g.transfer = true → gives (.gateLifecycle m) (fun t => t = after 7 2 [])) ∧
      (n < 5 → arg 1 = 0xA0 + n → n = g.lifecycle + 1 ∨ (n = 4 ∧ 0 < g.lifecycle) → g.lifecycle < n → (∀ e ∈ d.chans, e.2.st = .off) → g.transfer = false →
        gives (.gateLifecycle m) (fun t => ∃ u : Device, t = u.requestWarm ∧ u.gate.lifecycle = n ∧ u.gate.session = none ∧ u.gate.opening = none ∧ u.gate.wiping = true ∧
          u.out = (after 7 0 []).out ∧ u.dbg.level = 0 ∧ (∀ i, strongBase ≤ i → i < strongBase + 0x400000 → u.mem.byte i = 0) ∧
          (n ≤ 2 → u.gate.slots = g.slots ∧ u.gate.deltas = g.deltas) ∧ (n = 3 → (∀ j, 1 ≤ j → u.gate.slots.get {} j = {}) ∧ u.gate.slots.get {} 0 = g.slots.get {} 0 ∧ u.gate.deltas = []) ∧
          (n = 4 → u.gate.slots = [] ∧ u.gate.deltas = [])))) ∧
    (heard 8 → allowed (some 5) → a.length = 3 →
      let most := if g.lifecycle = 2 then 2 else if g.lifecycle = 4 then 0 else 3
      (4 ≤ arg 0 ∨ half 1 = 0xFFFF → gives (.gateDebugAuth m) (fun t => t = after 8 3 [])) ∧
      (arg 0 < 4 → half 1 ≠ 0xFFFF → most < arg 0 → gives (.gateDebugAuth m) (fun t => t = after 8 2 [])) ∧
      (arg 0 ≤ most → half 1 ≠ 0xFFFF → gives (.gateDebugAuth m) (fun t => t.dbg.level = arg 0 ∧ t.dbg.lifetime = (if half 1 = 0 then 0xFFFF else half 1) ∧
        (d.dbg.level ≠ arg 0 → (t.rg 14 0 0x010).testBit 3 = true) ∧ t.gate = (after 8 0 []).gate ∧ t.mem = d.mem))) ∧
    (heard 9 → allowed (some 6) → a = [] → (g.pendingBank = true → gives (.gateSvnCommit m) (fun t => t = after 9 2 [])) ∧
      (g.pendingBank = false → gives (.gateSvnCommit m) (fun t => t = { after 9 0 [] with
        gate := { (after 9 0 []).gate with minSvn := max g.minSvn (if g.active = 0 then g.bankA.svn else g.bankB.svn) } }))) ∧
    (heard 0xA → x.slot = 0 → a.length = 35 → (8 ≤ arg 0 ∨ 128 ≤ half 1 → gives (.gateKeySet m) (fun t => t = after 0xA 3 [])) ∧
      (arg 0 < 8 → half 1 < 128 → gives (.gateKeySet m) (fun t => t = { after 0xA 0 [] with gate := { (after 0xA 0 []).gate with slots := t.gate.slots } } ∧
        (∀ j, j ≠ arg 0 → t.gate.slots.get {} j = g.slots.get {} j) ∧ t.gate.slots.get {} (arg 0) = { g.slots.get {} (arg 0) with
          state := 1, rights := if arg 0 = 0 then 127 else half 1, key := ofBytes (a.drop 3) ^^^ (Config.hmacSha384 x.ks (0x05 :: bytesOf 4 m.seq)) % 2 ^ 256 }))) ∧
    (heard 0xB → x.slot = 0 → a.length = 1 → (8 ≤ arg 0 → gives (.gateKeyRevoke m) (fun t => t = after 0xB 3 [])) ∧
      (arg 0 = 0 → gives (.gateKeyRevoke m) (fun t => t = after 0xB 2 [])) ∧
      (1 ≤ arg 0 → arg 0 < 8 → gives (.gateKeyRevoke m) (fun t => t = { after 0xB 0 [] with gate := { (after 0xB 0 []).gate with slots := t.gate.slots } } ∧
        (∀ j, j ≠ arg 0 → t.gate.slots.get {} j = g.slots.get {} j) ∧ t.gate.slots.get {} (arg 0) = { g.slots.get {} (arg 0) with state := 2 })))

/-- R395, R492, R493, R507, R508: management requests outside the Gate. -/
def Obligations.ManagementRequestsAreServed : Prop :=
  ∀ (s : State) (b : Nat), let d := s.dev
    let g := d.gate
    let act := if g.active = 0 then g.bankA else g.bankB
    let oth := if g.active = 0 then g.bankB else g.bankA
    let may := ∃ x, g.session = some x ∧ x.binding = b ∧ (x.slot = 0 ∨ (g.slots.get {} x.slot).rights.testBit 6 = true)
    let kept (t : Device) : Prop := (if g.active = 0 then t.gate.bankA else t.gate.bankB) = act ∧ t.gate.session = g.session ∧ t.gate.active = g.active ∧ t.mem = d.mem
    let other (t : Device) : FwBank := if g.active = 0 then t.gate.bankB else t.gate.bankA
    d.endpointUp b = true →
    (let reads (what v : Nat) : Prop := Does (.pldmRead b what) s (fun t => t = d.emit (.pldm b 0 (bytesOf 4 v)))
     (∀ k < 4, Does (.pldmRead b k) s (fun t => t = ({ d with regs := t.regs, free := t.free } : Device).emit (.pldm b 0 (bytesOf 4 (t.rg 9 0 (0x050 + 4 * k)))))) ∧
     (∀ k < 8, Does (.pldmRead b (4 + k)) s (fun t => t = ({ d with regs := t.regs, free := t.free } : Device).emit (.pldm b 0 (bytesOf 4 (t.fld 16 k 0x00C 8 8))))) ∧
     reads 12 (d.fld 9 0 0x00C 0 3) ∧ reads 13 (d.fld 1 0 0x00C 0 1) ∧ reads 14 (d.fld 10 0 0x00C 0 1) ∧ reads 15 g.lifecycle ∧ reads 16 d.bell.state) ∧
    (¬ may → (∀ v n im, Does (.requestUpdate b v n im) s (fun t => t = d.emit (.pldm b 4 []))) ∧ Does (.verifyComplete b) s (fun t => t = d.emit (.pldm b 4 [])) ∧
      Does (.activateFirmware b) s (fun t => t = d.emit (.pldm b 4 []))) ∧
    (may → ∀ v < 2 ^ 16, ∀ n < 64, ∀ im, Does (.requestUpdate b v n im) s (fun t => kept t ∧ t.out = d.out ++ [.pldm b 0 []] ∧ t.gate.transfer = true ∧ t.gate.pendingBank = false ∧
      other t = { valid := false, version := v, svn := n, image := im })) ∧
    (may → g.transfer = true → let good := Config.signatureValid oth.image = true ∧ g.minSvn ≤ oth.svn
      Does (.verifyComplete b) s (fun t => kept t ∧ t.gate.transfer = false ∧ (good → other t = { oth with valid := true } ∧ t.out = d.out ++ [.pldm b 0 [0x00]]) ∧
        (¬ good → (other t).valid = false ∧ (other t).image = oth.image) ∧ (Config.signatureValid oth.image = true → oth.svn < g.minSvn → t.out = d.out ++ [.pldm b 0 [0x09]]))) ∧
    (may → oth.valid = true → g.transfer = false → Does (.activateFirmware b) s (fun t => t = { d with gate := { g with pendingBank := true }, out := d.out ++ [.pldm b 0 []] })) ∧
    (may → oth.valid = false → Does (.activateFirmware b) s (fun t => t.gate = g ∧ ∃ c < 2 ^ 8, t.out = d.out ++ [.pldm b c []])) ∧
    (∀ io cm, Does (.keyExchange b io cm) s (fun t => b ∈ t.gate.spdm ∧ (∀ x, x ∈ g.spdm → x ∈ t.gate.spdm) ∧ t.out = d.out ++ [.spdm b 0 []] ∧
      (b ≠ 0 → t.host (b - 1) = { d.host (b - 1) with ideIo := io, ideCm := cm }) ∧ (∀ p, p + 1 ≠ b → t.host p = d.host p) ∧ t.regs = d.regs)) ∧
    (let answers (ix : Nat) (bs : List Byte) : Prop := Does (.spdmMeasurements b ix) s (fun t => t = d.emit (.spdm b 0 bs))
     answers 1 (bytesOf 48 (Config.sha384 act.image)) ∧ answers 2 (bytesOf 2 act.version ++ bytesOf 1 act.svn) ∧
     answers 3 (bytesOf 48 (Config.sha384 (g.deltas.flatMap (fun e => bytesOf 1 e.1 ++ bytesOf 2 e.2)))) ∧ answers 4 (bytesOf 1 g.lifecycle ++ bytesOf 1 g.minSvn) ∧
     answers 5 (bytesOf 2 (((List.range 8).map (fun j => (g.slots.get {} j).state % 4 * 4 ^ j)).sum)) ∧
     (∀ ix, ix = 0 ∨ 5 < ix → Does (.spdmMeasurements b ix) s (fun t => t = d.emit (.spdm b 1 [])))) ∧
    (∀ eid < 256, Does (.setEndpointId b eid) s (fun t => t = { d with gate := { g with eid := eid }, out := d.out ++ [.mctp b (bytesOf 1 eid)] }))

/-- R512 to R517, R524, R526: the Tally port. -/
def Obligations.TallyPortReadsAndWrites : Prop :=
  ∀ (s : State), let d := s.dev
    let afterReset (t : Device) : Prop := (∀ n < 5, (t.reeve n).halted = false ∧ (t.reeve n).haltReq = false ∧ (t.reeve n).stepping = false) ∧
      (∀ o ∈ [0x014, 0x040, 0x044, 0x050, 0x058, 0x064, 0x068, 0x06C, 0x070, 0x080, 0x084, 0x088], t.rg 14 0 o = 0) ∧ t.rg 14 0 0x048 = 1 ∧ t.trace = [] ∧
      t.dbg.level = (if d.gate.lifecycle = 0 then 3 else 0) ∧ t.dbg.lifetime = 0xFFFF ∧ t.dbg.inStep = false ∧ t.dbg.discard = d.dbg.access.isSome ∧ t.dbg.access = d.dbg.access ∧
      (d.dbg.level ≠ t.dbg.level → (t.rg 14 0 0x010).testBit 3 = true) ∧ t.mem = d.mem ∧ t.jobs = d.jobs ∧ t.chans = d.chans ∧ t.out = d.out
    (d.power.vnw = true → Does .tallyWakeSequence s (fun t => t = { d with dbg := { d.dbg with inStep := true } }) ∧ Does .tallyDioLowReset s afterReset) ∧
    (∀ who, CanWrite d who 14 0 0x060 1 = true → Does (.debugReset who) s afterReset) ∧
    (∀ hdr w c, d.power.vnw = true → d.dbg.inStep = false → Does (.tallyReadFrame hdr c) s (fun t => t = d) ∧ Does (.tallyWriteFrame hdr w c) s (fun t => t = d)) ∧
    (∀ hdr w c, d.power.vnw = true → d.dbg.inStep = true → hdr < 256 → w < 2 ^ 32 → let off := hdr / 4 * 4
      let goodR := c = crc8 hdr 8 ∧ hdr % 4 = 0
      let goodW := c = crc8 (hdr + w * 2 ^ 8) 40 ∧ hdr % 4 = 1
      let need := if off < 0x040 ∨ off = 0x05C ∨ off = 0x060 then 0 else if off < 0x060 then 2 else 1
      let refused (n : Nat) (t : Device) : Prop := t = (d.err 14 0 n off 0).emit (.tally 2 0 0)
      let plain := off ∈ [0x048, 0x050, 0x058, 0x064, 0x068, 0x080, 0x088]
      (¬ goodR → Does (.tallyReadFrame hdr c) s (refused 1)) ∧ (¬ goodW → Does (.tallyWriteFrame hdr w c) s (refused 1)) ∧
      (d.dbg.level < need → Device.implemented 14 0 off = true → (goodR → Does (.tallyReadFrame hdr c) s (refused 3)) ∧ (goodW → Does (.tallyWriteFrame hdr w c) s (refused 3))) ∧
      let shows := d.fld 14 0 0x020 1 1 = 0 ∧ d.latches.find? (latchKey (whoKey .tally) (regKey 14 0 off)) = none
      let v := d.rg 14 0 off &&& (if off = 0x048 then 1 else if off = 0x050 then 0x7FFFF else if off = 0x080 then 0xFFF7F else 2 ^ 32 - 1)
      (goodR → plain → need ≤ d.dbg.level → shows → Does (.tallyReadFrame hdr c) s (fun t => t = d.emit (.tally 0 v (crc8 v 32)))) ∧
      (goodR → off = 0x00C → shows → Does (.tallyReadFrame hdr c) s (fun t => ∃ v, t = d.emit (.tally 0 v (crc8 v 32)) ∧
        (∀ n < 5, v.testBit n = (d.reeve n).halted ∧ v.testBit (5 + n) = (d.reeve n).lockBroken) ∧ field v 10 2 = d.dbg.level % 4 ∧ v.testBit 12 = d.dbg.access.isSome)) ∧
      (goodW → plain → need ≤ d.dbg.level → Does (.tallyWriteFrame hdr w c) s (fun t => t.out = d.out ++ [.tally 0 0 0] ∧
        (off ∈ [0x058, 0x064, 0x068, 0x088] → t.rg 14 0 off = w) ∧ (off = 0x048 → t.rg 14 0 off % 2 = w % 2) ∧ (off = 0x050 → t.rg 14 0 off % 2 ^ 19 = w % 2 ^ 19) ∧
        (off = 0x080 → field (t.rg 14 0 off) 0 7 = field w 0 7 ∧ field (t.rg 14 0 off) 8 12 = field w 8 12) ∧ t = { d with regs := t.regs, out := t.out })) ∧
      (off = 0x06C → 1 ≤ d.dbg.level → d.dbg.access.isSome = true → d.fld 14 0 0x020 1 1 = 0 →
        (goodR → Does (.tallyReadFrame hdr c) s (fun t => t = d.emit (.tally 1 0 0))) ∧ (goodW → Does (.tallyWriteFrame hdr w c) s (fun t => t = d.emit (.tally 1 0 0)))))

/-- R516 to R520, R522 to R525, R527: the debug domain. -/
def Obligations.DebuggerSteersReeves : Prop :=
  ∀ (s : State) (n : Nat), let d := s.dev
    let r := d.reeve n
    let err (who : Initiator) (t : Device) (c off : Nat) : Prop := t = (paged d who 14 0).err 14 0 c off 0
    let others (t : Device) : Prop := ∀ m ≠ n, t.reeve m = d.reeve m
    n < 5 →
    (∀ who, (CanWrite d who 14 0 0x040 (2 ^ n) = true →
        (d.dbg.level < 2 → Does (.dbgHalt who n) s (fun t => err who t 3 0x040)) ∧
        (2 ≤ d.dbg.level → Does (.dbgHalt who n) s (fun t => others t ∧ t.reeve n = (if r.halted then r else { r with haltReq := true }) ∧ t.regs = d.regs ∧ t.mem = d.mem))) ∧
      (CanWrite d who 14 0 0x040 (2 ^ (8 + n)) = true → (d.dbg.level < 2 → Does (.dbgResume who n) s (fun t => err who t 3 0x040)) ∧
        (2 ≤ d.dbg.level → r.halted = true → Does (.dbgResume who n) s (fun t => others t ∧ t.reeve n = { r with halted := false, stepping := false, lockBroken := false, why := 0 } ∧ t.mem = d.mem))) ∧
      (CanWrite d who 14 0 0x040 (2 ^ (16 + n)) = true → (d.dbg.level < 2 ∨ r.halted = false → Does (.dbgStep who n) s (fun t => err who t 3 0x040)) ∧
        (2 ≤ d.dbg.level → r.halted = true → Does (.dbgStep who n) s (fun t => others t ∧ t.reeve n = { r with halted := false, stepping := true, lockBroken := false, why := 0 } ∧ t.mem = d.mem)))) ∧
    (r.haltReq = true → r.st = 0 → r.halted = false →
      (r.locked = false → r.sow = none → Does (.haltTakesEffect n) s (fun t => others t ∧ (t.reeve n).halted = true ∧ (t.reeve n).haltReq = false ∧ (t.reeve n).why = 1 ∧
        (t.reeve n).flight = [] ∧ (t.reeve n).pc = r.pc ∧ (t.reeve n).status = r.status ∧ (∀ e, r.longAt = some (r.pc, e) → (t.reeve n).vstart = e) ∧ (r.longAt = none → (t.reeve n).vstart = r.vstart) ∧ (t.rg 14 0 0x010).testBit 0 = true ∧ t.mem = d.mem)) ∧
      (r.locked = true → Does (.forcedHalt n) s (fun t => others t ∧ (t.reeve n).halted = true ∧ (t.reeve n).lockBroken = true ∧ (t.reeve n).locked = false ∧ (t.reeve n).resv = none ∧
        (t.reeve n).pc = r.pc ∧ (t.rg 14 0 0x010).testBit 0 = true ∧ (t.rg 14 0 0x010).testBit 1 = true ∧ t.mem = d.mem))) ∧
    (let sel := d.rg 14 0 0x050
     let num := field sel 0 16
     let shown : Option Nat := if num < 0x20 then some (r.get num) else if num = 0x20 then some r.pc else if num = 0x21 then some r.status
       else if 0x40 ≤ num ∧ num < 0xC0 then some (r.regs.get 0 (8 + (num - 0x40))) else if r.le = true ∧ 0x1000 ≤ num ∧ num < 0x1800 then some (field (r.lreg ((num - 0x1000) / 64)) (64 * (num % 64)) 64) else none
     field sel 16 3 = n → 2 ≤ d.dbg.level →
     (∀ who, CanRead d who 14 0 0x054 = true → d.fld 14 0 0x020 1 1 = 0 →
       (∀ v < 2 ^ 64, r.halted = true → shown = some v → Does (.dbgRegRead who) s (fun t => t.rg 14 0 0x058 = v / 2 ^ 32 ∧ (∀ p, who = .host p 0 → t.out = d.out ++ [.barData p (bytesOf 4 v)]) ∧ t.reeves = d.reeves)) ∧
       (∀ p, r.halted = false → who = .host p 0 → Does (.dbgRegRead who) s (fun t => t = (d.err 14 0 3 0x054 0).emit (.barData p [0, 0, 0, 0])))) ∧
     (∀ who lo, CanWrite d who 14 0 0x054 lo = true → lo < 2 ^ 32 → d.rg 14 0 0x058 < 2 ^ 32 → let v := lo + d.rg 14 0 0x058 * 2 ^ 32
       (r.halted = false → Does (.dbgRegWrite who lo) s (fun t => err who t 3 0x054)) ∧
       (r.halted = true → (num < 0x20 → Does (.dbgRegWrite who lo) s (fun t => others t ∧ t.reeve n = r.put num v ∧ t.regs = d.regs)) ∧
         (num = 0x20 → Does (.dbgRegWrite who lo) s (fun t => others t ∧ t.reeve n = { r with pc := v } ∧ t.regs = d.regs)) ∧
         (0x40 ≤ num → num < 0xC0 → Does (.dbgRegWrite who lo) s (fun t => others t ∧ t.reeve n = { r with regs := r.regs.set (8 + (num - 0x40)) v } ∧ t.regs = d.regs)) ∧
         (num = 0x21 → field v 8 56 ≠ 0 ∨ v % 4 = 2 → Does (.dbgRegWrite who lo) s (fun t => err who t 1 0x054)) ∧
         (num = 0x2B → v.testBit 4 = false ∨ field v 4 5 < 3 → Does (.dbgRegWrite who lo) s (fun t => err who t 1 0x054)) ∧
         ((0x2C ≤ num ∧ num < 0x40) ∨ 0x1A00 ≤ num ∨ (r.le = false ∧ 0x1000 ≤ num) → Does (.dbgRegWrite who lo) s (fun t => err who t 3 0x054))))) ∧
    (let a := d.rg 14 0 0x064 / 4 * 4 + d.rg 14 0 0x068 * 2 ^ 32
     let pages := 0x20000000 ≤ a ∧ a < 0x24018000
     (∀ who w auto cons, w < 2 → auto < 2 → cons < 2 → let v := 1 + 2 * w + 4 * auto + 8 * cons
       CanWrite d who 14 0 0x070 v = true → 1 ≤ d.dbg.level →
       (d.dbg.access.isSome = true → Does (.dbgMmGo who w auto cons) s (fun t => err who t 3 0x070)) ∧
       (d.dbg.access = none → let may := 2 ≤ d.dbg.level ∨ (w = 0 ∧ cons = 0 ∧ pages)
         (may → Does (.dbgMmGo who w auto cons) s (fun t => t.dbg = { d.dbg with access := some (decide (w = 1), a, d.rg 14 0 0x06C, decide (cons = 1)), discard := false } ∧
           field (t.rg 14 0 0x070) 1 3 = v / 2 ∧ t.mem = d.mem)) ∧
         (¬ may → Does (.dbgMmGo who w auto cons) s (fun t => t.dbg = d.dbg ∧ field (t.rg 14 0 0x070) 4 4 = 1 ∧ t.mem = d.mem)))) ∧
     (∀ who w, w < 2 ^ 32 → CanWrite d who 14 0 0x06C w = true → 2 ≤ d.dbg.level → d.dbg.access = none → Does (.dbgMmDataAuto who (some w)) s (fun t => t.rg 14 0 0x06C = w ∧ t.mem = d.mem ∧
       (d.fld 14 0 0x070 2 1 = 1 → t.dbg = { d.dbg with access := some (true, a, w, decide (d.fld 14 0 0x070 3 1 = 1)), discard := false }) ∧ (d.fld 14 0 0x070 2 1 = 0 → t.dbg = d.dbg))) ∧
     (∀ who, CanRead d who 14 0 0x06C = true → 2 ≤ d.dbg.level → d.dbg.access = none → d.fld 14 0 0x020 1 1 = 0 → Does (.dbgMmDataAuto who none) s (fun t =>
       (∀ p, who = .host p 0 → t.out = d.out ++ [.barData p (bytesOf 4 (d.rg 14 0 0x06C))]) ∧
       (d.fld 14 0 0x070 2 1 = 1 → t.dbg = { d.dbg with access := some (false, a, d.rg 14 0 0x06C, decide (d.fld 14 0 0x070 3 1 = 1)), discard := false }) ∧ (d.fld 14 0 0x070 2 1 = 0 → t.dbg = d.dbg))) ∧
     (∀ w v c, d.dbg.access = some (w, a, v, c) → 3 ≤ d.power.step → inSram a 4 →
       let done (t : Device) : Prop := t.dbg.access = none ∧ t.rg 14 0 0x064 = (a + 4) % 2 ^ 32 ∧ t.rg 14 0 0x068 = (a + 4) / 2 ^ 32 ∧ field (t.rg 14 0 0x070) 4 4 = 0 ∧ (t.rg 14 0 0x010).testBit 2 = true
       (d.dbg.discard = false → w = false → Does .mmAccessDone s (fun t => done t ∧ t.rg 14 0 0x06C = d.mem.readLE a 4 ∧ t.mem = d.mem)) ∧
       (d.dbg.discard = false → w = true → d.mem.wf = true → Does .mmAccessDone s (fun t => done t ∧ (∀ k < 4, t.mem.byte (a + k) = (bytesOf 4 v).getD k 0) ∧
         ∀ b, b < a ∨ a + 4 ≤ b → t.mem.byte b = d.mem.byte b)) ∧
       (d.dbg.discard = true → w = false → Does .mmAccessDone s (fun t => t = { d with dbg := { d.dbg with access := none, discard := false }, grants := t.grants })))) ∧
    (let dropped (t : Device) : Prop := t.dbg.level = (if d.gate.lifecycle = 0 then 3 else 0) ∧ t.dbg.lifetime = 0xFFFF ∧ (d.dbg.level ≠ t.dbg.level → (t.rg 14 0 0x010).testBit 3 = true) ∧
       (t.dbg.level = 0 → (∀ m < 5, (t.reeve m).halted = false ∧ (t.reeve m).haltReq = false ∧ (t.reeve m).stepping = false) ∧ field (t.rg 14 0 0x044) 0 16 = 0 ∧ field (t.rg 14 0 0x044) 17 1 = 0) ∧
       t.mem = d.mem ∧ t.jobs = d.jobs
     (∀ who, CanWrite d who 14 0 0x060 2 = true → Does (.dropAuth who) s dropped) ∧ (d.dbg.lifetime ≠ 0xFFFF → Does .authExpiry s dropped)) ∧
    (∀ who v, v < 2 ^ 16 → CanWrite d who 14 0 0x060 (4 + v * 2 ^ 16) = true → let q := d.rg 14 0 0x084
      (d.dbg.level = 0 → Does (.dbgMark who v) s (fun t => err who t 3 0x060)) ∧
      (1 ≤ d.dbg.level → (d.rg 14 0 0x080).testBit 5 = false → Does (.dbgMark who v) s (fun t => t = paged d who 14 0)) ∧
      (1 ≤ d.dbg.level → (d.rg 14 0 0x080).testBit 5 = true → q < 2 ^ 32 → d.bellNow < 2 ^ 64 → Does (.dbgMark who v) s (fun t => t.rg 14 0 0x084 = (q + 1) % 2 ^ 32 ∧
        ∃ x, t.trace.find? (q % 2048) = some x ∧ field x 0 160 = v ∧ field x 160 8 = 6 ∧ field x 168 9 = 0x1FF ∧ field x 192 64 = d.bellNow ∧ x / 2 ^ 256 = q)))

/-- R272, R273, R274, R423: each of the seven forms reaches a next state under conditions on the state and the operands alone. -/
def Obligations.MirrorAndLeaseCommandsComplete : Prop :=
  ∀ (s : State) (p ch : Nat) (f : Frame), let d := s.dev
    let arrives : Prop := p < 4 ∧ d.alnUp p = true ∧ d.assigned = true ∧ f.dest = d.moduleId ∧ d.fld 8 0 0x048 13 1 = 0
    (arrives → f.kind = 9 → d.setupOk f.src f.channel f.data = true →
      ∃ t, exec (.mirrorSetup p f) s = .next t ∧ { origin := f.src, channel := f.channel, entry := f.data } ∈ t.dev.ledger.setups) ∧
    (arrives → f.kind = 9 → d.setupOk f.src f.channel f.data = false →
      ∃ t, exec (.mirrorSetup p f) s = .next t ∧ t.dev.ledger = d.ledger) ∧
    (∀ x : MirrorSetup, arrives → f.kind = 7 → d.ledger.setups.find? (fun y => y.origin = f.src && y.channel = f.channel) = some x → f.addr = 0 →
      field f.data 480 32 = crc32c (bytesOf 60 f.data) → field x.header 320 64 ≤ field f.data 320 64 →
      ∃ t, exec (.mirrorWrite p f) s = .next t ∧ { x with header := f.data } ∈ t.dev.ledger.setups) ∧
    (arrives → f.kind = 8 → (d.chan f.channel).entry.isSome = true → entUnderstudyEn (d.entry f.channel) = true → entUnderstudy (d.entry f.channel) = f.src →
      (d.chan f.channel).setupDue = true → (d.chan f.channel).mirrorOut = [] →
      ∃ t, exec (.mirrorAck p f) s = .next t ∧ (t.dev.chan f.channel).mirror = (if f.status = 0 then .mirrored else .refused)) ∧
    (arrives → f.kind = 8 → (d.chan f.channel).entry.isSome = true → entUnderstudy (d.entry f.channel) = f.src → f.addr = 0 → f.status = 0 →
      (d.chan f.channel).mirrorOut = [0] → (d.chan f.channel).resync = true → (d.chan f.channel).pauseOwed = none →
      ∃ t, exec (.mirrorAck p f) s = .next t ∧ (t.dev.chan f.channel).mirror = .mirrored ∧ (t.dev.chan f.channel).resync = false) ∧
    (arrives → f.kind = 0xA →
      ∃ t, exec (.heartbeat p f) s = .next t ∧ t.dev.mem = d.mem ∧ ∀ x ∈ t.dev.ledger.setups, x.origin = f.src → x.missed = 0) ∧
    ((d.chan ch).mirror = .mirrored → 2 ≤ (d.chan ch).missed → ∃ t, exec (.unmirrored ch) s = .next t ∧ (t.dev.chan ch).mirror = .unmirrored) ∧
    ((d.chan ch).mirror = .unmirrored → (d.chan ch).resync = false → (d.routeOf (entUnderstudy (d.entry ch))).isSome = true →
      ∃ t, exec (.mirrorResend ch) s = .next t ∧ (t.dev.chan ch).resync = true ∧ (t.dev.chan ch).missed = 0 ∧ t.dev.mem = d.mem) ∧
    (∀ l v, (d.chan ch).leaseUnread = some l → (d.readPa (farBase ((d.chan ch).leaseFor.getD (d.entry ch))) 64).1 = .ok v → field v 480 32 = crc32c (bytesOf 60 v) →
      field v 0 12 = d.moduleId → field v 128 40 = l →
      ∃ t, exec (.leaseReadback ch) s = .next t ∧ (t.dev.chan ch).lease = l ∧ (t.dev.chan ch).leaseUnread = none ∧ t.dev.mem = d.mem)

/-- R438, R490, R496, R499 to R502, R505, R506, R509, R516: each of the eleven forms reaches a next state under conditions on the state and the operands alone. -/
def Obligations.GateCommandsComplete : Prop :=
  ∀ (s : State) (m : GateMsg) (x : Session), let d := s.dev
    let g := d.gate
    let arg (k : Nat) : Nat := ((m.args[k]?).getD 0).toNat
    let half (k : Nat) : Nat := arg k + 256 * arg (k + 1)
    g.session = some x → d.endpointUp m.binding = true → x.seqIn < 2 ^ 32 - 1 →
    let heard (code : Nat) : Prop := Authentic x m 0x10 (BitVec.ofNat 8 code :: m.args)
    let may (b : Nat) : Prop := x.slot = 0 ∨ (g.slots.get {} x.slot).rights.testBit b = true
    (heard 1 → m.args = [] → ∃ t data, exec (.gateInfo m) s = .next t ∧ t.dev = replied d x m 1 0 data ∧ data.length = 12) ∧
    (heard 2 → may 0 → m.args.length = 2 → half 0 < 4096 → d.fld 8 0 0x01C 0 1 = 0 → ∃ t, exec (.gateSetId m) s = .next t ∧ t.dev.moduleId = half 0 ∧ t.dev.assigned = true) ∧
    (heard 3 → may 1 → m.args = [] → ∃ t, exec (.gateWarmReset m) s = .next t ∧ t.dev = (replied d x m 3 0 []).requestWarm) ∧
    (heard 4 → may 2 → m.args.length = 1 → arg 0 < 4 → ∃ t, exec (.gatePower m) s = .next t ∧ t.dev = (replied d x m 4 0 []).pwrCmd (arg 0) true) ∧
    (heard 5 → may 3 → m.args.length = 3 → (∃ lo hi : Int, calBounds (arg 0) = some (lo, hi) ∧ lo ≤ toSigned 16 (half 1) ∧ toSigned 16 (half 1) ≤ hi) →
      ∃ t, exec (.gateCalSet m) s = .next t ∧ t.dev.gate.staged.find? (arg 0) = some (half 1) ∧ t.dev.gate.deltas = g.deltas) ∧
    (heard 6 → may 3 → m.args = [] → ∃ t, exec (.gateCalCommit m) s = .next t ∧ t.dev.gate.calGen = (g.calGen + 1) % 2 ^ 16 ∧ t.dev.gate.staged = []) ∧
    (heard 7 → may 4 → m.args.length = 2 → arg 0 < 5 → arg 0 = g.lifecycle + 1 → arg 1 = 0xA0 + arg 0 → (∀ e ∈ d.chans, e.2.st = .off) → g.transfer = false →
      ∃ t u, exec (.gateLifecycle m) s = .next t ∧ t.dev = Device.requestWarm u ∧ u.gate.lifecycle = arg 0 ∧ u.gate.session = none) ∧
    (heard 8 → may 5 → m.args.length = 3 → arg 0 ≤ Device.maxLevel g.lifecycle → half 1 ≠ 0xFFFF → ∃ t, exec (.gateDebugAuth m) s = .next t ∧ t.dev.dbg.level = arg 0) ∧
    (heard 9 → may 6 → m.args = [] → g.pendingBank = false →
      ∃ t, exec (.gateSvnCommit m) s = .next t ∧ t.dev.gate.minSvn = max g.minSvn (if g.active = 0 then g.bankA else g.bankB).svn) ∧
    (heard 0xA → x.slot = 0 → m.args.length = 35 → arg 0 < 8 → half 1 < 128 → ∃ t, exec (.gateKeySet m) s = .next t ∧ (t.dev.gate.slots.get {} (arg 0)).state = 1) ∧
    (heard 0xB → x.slot = 0 → m.args.length = 1 → 1 ≤ arg 0 → arg 0 < 8 → ∃ t, exec (.gateKeyRevoke m) s = .next t ∧ (t.dev.gate.slots.get {} (arg 0)).state = 2)

/-- R180, R437, R438, R444, R445, R471: each of the eight forms reaches a next state under conditions on the state and the operands alone. -/
def Obligations.PowerCommandsComplete : Prop :=
  ∀ s : State, let d := s.dev
    (∀ who, CanWrite d who 9 0 0x040 1 = true → d.fld 9 0 0x00C 0 3 = 1 → (∀ e ∈ d.chans, e.2.st = .off) →
      ∃ t, exec (.quiet who) s = .next t ∧ t.dev.fld 9 0 0x00C 0 3 = 2 ∧ t.dev.power.memActive = false) ∧
    (∀ who, CanWrite d who 9 0 0x040 2 = true → d.fld 9 0 0x00C 0 3 = 2 →
      ∃ t, exec (.wake who) s = .next t ∧ t.dev.fld 9 0 0x00C 0 3 = 1 ∧ t.dev.power.memActive = true) ∧
    (∀ who, CanWrite d who 9 0 0x040 3 = true → viaMatrix who = true → d.blocking = false → d.fld 9 0 0x00C 0 3 = 1 → d.chans = [] → d.jobs = [] → d.power.wake = none →
      ∃ t, exec (.standby who) s = .next t ∧ t.dev.power.standby = true ∧ t.dev.power.step = 0) ∧
    (∀ h < 16, (∀ n, 17 * h ≤ n → n < 17 * h + 17 → (d.croft n).strips = []) → h ∉ d.power.gated → 4 ≤ d.power.step →
      ∃ t, exec (.hamletClockGating h) s = .next t ∧ h ∈ t.dev.power.gated) ∧
    (∀ rail < 2, ∀ unit, 3 ≤ d.power.step → d.spare.phases = [] →
      ∃ t, exec (.phaseShed rail unit) s = .next t ∧ t.dev.phasesIn rail = 19 ∧ t.dev.fld 9 0 0x00C 5 1 = 1) ∧
    (∀ die < 2, d.fld 1 0 0x040 0 2 = 0 → d.power.step = 7 → 600 < d.clockOf die →
      ∃ t, exec (.thermalStepDown die) s = .next t ∧ t.dev.clockOf die = d.clockOf die - 50) ∧
    (∀ mhz, d.fld 1 0 0x040 0 2 ≠ 1 → d.power.step = 7 →
      ∃ t, exec (.powerLimitStep mhz) s = .next t ∧ t.dev.fld 9 0 0x00C 5 1 = 1 ∧ ∀ die < 2, t.dev.clockOf die ≤ d.clockOf die ∧ min 600 (d.clockOf die) ≤ t.dev.clockOf die) ∧
    (d.power.step = 7 → d.power.standClass = 0 → d.bell.state ≠ 3 → d.bell.phase = d.slotPhase →
      (d.spare.phases = [(0, 1), (4, 1)] → ∃ t, exec (.staggerSlot false false) s = .next t ∧ t.dev.phasesIn 0 = 20 ∧ t.dev.spare.phases.get 0 4 = 0) ∧
      (∀ cool, d.fld 1 0 0x040 0 2 = 0 → d.spare.phases = [] → d.power.stepUp = [] → d.sower.paceOwed = [] → d.clockOf 0 < 1750 →
        ∃ t, exec (.staggerSlot true cool) s = .next t ∧ t.dev.clockOf 0 = d.clockOf 0 + 50))
end

