-- ==== Sys2Proof/Laws/Crofts.lean ====
section
/-! SUPPORT. What the operations that follow a step of a croft can change: registers, messages owed, the error log and the sparing
controller; never a croft, a job, a channel or memory. -/
namespace Sys2Proof.Machine.Device

theorem logSpare_eq (d : Device) (u n k c : Nat) :
    ∃ r h e sp, d.logSpare u n k c = { d with regs := r, hosts := h, elog := e, spare := sp } := by
  simp only [logSpare]
  obtain ⟨r, h, e, he⟩ := logErr_eq d 11 0 0xFFF 0x07 (u % 512 + n % 512 * 2 ^ 9 + k % 8 * 2 ^ 18 + c % 8 * 2 ^ 21 + 2 ^ 31) d.stroke false
  rw [he]
  split
  · exact ⟨_, _, _, _, rfl⟩
  · simp only [count, countBy]
    split <;> exact ⟨_, _, _, _, rfl⟩

theorem spareIn_eq (d : Device) (u n k c : Nat) :
    ∃ r h e sp, d.spareIn u n k c = { d with regs := r, hosts := h, elog := e, spare := sp } := by
  simp only [spareIn]
  obtain ⟨r, h, e, sp, he⟩ := logSpare_eq ((d.count 11 0 0x060).event 11 0 0) u n k c
  obtain ⟨r', h', he'⟩ := event_eq (d.count 11 0 0x060) 11 0 0
  rw [he, he']
  simp only [count, countBy]
  split <;> exact ⟨_, _, _, _, rfl⟩

/-- A switch of GRN_MAP. -/
theorem switchBank_eq (d : Device) (old new reason : Nat) :
    ∃ r h e sp, d.switchBank old new reason = { d with regs := r, hosts := h, elog := e, spare := sp } := by
  simp only [switchBank]
  split
  · exact ⟨d.regs, d.hosts, d.elog, d.spare, rfl⟩
  · rename_i l _
    obtain ⟨r, h, e, sp, he⟩ := spareIn_eq ((((({ d with spare := { d.spare with bankMap := d.spare.bankMap.set l new } } : Device).setBankState old 3).setBankState
      new 1).event 11 0 1)) old new 1 reason
    obtain ⟨r', h', he'⟩ := event_eq ((({ d with spare := { d.spare with bankMap := d.spare.bankMap.set l new } } : Device).setBankState old 3).setBankState
      new 1) 11 0 1
    rw [he, he']
    exact ⟨_, _, _, _, rfl⟩

theorem foldl_switchBank_eq (cs : List ((Nat × Nat × Nat) × List (Nat × Nat × Nat × Nat))) : ∀ d : Device,
    ∃ r h e sp, cs.foldl (fun d c => d.switchBank c.1.1 c.1.2.1 c.1.2.2) d = { d with regs := r, hosts := h, elog := e, spare := sp } := by
  induction cs with
  | nil => exact fun d => ⟨d.regs, d.hosts, d.elog, d.spare, rfl⟩
  | cons c cs ih =>
    intro d
    obtain ⟨r, h, e, sp, he⟩ := switchBank_eq d c.1.1 c.1.2.1 c.1.2.2
    obtain ⟨r', h', e', sp', he'⟩ := ih (d.switchBank c.1.1 c.1.2.1 c.1.2.2)
    simp only [List.foldl_cons]
    rw [he', he]
    exact ⟨_, _, _, _, rfl⟩

/-- Banks switched at a strip boundary (R195). -/
theorem settleBanks_eq (d : Device) : ∃ r h e sp, d.settleBanks = { d with regs := r, hosts := h, elog := e, spare := sp } := by
  simp only [settleBanks]
  generalize (d.spare.copied.map _) = left
  obtain ⟨r, h, e, sp, he⟩ := foldl_switchBank_eq (left.filter (fun c => c.2.isEmpty))
    { d with spare := { d.spare with copied := left.filter (fun c => !c.2.isEmpty) } }
  rw [he]
  exact ⟨_, _, _, _, rfl⟩

theorem notePeak_eq (d : Device) (n : Nat) : ∃ r, d.notePeak n = { d with regs := r } := by
  simp only [notePeak]
  split <;> split <;> exact ⟨_, rfl⟩

/-- What follows a step of a croft. -/
theorem afterCroft_eq (d : Device) (n : Nat) : ∃ r h e sp, d.afterCroft n = { d with regs := r, hosts := h, elog := e, spare := sp } := by
  simp only [afterCroft]
  obtain ⟨r, h, e, sp, he⟩ := settleBanks_eq (d.notePeak n)
  obtain ⟨r', hr⟩ := notePeak_eq d n
  rw [he, hr]
  exact ⟨_, _, _, _, rfl⟩

/-- With no copied bank to switch, settling leaves the device as it is. -/
theorem settleBanks_none (d : Device) (h : d.spare.copied = []) : d.settleBanks = d := by
  obtain ⟨⟩ := d
  rename_i spare _ _ _ _ _ _ _ _ _ _ _ _
  obtain ⟨⟩ := spare
  simp_all [settleBanks]

@[simp] theorem settleBanks_crofts (d : Device) : d.settleBanks.crofts = d.crofts := by obtain ⟨_, _, _, _, h⟩ := settleBanks_eq d; rw [h]
@[simp] theorem settleBanks_jobs (d : Device) : d.settleBanks.jobs = d.jobs := by obtain ⟨_, _, _, _, h⟩ := settleBanks_eq d; rw [h]
@[simp] theorem settleBanks_chans (d : Device) : d.settleBanks.chans = d.chans := by obtain ⟨_, _, _, _, h⟩ := settleBanks_eq d; rw [h]
@[simp] theorem settleBanks_mem (d : Device) : d.settleBanks.mem = d.mem := by obtain ⟨_, _, _, _, h⟩ := settleBanks_eq d; rw [h]
@[simp] theorem settleBanks_xlt (d : Device) : d.settleBanks.xlt = d.xlt := by obtain ⟨_, _, _, _, h⟩ := settleBanks_eq d; rw [h]
@[simp] theorem settleBanks_sower (d : Device) : d.settleBanks.sower = d.sower := by obtain ⟨_, _, _, _, h⟩ := settleBanks_eq d; rw [h]
@[simp] theorem settleBanks_poison (d : Device) : d.settleBanks.poison = d.poison := by obtain ⟨_, _, _, _, h⟩ := settleBanks_eq d; rw [h]

@[simp] theorem afterCroft_crofts (d : Device) (n : Nat) : (d.afterCroft n).crofts = d.crofts := by obtain ⟨_, _, _, _, h⟩ := afterCroft_eq d n; rw [h]
@[simp] theorem afterCroft_jobs (d : Device) (n : Nat) : (d.afterCroft n).jobs = d.jobs := by obtain ⟨_, _, _, _, h⟩ := afterCroft_eq d n; rw [h]
@[simp] theorem afterCroft_chans (d : Device) (n : Nat) : (d.afterCroft n).chans = d.chans := by obtain ⟨_, _, _, _, h⟩ := afterCroft_eq d n; rw [h]
@[simp] theorem afterCroft_mem (d : Device) (n : Nat) : (d.afterCroft n).mem = d.mem := by obtain ⟨_, _, _, _, h⟩ := afterCroft_eq d n; rw [h]
@[simp] theorem afterCroft_xlt (d : Device) (n : Nat) : (d.afterCroft n).xlt = d.xlt := by obtain ⟨_, _, _, _, h⟩ := afterCroft_eq d n; rw [h]
@[simp] theorem afterCroft_sower (d : Device) (n : Nat) : (d.afterCroft n).sower = d.sower := by obtain ⟨_, _, _, _, h⟩ := afterCroft_eq d n; rw [h]

/-- A command of a croft that no upset has struck. -/
@[simp] theorem withUpset_none {d : Device} {n : Nat} {ks : List Nat} {k : Nat × Nat → Device → Device} (h : (d.croft n).upset = none) :
    d.withUpset n ks k = k (0, 0) d := by simp [withUpset, h]

/-- An error of no bits leaves the operand buffers as they are. -/
theorem strikeLoad_zero (e : Nat) : ∀ ls : List Load, strikeLoad e 0 ls = ls
  | [] => rfl
  | l :: ls => by
    simp only [strikeLoad, struckLoad, strikeLoad_zero e ls]
    split <;> simp

end Sys2Proof.Machine.Device
end

