-- ==== Sys2Proof/WellFormed.lean ====
section
/-! DEFINITION. Which commands are well formed: their operands within the ranges the spec gives the things they name. -/
namespace Sys2Proof

/-- Host ports, 0 and 1 (chapter 14). -/
def onPort (p : Nat) : Bool := p < 2
/-- Alnar ports, 0 to 3 (chapter 15). -/
def onRing (p : Nat) : Bool := p < 4
/-- Reeves, four that serve and one seed (chapter 11). -/
def onReeve (n : Nat) : Bool := n < 5
/-- Crofts, 16 hamlets of 17 (chapter 5). -/
def onCroft (c : Nat) : Bool := c < 272
/-- Channels (R215). -/
def onChannel (ch : Nat) : Bool := ch < 4096
/-- Job tags (R231). -/
def onTag (t : Nat) : Bool := t < 262144
/-- Functions of a port: the PF and up to 63 VFs (R385). -/
def onFunction (fn : Nat) : Bool := fn < 64
/-- A register value (R476). -/
def onWord (v : Nat) : Bool := v < 4294967296
def onBit (b : Nat) : Bool := b < 2
/-- Address windows of a page, eight each. -/
def onWindow (n : Nat) : Bool := n < 8
def onHamlet (h : Nat) : Bool := h < 16
def onDie (k : Nat) : Bool := k < 2
/-- Housekeeping DMA channels (R369). -/
def onDma (n : Nat) : Bool := n < 8
/-- Mailboxes (R375). -/
def onBox (n : Nat) : Bool := n < 4
/-- Module IDs (R419). -/
def onModuleId (m : Nat) : Bool := m < 4096
/-- Data lanes of an Alnar port (R414). -/
def onLane (k : Nat) : Bool := k < 8

def Initiator.ok : Initiator → Bool
  | .reeve n => onReeve n
  | .host p fn => onPort p && onFunction fn
  | .hkd => true
  | .tally => true

/-- A frame's fields within Table 15-7. -/
def Frame.ok (f : Frame) : Bool :=
  f.kind < 16 && f.set < 2 && f.status < 256 && f.dest < 4096 && f.src < 4096 && f.tag < 65536 && f.units < 16 && f.addr < 2 ^ 40 && f.op < 16 && f.width < 8 &&
  f.epoch < 65536 && f.channel < 4096

/-- A message's fields within Table 20-3. -/
def GateMsg.ok (m : GateMsg) : Bool := m.binding < 3 && m.slot < 256


/-- A command whose operands are within their ranges. -/
def Instr.wf : Instr → Bool
  | .insertion | .switchClose _ _ | .pwrgdAssert | .firmwareLoaded _ _ | .hbmTrainingDone _ | .alnarTrainingDone _ | .readySet
  | .startStepTimeout _ | .clockFault _ | .crossingTimeout _ _ _ _ | .westEastLinkFailure | .latchOpen | .detachLimitExpiry | .safeReached
  | .latchClosedInSafe | .presenceLost | .presenceGained | .vinUv | .vinOv | .vinRecovery | .boardOt | .coolLow | .alnDetect | .mgmtWake
  | .bellLost | .wakeAtStroke | .blockingComparatorRelease _ | .powerLoss | .phaseShed _ _ | .powerLimitStep _ | .staggerSlot _ _
  | .inputOvercurrent | .reverseInputCurrent | .constableVinOvervoltage | .railOvervoltage | .dieOvertemperature | .boardOvertemperature
  | .coolOkLow | .senseMismatch | .controllerAHeartbeatLost | .constableHeartbeatLost | .greenCompareMismatch | .standdownStripTimeout
  | .causeRelease _ | .safWdogExpiry | .chnInvComplete | .ticketDeal | .sharedTlbResponse | .tableWalkComplete | .overflowSlotFree
  | .scrubRead _ _ | .stackLost _ | .memoryAtomic _ _ _ _ | .highClassWindowEnd _ | .xltInvComplete | .bellFrame _ _ | .freeStroke
  | .sourceLost | .farRequestTimeout _ _ _ | .bankCopyComplete | .deviceSnapshotAtT | .pldmRead _ _ | .requestUpdate _ _ _ _
  | .verifyComplete _ | .activateFirmware _ | .keyExchange _ _ _ | .spdmMeasurements _ _ | .proveTimeout | .sessionIdleTimeout | .tamper _
  | .wipeDone | .setEndpointId _ _ | .tallyWakeSequence | .tallyDioLowReset | .tallyReadFrame _ _ | .mmAccessDone | .authExpiry => true
  | .perstRelease p | .linkTrained p _ _ _ | .linkDown p | .hotReset p | .portRecoveryStart p | .flrPf p | .ideIntegrityFailure p
  | .msixMessage p | .hdmCommit p _ _ _ | .cxlMemRead p _ | .cxlMemWrite p _ _ _ _ | .h2dSnoop p _ _ | .linkWaitExpiry p => onPort p
  | .glbResetWarm i v | .arbCfgWrite i _ _ v | .belCfgWrite i v | .alnIdWrite i v | .ldgCfgWrite i v | .eventForce i _ _ v
  | .setViewWrite i _ _ _ v | .clearViewWrite i _ _ _ v | .toggleViewWrite i _ _ _ v | .registerWrite i _ _ _ v | .dbgRegWrite i v => i.ok && onWord v
  | .flrVf p fn | .barAccess p fn _ _ _ _ => onPort p && onFunction fn
  | .quiet i | .wake i | .standby i | .safForce i | .glbModeArm i | .glbModeCancel i | .invPage i _ _ | .invRange i _ _ _ | .invAsid i _
  | .invAll i | .invFirmware i | .remap i | .hkdResume i | .adoptLogPop i | .sprCmdGo i _ _ | .sprLogPop i | .take i _ _ | .hold i _ _ _
  | .deviceSnapshotTake i | .deviceSnapshotArm i | .deviceSnapshotCancel i | .freeze i _ _ _ | .lock i _ _ | .pairLoRead i _ _ _
  | .dbgRegRead i | .dbgMmDataAuto i _ | .debugReset i | .dropAuth i | .dbgMark i _ => i.ok
  | .hamletClockGating h | .hamletFault h => onHamlet h
  | .thermalStepDown die | .paceClockMove die => onDie die
  | .safWdogKick i key => i.ok && onWord key
  | .safFwwinWrite i n hi v | .sewWindowWrite i n hi v | .alnOpenWrite i n hi v => i.ok && onWindow n && onBit hi && onWord v
  | .doorbell p fn ch v | .crHeadWrite p fn ch v | .fqHeadWrite p fn ch v | .commit p fn ch v => onPort p && onFunction fn && onChannel ch && onWord v
  | .descriptorFetch ch | .jobAccept ch | .ledgerWriteDurable ch | .completionRecordWrite ch | .ledgerRetire ch | .recordWriteFailure ch
  | .faultEntryPost ch | .drainComplete ch | .channelEntryLoad ch | .shadowApply ch | .unmirrored ch | .mirrorResend ch | .leaseReadback ch
  | .channelRecovery ch => onChannel ch
  | .streamJob tag | .controlJob tag | .copyJob tag | .fillJob tag | .fenceJob tag | .markJob tag | .jobFinish tag | .instructionIssue tag
  | .orderedSegmentDeal tag | .stripCommit tag | .partialCombine tag | .chainComplete tag | .witnessCompare tag | .journalCommit tag
  | .journalSpaceFree tag => onTag tag
  | .enable p fn ch | .pause p fn ch | .resume p fn ch | .abort p fn ch | .drain p fn ch => onPort p && onFunction fn && onChannel ch
  | .chnInv i ch all => i.ok && onChannel ch && onBit all
  | .ticketTake c | .glean c | .gleanRetryTimer c | .elementStart c | .loadResponse c _ | .pipeResult c | .storeAck c
  | .croftSelfTestDone c _ | .croftStallTimeout c | .streamAdd c | .streamSub c | .streamAddc c | .streamSubb c | .streamNeg c
  | .streamAbs c | .streamMin c | .streamMax c | .streamCmp c | .streamLogic c | .streamShl c | .streamShr c | .streamRotl c
  | .streamRotr c | .streamPopcnt c | .streamClz c | .streamCtz c | .streamMullo c | .streamMulhi c | .streamMulw c | .streamDivstep c
  | .streamMadd c | .streamMmul c | .streamMaddq c | .streamMsubq c | .streamMred c | .streamMtom c | .streamMfrom c | .streamBfly c
  | .streamSel c | .streamCopy c | .streamFill c | .streamNarrow c | .streamWiden c | .streamCompress c | .streamExpand c | .streamGather c
  | .streamScatter c | .streamScatterAdd c | .streamReduce c | .streamScan c | .streamCmpx c | .streamZmix c => onCroft c
  | .crfReset i c | .crfQuarantine i c | .crfRelease i c | .fiArm i c _ => i.ok && onCroft c
  | .reeveSetq n | .reeveAddq n | .reeveLdq n _ | .reeveStq n | .reeveShlq n | .reeveShrq n | .reeveRorq n | .reeveJzq n | .reeveJnzq n
  | .reeveDecq n | .reeveGoq n | .reeveCallq n | .reeveMovq n | .reeveAddrq n | .reeveSubq n | .reeveAndq n | .reeveJmpq n | .reeveRetq n
  | .reeveNopq n | .reeveBrkq n | .reeveSowq n | .reeveAdd n | .reeveSub n | .reeveAnd n | .reeveOr n | .reeveXor n | .reeveAndn n
  | .reeveSll n | .reeveSrl n | .reeveSra n | .reeveRol n | .reeveRor n | .reeveSlt n | .reeveSltu n | .reeveMin n | .reeveMax n
  | .reeveMinu n | .reeveMaxu n | .reeveClz n | .reeveCtz n | .reevePopc n | .reeveSlli n | .reeveSrli n | .reeveSrai n | .reeveMul n
  | .reeveMulh n | .reeveMulhu n | .reeveDiv n | .reeveDivu n | .reeveRem n | .reeveRemu n | .reeveAddi n | .reeveAndi n | .reeveOri n
  | .reeveXori n | .reeveSlti n | .reeveSltiu n | .reeveLdhi n | .reevePcadd n | .reeveLdb n _ | .reeveLdbu n _ | .reeveLdh n _
  | .reeveLdhu n _ | .reeveLdw n _ | .reeveLdwu n _ | .reeveLdd n _ | .reeveStb n | .reeveSth n | .reeveStw n | .reeveStd n | .reeveBeq n
  | .reeveBne n | .reeveBlt n | .reeveBge n | .reeveBltu n | .reeveBgeu n | .reeveJmp n | .reeveJmpr n | .reeveCall n | .reeveCallr n
  | .reeveLoop n | .reeveBld n _ | .reeveBldu n _ | .reeveBst n | .reeveLl n _ | .reeveSc n | .reeveAadd n | .reeveAswp n | .reeveRet n
  | .reeveRete n | .reeveTrap n | .reeveWfi n | .reeveFence n | .reeveBrk n | .reeveExit n | .reeveSow n | .reeveSowsync n | .reeveCsrr n
  | .reeveCsrw n | .reeveCsrs n | .reeveCsrc n | .reeveLsize n | .reeveLadd n | .reeveLsub n | .reeveLmul n | .reeveLand n | .reeveLor n
  | .reeveLxor n | .reeveLtest n | .reeveLget n | .reeveLgets n | .reeveLgath n | .reeveLprobe n | .reeveLput n | .reeveLputs n
  | .reeveLscat n | .reeveLcopy n | .reeveLfill n | .reeveLsum n | .scalarResultWriteback n | .llReservationTimeout n | .sowRetire n
  | .longUnitReady n | .watchdogWarn n | .watchdogExpiry n | .reeveSelfTestDone n _ | .illegalInstr n | .fetchFault n _
  | .haltTakesEffect n | .forcedHalt n => onReeve n
  | .hkdCopy i n | .hkdFill i n | .hkdCompare i n | .hkdDisable i n => i.ok && onDma n
  | .interruptEntry n => onReeve (n % 8) && n < 16
  | .hkdBurstResponse n => n < 16
  | .mbxTxLoWrite i n v | .mbxPush i n v => i.ok && onBox n && onWord v
  | .mbxPop i n => i.ok && onBox n
  | .mbxCrossed n => onBox n
  | .hlkCfgWrite i p v => i.ok && onPort p && onWord v
  | .msixTableWrite p fn _ v => onPort p && onFunction fn && onWord v
  | .configurationSpaceWrite p fn _ v => onPort p && onFunction fn && v < 2 ^ 64
  | .alnarMark p _ _ _ _ _ _ | .timingExchange p _ _ | .codewordReceive p _ | .portDown p | .topology p _ _ _ => onRing p
  | .laneSpare p _ _ lane | .halfRetrain p _ lane => onRing p && onLane lane
  | .farRead p f | .farWrite p f | .farAtomic p f | .readResp p f | .writeAck p f | .atomicResp p f | .mirrorSetup p f | .mirrorWrite p f
  | .mirrorAck p f | .heartbeat p f => onRing p && f.ok
  | .adoption origin ch => onModuleId origin && onChannel ch
  | .ldgAdoptCmd i origin => i.ok && onModuleId origin
  | .clear i ch => i.ok && onChannel ch
  | .zero i _ _ fz => i.ok && onBit fz
  | .gateOpen m | .gateProve m | .gateInfo m | .gateSetId m | .gateWarmReset m | .gatePower m | .gateCalSet m | .gateCalCommit m
  | .gateLifecycle m | .gateDebugAuth m | .gateSvnCommit m | .gateKeySet m | .gateKeyRevoke m | .gateClose m | .provision m => m.ok
  | .tallyWriteFrame _ wdata _ => onWord wdata
  | .dbgHalt i n | .dbgResume i n | .dbgStep i n => i.ok && onReeve n
  | .dbgMmGo i write auto consume => i.ok && onBit write && onBit auto && onBit consume

end Sys2Proof
end

