-- ==== Sys2Proof/Tests/Slice0.lean ====
section
/-! SUPPORT. The model's own tests: ill-formed commands refused, single steps with results taken from the spec, and for each statement
that has hypotheses states and operands that meet them. -/
open Sys2Proof Sys2Proof.Machine
namespace Sys2Proof.Tests

/-- A module whose start has done a step of Table 16-3, with its input present. -/
def atStep (n : Nat) : Device := { power := { vnw := true, vsaf := true, present := true, pwrgd := decide (3 ≤ n), memActive := decide (5 ≤ n), step := n } }

/-- A module that is READY and ACTIVE. -/
def ready : Device := ((atStep 7).setFld 1 0 0x00C 0 1 1).setFld 9 0 0x00C 0 3 1

/-- A device as a state with nothing waiting. -/
def on (d : Device) : State := { dev := d }

/-- A READY module with both ports up, two VFs of port 1 enabled and bus mastering on. -/
def hosted : Device :=
  (ready.setHost 0 { up := true, busMaster := [0], cacheEn := true, perst := false }).setHost 1
    { up := true, busMaster := [0, 2], vfEnable := true, numVfs := 2, cacheEn := true, memEn := true, perst := false }

/-- A module in STANDBY, with its reset wake enables. -/
def asleep : Device := { power := { vnw := true, present := true, standby := true } }

/-- A module whose supply has tripped low. -/
def tripped : Device := ({ power := { vnw := true, vsaf := true, present := true } } : Device).setRg 15 0 0x00C 1

/-- A stream instruction of an opcode over one element: S0 of kind `k` (5 immediate, 6 temporary 0), S1 and S2 immediates 5 and 3; FUNC and AUX. -/
def member (code k func aux : Nat) : SInstr :=
  { SInstr.ofNat (code + func * 2 ^ 8 + 2 ^ 17 + aux * 2 ^ 56 + 2 ^ 64) with
    s0 := { kind := k, base := if k = 5 then 9 else 0 }, s1 := { kind := 5, base := 5 }, s2 := { kind := 5, base := 3 } }

/-- A module whose croft 0 has the operands of an instruction's one element and runs it for job 0, modulus entry 0 being 97. -/
def running (i : SInstr) : Device :=
  ((hosted.setJob 0 { ch := 0, seq := 0, jidx := 0, cidx := 0, desc := 0, st := .running, mods := [(0, 97)], chains := [{ first := 0, members := [i], size := 256 }] }).setCroft 0
    { strips := [{ tk := { job := 0, channel := 0, instr := 0, members := 1, first := 0, count := 1 }, e := 0, ckE := 0, entered := true, temps := [{ k := 0, lo := 7, hi := 1, code := 135 }] }] })

/-- A ticket of job 0. -/
def ticket : Ticket := { job := 0, channel := 0, instr := 0, members := 1, first := 0, count := 256 }

/-- A READY module whose reeve 1 stands at the start of control SRAM, where a word's four bytes lie, at Monitor without translation. -/
def core (w : Nat) (r : Reeve := {}) : Device :=
  { ready.setReeve 1 { r with logical := some 1, pc := sramBase } with mem := ready.mem.writeBytes sramBase (bytesOf 4 w) }

/-- Whether reeve 1 fetches an instruction of an operation, may run it, and a test holds of the instruction and the device after the fetch. -/
def fetchedWith (d : Device) (op : ROp) (p : RInstr → Device → Bool) : Bool :=
  d.mayRun 1 && match d.fetchAt 1 (d.reeve 1).pc 0 with
    | (.instr (some i), d1) => decide (i.op = op) && (d1.reeve 1).scoreboard i && p i d1
    | _ => false

def fetched (d : Device) (op : ROp) : Bool := fetchedWith d op (fun _ _ => true)

theorem fetchesWith_of {d : Device} {op : ROp} {p : RInstr → Device → Bool} (h : fetchedWith d op p = true) :
    ∃ i d1, Fetches d 1 op i d1 ∧ p i d1 = true := by
  simp only [fetchedWith, Bool.and_eq_true] at h
  obtain ⟨h1, h2⟩ := h
  split at h2
  · next i d1 e => simp at h2; exact ⟨i, d1, ⟨h1, e, h2.1.1, h2.1.2⟩, h2.2⟩
  · cases h2

theorem fetches_of {d : Device} {op : ROp} (h : fetched d op = true) : ∃ i d1, Fetches d 1 op i d1 := by
  obtain ⟨i, d1, h, _⟩ := fetchesWith_of h; exact ⟨i, d1, h⟩

/-- Whether an access ended well. -/
def accOk (x : Acc × Device) : Bool := match x.1 with
  | .ok _ => true
  | _ => false

/-- A 16-bit word of Table 11-6 and a 32-bit word of Table 11-7. -/
def word16 (code r u : Nat) : Nat := code * 2 + u * 2 ^ 5 + r * 2 ^ 11
def word32 (major a b c f : Nat) : Nat := 1 + major * 2 + a * 2 ^ 7 + b * 2 ^ 12 + c * 2 ^ 17 + f * 2 ^ 22

/-- A channel table entry of the PF of port 0 with rings of 16 slots in HBM. -/
def entry16 : Nat := 1 + 1 * 2 ^ 24 + (4 + 4 * 2 ^ 5 + 4 * 2 ^ 10) * 2 ^ 32 + 0x10000 * 2 ^ 64 + 0x20000 * 2 ^ 128 + 0x30000 * 2 ^ 192

/-- A hosted module with channel 9 in a state. -/
def channel (c : Channel) : Device := hosted.setChan 9 { c with entry := some entry16 }

/-- A hosted module with a decoder of 288 GiB at 0x4000000000 on port 0, memory active or not. -/
def decoded (active : Bool) : Device :=
  let d := hosted.setHost 0 { up := true, memEn := true, hdm := some (0x4000000000, 0x4800000000) }
  { d with power := { d.power with memActive := active } }

/-- A hosted module with ID 5 whose ports 1 and 2 are UP and know modules 6 and 7, with routes to them. -/
def ringed : Device :=
  let d := ((hosted.setFld 8 1 0x00C 0 3 2).setFld 8 2 0x00C 0 3 3).setRg 8 0 0x048 0x1005
  let d := (d.setFld 8 1 0x00C 8 13 0x1006).setFld 8 2 0x00C 8 13 0x1007
  { d with ring := { d.ring with routes := [(6, 1, 1, 400), (7, 2, 1, 400)] } }

/-- A channel table entry with a far ledger of 16 slots in host memory and module 6 as its understudy. -/
def farEntry : Nat := entry16 - 2 ^ 24 + 1 * 2 ^ 1 + (6 + 2 ^ 12) * 2 ^ (8 * 0x24) + (20 + 4 * 2 ^ 5 + 0x100 * 2 ^ 16) * 2 ^ (8 * 0x28)

/-- Module 5 of the ring with adoption on, a mirror store of 256 MiB, and channel 9 mirrored or in another state of its own. -/
def mirrored (c : Channel) : Device :=
  let d := (ringed.setFld 3 0 0x04C 8 1 1).setFld 3 0 0x040 8 8 1
  (d.setFld 1 0 0x040 6 2 2).setChan 9 { c with entry := some farEntry }

/-- A module in PROVISIONED with key slots 0 and 2 set, slot 2 with every right but DEBUG. -/
def gated : Device := { hosted with gate := { hosted.gate with lifecycle := 1, slots := [(0, { state := 1, key := 9, rights := 127 }), (2, { state := 1, key := 7, rights := 0x5F })] } }

/-- The same with a session open on a slot. -/
def inSession (slot : Nat) : Device := { gated with gate := { gated.gate with session := some { slot := slot, binding := 0, sid := 7, ks := 5 }, sids := [7] } }

/-- A module whose Tally port is in step, at a level. -/
def inTally (level : Nat) : Device := { hosted with dbg := { hosted.dbg with level := level, inStep := true } }

/-! ## Ill-formed commands, one for each check -/

theorem test_initiator_reeve_range : (Instr.quiet (.reeve 5)).wf = false ∧ (Instr.quiet (.reeve 4)).wf = true := by decide
theorem test_initiator_host_range : (Instr.quiet (.host 2 0)).wf = false ∧ (Instr.quiet (.host 1 64)).wf = false ∧ (Instr.quiet (.host 1 63)).wf = true := by decide
theorem test_host_port_range : (Instr.hotReset 2).wf = false ∧ (Instr.hotReset 1).wf = true := by decide
theorem test_function_range : (Instr.flrVf 0 64).wf = false ∧ (Instr.flrVf 0 63).wf = true := by decide
theorem test_ring_port_range : (Instr.portDown 4).wf = false ∧ (Instr.portDown 3).wf = true := by decide
theorem test_reeve_range : (Instr.reeveFence 5).wf = false ∧ (Instr.reeveFence 4).wf = true := by decide
theorem test_croft_range : (Instr.streamAdd 272).wf = false ∧ (Instr.streamAdd 271).wf = true := by decide
theorem test_channel_range : (Instr.drainComplete 4096).wf = false ∧ (Instr.drainComplete 4095).wf = true := by decide
theorem test_tag_range : (Instr.streamJob 262144).wf = false ∧ (Instr.streamJob 262143).wf = true := by decide
theorem test_word_range : (Instr.registerWrite .tally 1 0 0x040 (2 ^ 32)).wf = false ∧ (Instr.registerWrite .tally 1 0 0x040 (2 ^ 32 - 1)).wf = true := by decide
theorem test_bit_range : (Instr.dbgMmGo .tally 2 0 0).wf = false ∧ (Instr.dbgMmGo .tally 1 0 0).wf = true := by decide
theorem test_window_range : (Instr.alnOpenWrite .tally 8 0 0).wf = false ∧ (Instr.alnOpenWrite .tally 7 1 0).wf = true := by decide
theorem test_hamlet_range : (Instr.hamletFault 16).wf = false ∧ (Instr.hamletFault 15).wf = true := by decide
theorem test_die_range : (Instr.thermalStepDown 2).wf = false ∧ (Instr.thermalStepDown 1).wf = true := by decide
theorem test_dma_range : (Instr.hkdCopy .tally 8).wf = false ∧ (Instr.hkdCopy .tally 7).wf = true := by decide
theorem test_mailbox_range : (Instr.mbxPop .tally 4).wf = false ∧ (Instr.mbxPop .tally 3).wf = true := by decide
theorem test_module_range : (Instr.adoption 4096 0).wf = false ∧ (Instr.adoption 4095 0).wf = true := by decide
theorem test_lane_range : (Instr.laneSpare 0 false false 8).wf = false ∧ (Instr.laneSpare 0 false false 7).wf = true := by decide
theorem test_frame_range : (Instr.farRead 0 { kind := 16, dest := 1, src := 2 }).wf = false ∧ (Instr.farRead 0 { kind := 1, dest := 1, src := 2 }).wf = true := by decide
theorem test_message_range : (Instr.gateClose { binding := 3 }).wf = false ∧ (Instr.gateClose { binding := 2 }).wf = true := by decide

/-! ## Single steps and addresses, with the results of the spec's worked examples -/

/-- The device a command leaves. -/
def after (c : Instr) (d : Device) : Device := match exec c (on d) with
  | .next t => t.dev
  | _ => {}

/-- "Worked example: placing two addresses" (chapter 7). -/
theorem test_hbm_place : hbmPlace 0x1234567890 = (2, 3, 0x12345690) ∧ hbmPlace 0x1234577890 = (7, 3, 0x12345690) := by decide
/-- The Granary example under R194. -/
theorem test_granary_place : grnPlace (granaryBase + 0x01234560) = (0x0F, 0x246A0) := by decide
/-- The example under R388's decoder (chapter 14). -/
theorem test_decoder_address : (decoded true).hdmAddr 0 0x5234567890 = some (0x1234567890 / 64 * 64) := by decide
/-- The ID register of croft 271 (chapter 19). -/
theorem test_croft_id : ready.liveReg 0x20 19 271 0 false = 0x01010F13 := by decide
/-- A 128-bit division step on 8 bits: 0xB7 / 0x0B is 16 remainder 7 (R94). -/
theorem test_divstep : ((((after (.streamDivstep 0) (running { member 0x23 5 0 8 with width := 4, s0 := { kind := 5, base := 0 }, s1 := { kind := 5, base := 0xB7 }, s2 := { kind := 5, base := 11 } })).croft 0).strips.map
    (fun s => s.result.map (fun r => (r.d0 % 256, r.d1 % 256)))) = [some (7, 16)]) := by decide
/-- "Worked example: Montgomery form with an 8-bit modulus" (chapter 4): 50 becomes 93, and 93 times 60 in Montgomery form is 90. -/
theorem test_montgomery : ((((after (.streamMtom 0) (running { member 0x35 5 0 0 with width := 4, s0 := { kind := 5, base := 50 } })).croft 0).strips.map (fun s => s.result.map (·.d0 % 256))) = [some 93]) ∧
    ((((after (.streamMmul 0) (running { member 0x31 5 0 0 with width := 4, mont := true, s0 := { kind := 5, base := 93 }, s1 := { kind := 5, base := 60 } })).croft 0).strips.map
      (fun s => s.result.map (·.d0 % 256))) = [some 90]) := by decide
/-- The submission on a ring of 16 slots (chapter 8): the good doorbell is taken, the bad one refused and counted. -/
theorem test_doorbell : ((after (.doorbell 0 0 9 0x80000003) (channel { st := .run, tail := 14, accept := 14 })).chan 9).tail = 0x80000003 ∧
    ((after (.doorbell 0 0 9 4) (channel { st := .run, tail := 0x80000003, accept := 0x80000003 })).chan 9).tail = 0x80000003 ∧
    ((after (.doorbell 0 0 9 4) (channel { st := .run, tail := 0x80000003, accept := 0x80000003 })).chan 9).refused = 1 := by decide
/-- "Worked example: one mark over two links" (chapter 15): 256 exchanges of 0x0C80 give ALN_DELAY 0x640. -/
theorem test_link_delay : (after (.timingExchange 3 0x10 0xC90) ((((atStep 7).setFld 8 3 0x00C 0 3 2).setFld 8 3 0x040 0 1 1).setPort 3 { delaySum := 255 * 0x640, delayN := 255 })).rg 8 3 0x044 = 0x640 := by decide
/-- "Worked example: halting inside a locked sequence" (chapter 21): the write of DBG_RUN, the forced halt, and the read of DBG_STATUS,
whose check codes follow R513. -/
theorem test_tally_halt : ((after (.tallyWriteFrame 0x41 4 1) ((inTally 2).setReeve 2 { logical := some 2, locked := true })).reeve 2).haltReq = true ∧
    (after (.tallyReadFrame 0x0C 159) ((inTally 2).setReeve 2 { logical := some 2, halted := true, lockBroken := true })).out = [.tally 0 0x884 84] := by decide
/-- The encodings of Table 11-14 do what the table's program says. -/
theorem test_reeve_setq : ((after (.reeveSetq 1) (core 0x4882)).reeve 1).get 9 = 4 := by decide
theorem test_reeve_loop : ((after (.reeveLoop 1) (core 0x00049043 (({} : Reeve).put 9 4))).reeve 1).lend = sramBase + 8 ∧
    ((after (.reeveLoop 1) (core 0x00049043 (({} : Reeve).put 9 4))).reeve 1).lcount = 4 + 2 * 2 ^ 48 := by decide
theorem test_reeve_addi : ((after (.reeveAddi 1) (core 0x01000005)).reeve 1).get 0 = 128 ∧ ((after (.reeveAddi 1) (core 0x01000005)).reeve 1).pc = sramBase + 4 := by decide
/-- The module right after reset: every register of STATUS at its reset (R339), nothing held in memory, nothing waiting. -/
theorem test_reset : State.reset.pending = [] ∧ State.reset.dev.mem = [] ∧ (State.reset.dev.reeve 0).status = 0x3B ∧ State.reset.dev.rg 14 0 0x048 = 1 := by decide

/-! ## States and operands that meet each statement's hypotheses -/

theorem witness_StepRunsTheFront : ({ pending := [.bellLost, .mgmtWake] } : State).pending = .bellLost :: [.mgmtWake] := rfl

theorem witness_IdleStepAdvancesPhase :
    (on {}).pending = [] ∧ (on {}).dev.power.vnw = false ∧ (on { bell := { phase := 2 ^ 24 - 1 } }).dev.bell.phase = 2 ^ 24 - 1 ∧
    (on ready).dev.power.vnw = true ∧ (on ready).dev.bell.phase < 2 ^ 24 - 1 ∧ (on ready).dev.bell.stroke ≠ lastStroke := by decide

theorem witness_QueueDrainsInOrder : exec .bellLost (on {}) = .next (on {}) := by rfl

theorem witness_MemoryStaysCanonical : GoodMemory (on { mem := [(5, 1), (9, 2)] }) := by decide

theorem witness_StartUpSteps :
    State.reset.dev.power.vnw = false ∧
    ((atStep 1).starting 1 = true ∧ (atStep 1).power.present = true ∧ (atStep 1).blocking = false ∧ 0x10 ∉ (atStep 1).power.causes) ∧
    (atStep 2).starting 2 = true ∧ (atStep 3).power.pwrgd = true ∧ ((atStep 3).setHost 0 { perst := false }).linkModeOk 0 3 16 false = true ∧
    (atStep 3).starting 3 = true ∧ (atStep 4).starting 4 = true ∧ (atStep 5).starting 5 = true ∧
    ((atStep 6).starting 6 = true ∧ (atStep 6).gate.lifecycle ≠ 4 ∧ (atStep 6).fld 1 0 0x00C 8 4 = 0 ∧ (atStep 6).power.warm = false) := by
  decide

theorem witness_ResetsOfModuleAndPorts :
    (CanWrite ready .tally 1 0 0x054 (0xC300 + 1) = true ∧ ready.power.warming = false ∧ ready.power.step = 7 ∧ ready.power.standClass = 0 ∧
      ready.fld 9 0 0x00C 0 3 ≠ 3) ∧
    (CanWrite ready .tally 1 0 0x054 1 = true ∧ field 1 0 1 = 1 ∧ field 1 8 8 ≠ 0xC3 ∧ ready.rg 1 0 0x024 / 2 ^ 31 = 0) ∧
    (hosted.host 1).up = true ∧ hosted.resetUnderWay = false ∧ ((hosted.host 1).up = true ∧ ({ hosted with power := { hosted.power with warming := true } } : Device).resetUnderWay = true) ∧ hosted.fnEnabled 1 2 = true ∧ 0 ∈ (hosted.host 1).busMaster := by
  decide

theorem witness_FaultsDetachAndRemoval :
    (ready.power.vsaf = true ∧ ready.power.step = 7 ∧ ready.computeOff = false ∧ ready.fld 10 0 0x00C 4 1 = 0) ∧
    ((atStep 2).pageDown 19 = true ∧ (atStep 2).rg 19 271 0x024 / 2 ^ 31 = 0) ∧ ready.power.reroute = false ∧
    (ready.power.vnw = true ∧ ready.fld 9 0 0x00C 0 3 = 1 ∧ ready.power.standby = false ∧ ready.power.standClass = 0) ∧
    (({ power := { detach := 2 } } : Device).power.detach = 2 ∧ ({ power := { detach := 2 } } : Device).draining = false) ∧
    (((({ power := { vnw := true } } : Device).setRg 15 0 0x00C 8).setFld 9 0 0x00C 0 3 5).cmp.testBit 3 = true ∧
      ((({ power := { vnw := true } } : Device).setRg 15 0 0x00C 8).setFld 9 0 0x00C 0 3 5).fld 9 0 0x00C 0 3 = 5) := by
  decide

theorem witness_NightwatchActs :
    ready.power.vnw = true ∧ ready.power.standby = false ∧
    ((tripped.power.vnw = true ∧ tripped.cmp &&& 3 ≠ 0 ∧ tripped.power.step = 0 ∧ tripped.power.standby = false ∧ tripped.power.standClass = 0 ∧
      tripped.fld 9 0 0x00C 0 3 = 0)) ∧
    (asleep.power.vnw = true ∧ asleep.power.standby = true ∧ asleep.power.step = 0 ∧ asleep.blocking = false ∧ asleep.power.wake = none ∧
      asleep.fld 15 0 0x040 4 1 = 1 ∧ asleep.fld 15 0 0x040 5 1 = 1) ∧
    (asleep.setRg 15 0 0x00C 2).blocking = true ∧ ((asleep.setRg 15 0 0x040 0x100).fld 15 0 0x040 8 1 = 1) ∧
    (asleep.setRg 15 0 0x00C 2).cmp &&& 0x8F = 2 := by
  decide

theorem witness_PowerStatesAndSteps :
    (CanWrite ready .tally 9 0 0x040 1 = true ∧ CanWrite ready .tally 9 0 0x040 3 = true ∧ ready.fld 9 0 0x00C 0 3 = 1 ∧ ready.blocking = false) ∧
    (CanWrite (ready.setFld 9 0 0x00C 0 3 2) .tally 9 0 0x040 2 = true ∧ (ready.setFld 9 0 0x00C 0 3 2).fld 9 0 0x00C 0 3 = 2) ∧
    (ready.spare.phases = [] ∧ ready.fld 1 0 0x040 0 2 = 0 ∧ ready.bell.phase = ready.slotPhase ∧ ready.bell.state ≠ 3 ∧ ready.power.stepUp = [] ∧ ready.sower.paceOwed = [] ∧ 600 < ready.clockOf 1) ∧
    ({ ready with sower := { clock := (1700, 1800) } } : Device).clockOf 0 < 1750 ∧ (ready.setFld 9 0 0x00C 6 1 1).fld 9 0 0x00C 6 1 = 1 ∧
    (∃ e ∈ (ready.setChan 7 { st := .run }).chans, e.2.st ≠ .off) := by
  decide

theorem witness_ConstableStandsDown :
    (ready.power.vsaf = true ∧ ready.fld 10 0 0x00C 4 1 = 0 ∧ ready.power.standClass = 0 ∧ ready.power.diesOff = false ∧ ready.wdogFrozen = false) ∧
    ((atStep 1).power.vsaf = true ∧ (atStep 1).fld 10 0 0x00C 4 1 = 0 ∧ (atStep 1).power.step < 2) ∧
    CanWrite ready .tally 10 0 0x04C 1 = true ∧ ({ power := { standClass := 1 } } : Device).power.standClass = 1 ∧
    (releasable 0xD = true ∧ [3, 0xD].Nodup) ∧ (CanWrite ready .tally 10 0 0x048 0x5A = true ∧ ready.power.wdogKey = 0x5A) ∧
    (CanWrite ready .tally 10 0 0x0FC 0xFFFFFF = true ∧ CanWrite ready .tally 10 0 0x0C0 0x7000 = true ∧ ready.locked 10 0 = false) := by
  decide

theorem witness_RegisterWritesFollowFieldTypes :
    (CanWrite ready .tally 9 0 0x044 64 = true ∧ (findRow 9 0 0x044).isSome = true ∧ ∀ x, Device.valueOk 9 0x044 x = true) ∧
    CanWrite (ready.setHost 1 { up := true }) (.host 1 0) 9 0 0x044 64 = true ∧ CanWrite ready (.reeve 3) 9 0 0x044 64 = true := by
  refine ⟨⟨by decide, by decide, fun _ => rfl⟩, by decide, by decide⟩

theorem witness_HeaderCommandsAct :
    (∀ o ∈ [0x018, 0x01C, 0x008, 0x020], CanWrite ready .tally 9 0 o 1 = true) ∧ CanWrite ready .tally 14 0 0x008 2 = true ∧ ready.snapT = none := by
  decide

theorem witness_SnapshotsAndConsumingReads :
    (∀ v ∈ [1, 2, 4], CanWrite ready .tally 1 0 0x058 v = true) ∧ ready.snapT = none ∧
    ready.bell.stroke < (ready.setRg 1 0 0x078 5).rg 1 0 0x078 ∧
    ({ ready with snapT := some 3 } : Device).snapT = some 3 ∧
    (let d : Device := { ready with snapT := some 3, snapAt := some 0 }; d.snapAt = some 0 ∧ 0 ≤ d.bell.stroke) ∧
    (CanRead ready .tally 12 0 0x060 = true ∧ (findRow 12 0 0x060).map (·.lo) = some true ∧ ready.fld 12 0 0x020 1 1 = 0 ∧
      (∀ m ∈ measuredRegs, m.1 = 12 → m.2.1 ≠ 0x060 ∧ m.2.1 ≠ 0x064)) ∧
    CanRead ready .tally 3 0 0x054 = true ∧ CanRead ready .tally 11 0 0x050 = true := by
  decide

/-- The croft's member of an opcode is one that can be computed. -/
theorem witness_IntegerOpcodesGiveTheirLanes :
    (∀ code ∈ [0x01, 0x02, 0x05, 0x06, 0x12, 0x20, 0x07, 0x08, 0x62, 0x13, 0x21, 0x22, 0x44, 0x03, 0x04],
      ∃ x, CanCompute (running (member code 5 0 0)) 0 code x ∧ x.active.testBit 3 = true) ∧
    ∃ x, CanCompute (running (member 0x43 6 0 0)) 0 0x43 x := by
  refine ⟨?_, _, rfl, rfl, rfl, rfl, rfl, rfl⟩
  intro code h
  simp only [List.mem_cons, List.not_mem_nil, or_false] at h
  rcases h with rfl | rfl | rfl | rfl | rfl | rfl | rfl | rfl | rfl | rfl | rfl | rfl | rfl | rfl | rfl <;>
    exact ⟨_, ⟨rfl, rfl, rfl, rfl, rfl, rfl⟩, by decide⟩

/-- The croft's member of an opcode is one that can be computed. -/
theorem witness_BitAndMovingOpcodesGiveTheirLanes :
    ∀ code ∈ [0x10, 0x11, 0x14, 0x15, 0x16, 0x17, 0x18, 0x40, 0x41, 0x42, 0x50, 0x51, 0x52, 0x45, 0x46],
      ∃ x, CanCompute (running (member code 5 0 0)) 0 code x ∧ x.active.testBit 3 = true := by
  intro code h
  simp only [List.mem_cons, List.not_mem_nil, or_false] at h
  rcases h with rfl | rfl | rfl | rfl | rfl | rfl | rfl | rfl | rfl | rfl | rfl | rfl | rfl | rfl | rfl <;>
    exact ⟨_, ⟨rfl, rfl, rfl, rfl, rfl, rfl⟩, by decide⟩

/-- Members of the modular opcodes with modulus 97 that can be computed. -/
theorem witness_ModularOpcodesGiveResidues :
    (∀ code ∈ [0x30, 0x31, 0x32, 0x33, 0x35, 0x36, 0x37],
      ∃ x, CanCompute (running (member code 5 0 0)) 0 code x ∧ x.q % 2 = 1 ∧ x.q < 2 ^ x.i.w) ∧
    ∃ x, CanCompute (running (member 0x34 6 0 0)) 0 0x34 x ∧ x.q % 2 = 1 ∧ x.q < 2 ^ x.i.w := by
  refine ⟨?_, _, ⟨rfl, rfl, rfl, rfl, rfl, rfl⟩, by decide, by decide⟩
  intro code h
  simp only [List.mem_cons, List.not_mem_nil, or_false] at h
  rcases h with rfl | rfl | rfl | rfl | rfl | rfl | rfl <;> exact ⟨_, ⟨rfl, rfl, rfl, rfl, rfl, rfl⟩, by decide, by decide⟩

/-- Members of the four opcodes that can be computed, at the first element of their fold. -/
theorem witness_FoldingOpcodesGiveTheirState :
    (∃ x, CanCompute (running (member 0x23 5 0 16)) 0 0x23 x ∧ x.i.aux ≤ x.i.w) ∧
    (∃ x, CanCompute (running { member 0x70 5 0 0 with width := 0 }) 0 0x70 x ∧ x.i.w = 128 ∧ x.active.testBit 0 = true) ∧
    (∃ x, CanCompute (running (member 0x60 5 2 0)) 0 0x60 x ∧ x.i.func < 6 ∧ x.s.work.acc = []) ∧
    (∃ x, CanCompute (running (member 0x61 5 8 0)) 0 0x61 x ∧ x.i.func % 8 < 6 ∧ x.i.func < 16 ∧ x.i.wide = false ∧ x.s.work.acc = []) :=
  ⟨⟨_, ⟨rfl, rfl, rfl, rfl, rfl, rfl⟩, by decide⟩, ⟨_, ⟨rfl, rfl, rfl, rfl, rfl, rfl⟩, rfl, by decide⟩,
    ⟨_, ⟨rfl, rfl, rfl, rfl, rfl, rfl⟩, by decide, rfl⟩, ⟨_, ⟨rfl, rfl, rfl, rfl, rfl, rfl⟩, by decide, by decide, rfl, rfl⟩⟩

theorem witness_ZmixIsInjective : zmix 1 0 ≠ zmix 2 0 ∧ (1 : Nat) < 2 ^ 128 := by decide

/-- A READY module with a running CONTROL job 0 of a live channel 0, which has one sown instruction: ADD of length 0 with D0 at address 0. -/
def issuing : Device :=
  (hosted.setChan 0 { st := .run, entry := some 0 }).setJob 0
    { ch := 0, seq := 0, jidx := 0, cidx := 0, desc := 1, st := .running, startedDurable := true, sown := [1 + (5 + 5 * 8 + 512) * 2 ^ 32] }

/-- A chain of four strips of 256 elements of which none has been dealt. -/
def dealing : Device :=
  ((hosted.setChan 0 { st := .run, entry := some 0 }).setCroft 20 { st := 1 }).setJob 0
    { ch := 0, seq := 0, jidx := 0, cidx := 0, desc := 0, st := .running, startedDurable := true,
      chains := [{ first := 0, members := [{ member 1 5 0 0 with length := 1024 }], size := 256 }] }

theorem witness_StripsAreIssuedDealtAndTaken_issue : ∃ j ms d1 mods d2, CanIssue issuing 0 j ∧ issuing.fetchMembers j 9 j.next [] = (.ok ms false, d1) ∧
    checkChain (spaceTop (entDepth (d1.entry j.ch))) (fun _ => true) false [] ms = none ∧ d1.readMods j j.next ms 0 j.mods = (none, mods, d2) := by
  refine ⟨_, _, _, _, _, ⟨rfl, by decide, .inl rfl, rfl, rfl, rfl, rfl, by decide, by decide, by decide, by decide, by decide⟩, rfl, by decide, rfl⟩

theorem witness_StripsAreIssuedDealtAndTaken :
    (∃ k, dealing.drrPick = some (0, 0, k, .fresh 0 256) ∧ (dealing.dealWhole (dealing.freshTicket 0 (dealing.govOf 0 0) 0 k 0 256 0 (Device.startState k) false) k .any).isSome = true ∧ dealing.chainOf 0 0 = some k) ∧
    (let d := hosted.setCroft 20 { st := 1, deque := [ticket] }
     (d.croft 20).st = 1 ∧ (d.croft 20).retiring = false ∧ d.stoodDown = false ∧ (d.croft 20).strips.length < 4 ∧ (d.croft 20).deque = [ticket]) ∧
    (let d := (hosted.setCroft 20 { st := 1 }).setCroft 21 { st := 1, deque := [ticket, ticket] }
     d.gleans 20 = true ∧ [1, 2, 3].findSome? (fun l => (d.victim 20 l).map (fun v => (l, v))) = some (1, 21)) ∧
    ({ hosted with sower := { hosted.sower with overflowWait := [(0, 0, 0)] } } : Device).sower.overflowWait = [(0, 0, 0)] := by
  refine ⟨⟨_, rfl, by decide, rfl⟩, by decide, by decide, rfl⟩

/-- The strip on croft 0 changed, its instruction ADD on immediates unless said otherwise. -/
def stripWith (f : Strip → Strip) (i : SInstr := member 1 5 0 0) : Device := (running i).upCroft 0 (fun c => { c with strips := c.strips.map f })

theorem witness_ElementsPassThroughTheCroft :
    (∃ x d1, let d := stripWith (fun s => { s with entered := false })
      d.cur 0 = some x ∧ (d.croft 0).upset = none ∧ x.s.entered = false ∧ x.s.storing = false ∧ x.copies (d.croft 0) = [] ∧ x.wants (d.croft 0) = [] ∧ (∀ l ∈ x.s.loads, l.bad = 0) ∧
      d.touchAll 0 x (x.touches (d.croft 0)) = (.ok, d1)) ∧
    (∃ x r a b d1 d2, let d := stripWith (fun s => { s with result := some { d0 := 8, code := 8 } })
      d.cur 0 = some x ∧ x.s.result = some r ∧ d.waitsSlot x = false ∧ d.firedSite 0 (pipesOf x.i.opcode) = none ∧ x.passes (d.croft 0) 7 r r = true ∧
      d.destOf 0 x (x.checked r) 3 = (.ok a, d1) ∧ d1.destOf 0 x (x.checked r) 4 = (.ok b, d2) ∧ d2.firedSite 0 [4] = none ∧ (x.checked r).codesOk = true ∧
      x.c.members.length ≤ x.m + 1 ∧ (d2.stripOf 0 x).tk.held = false) := by
  refine ⟨⟨_, _, rfl, rfl, rfl, rfl, rfl, rfl, by decide, rfl⟩, ⟨_, _, _, _, _, _, rfl, rfl, by decide, rfl, by decide, rfl, rfl, rfl, by decide, by decide, rfl⟩⟩

/-- A page of address space 0 at HBM address 0, held in a micro-TLB. -/
def page0 : TlbEntry := { fw := false, asid := 0, level := 0, vpn := 0, pa := 0, r := true, w := true, x := false, u := true, se := false }

/-- A croft with an operand at virtual address 0 that its micro-TLB translates to HBM address 0. -/
def loading : Device :=
  ((running { member 0x41 1 0 0 with s0 := { kind := 1 } }).setChan 0 { st := .run, entry := some 0 }).upCroft 0 (fun c =>
    { c with utlb := c.utlb.fill 6 (fun _ => false) page0, strips := c.strips.map (fun s => { s with entered := false }) })

theorem witness_ElementsPassThroughTheCroft_load : ∃ x y d0 rest va k ps d1 seen d2 v d3, (loading.curs 0).find? (fun x => loading.canLoad 0 x) = some x ∧
    loading.contexts 0 x = (0, 0) :: rest ∧ x.at? 0 = some y ∧ (y.tables (loading.croft 0)).contains 0 = false ∧
    loading.touchAll 0 x (x.touches (loading.croft 0)) = (.ok, d0) ∧ y.place 0 = some (va, k) ∧
    d0.croftXlates 0 y 0 .read (noSideSlot (y.i.slot 0)) (y.neededParts 0 va k) = (.ok ps false, d1) ∧
    regionOf ((ps.map (fun p => p.2.1)).headD 0) = .hbm ∧ (y.i.slot 0).kind ≠ kLocal ∧ (y.i.slot 0).kind ≠ kBcastMem ∧ d1.seenBy 0 y ps = (.ok seen, d2) ∧
    d2.readParts y.j.ch (Device.hamletOf 0) seen va ps = (.ok v, d3) :=
  ⟨_, _, _, _, _, _, _, _, _, _, _, _, rfl, rfl, rfl, rfl, rfl, rfl, rfl, by decide, by decide, by decide, rfl, rfl⟩

theorem witness_ElementsPassThroughTheCroft_store : ∃ x st v d1,
    let d := stripWith (fun s => { s with storing := true, stores := [{ member := 0, slot := 3, element := 0, cells := [{ va := 0, pa := 0, b := 7 }] }] })
    d.cur 0 = some x ∧ x.s.storing = true ∧ x.s.released = false ∧ x.c.journaled = false ∧ x.s.stores = [st] ∧ st.element = x.s.e ∧ st.se = false ∧
    d.makeStore x.s.tk.job st = (.ok v, d1) :=
  ⟨_, _, _, _, rfl, rfl, rfl, rfl, rfl, rfl, rfl, rfl⟩

theorem witness_ElementsPassThroughTheCroft_lookups :
    let l : Lookup := { croft := 0, gen := 0, job := 0, instr := 0, first := 0, ctx := 0, space := { asid := 0, root := 0, depth := 0 }, va := 0, access := .read, noSide := false, fresh := false }
    let d : Device := { hosted with xlt := { hosted.xlt with lookups := [l] } }
    d.xlt.lookups = [l] ∧ ((({ d with xlt := { d.xlt with lookups := [] } } : Device).count 5 0 0x0C0).tlbFind false l.space.asid l.va [0, 1, 2]).isNone = true := by decide

/-- A running job 0 of a live channel 0 with one chain. -/
def chained (c : Chain) (j : Job := { ch := 0, seq := 0, jidx := 0, cidx := 0, desc := 0, st := .running }) : Device :=
  (hosted.setChan 0 { st := .run, entry := some 0 }).setJob 0 { j with chains := [c] }

/-- A chain of one ADD over 256 elements. -/
def addChain : Chain := { first := 0, members := [{ member 1 5 0 0 with length := 256 }], size := 256 }

theorem witness_StripsCommitInOrder :
    (let c := { addChain with ready := [{ strip := 0, first := 0, count := 256, flags := 1 }] }
     (chained c).power.standClass < 2 ∧ (Device.aheadOf [c]).head? = some c ∧ c.ready.find? (fun r => decide (r.strip = c.committed)) = some { strip := 0, first := 0, count := 256, flags := 1 }) ∧
    ((chained addChain).setRg 14 0 0x080 2).rg 14 0 0x080 = 2 ∧ (chained addChain).bellNow < 2 ^ 64 ∧
    (let c := { addChain with committed := 256 }
     c.len ≤ c.committed ∧ ((chained c).chan 0).st.live = true ∧ Device.finalPieces c = some []) ∧
    (let c := { addChain with journaled := true }
     (chained c).hasExtent 0 = false ∧
     (((chained c).setRg 3 0 0x040 1).journalFit ((chained c).journalPlace 0).1 (((chained c).setRg 3 0 0x040 1).journalPlace 0).2 (ceilDiv (imageBytes c.members c.len) 65536)).isSome = true) ∧
    (combineStep { member 0x60 5 0 0 with length := 512 } 512 0 [{ level := 0, k := 0, acc := [some (1, 0)] }, { level := 0, k := 1, acc := [some (2, 256)] }]).isSome = true ∧
    (let h (b : Bool) : HeldCopy := { strip := 0, first := 0, start := {}, count := 256, croft := b.toNat * 20, copyB := b, third := false, digest := [], ck := {} }
     let c := { addChain with held := [h false, h true] }
     (chained c).comparable 0 c = some [h false, h true] ∧ Device.copiesAgree (h false) (h true) = true ∧
     Device.copiesAgree (h false) { h true with digest := [(0, 0, 1)] } = false) := by decide

theorem witness_StripsCommitInOrder_journal :
    (let c : Chain := { addChain with journaled := true, commitLeft := some [] }
     let d := chained c { ch := 0, seq := 0, jidx := 0, cidx := 0, desc := 0, st := .running, jphase := .staged }
     ∃ d1, d.commitStores 0 0 0 c 4096 c.runs [] = (([], [], none), d1) ∧ (d1.job? 0).isSome = true) := ⟨_, rfl, rfl⟩

/-- Croft 20 changed in a READY module. -/
def croft20 (c : Croft) : Device := hosted.setCroft 20 c

theorem witness_CroftsLeaveAndEnterService :
    (let d := croft20 { st := 1, strips := [{ tk := ticket, e := 0, ckE := 0 }] }
     (d.noteWear 2 20 0 3600).1 < 3 ∧ d.resetUnderWay = false ∧ CanWrite d .tally 19 20 0x040 1 = true ∧ CanWrite d .tally 19 20 0x040 2 = true ∧
     CanWrite d (.reeve 1) 19 20 0x040 1 = true ∧ CanWrite d .tally 19 20 0x044 (2 + 256) = true ∧ d.locked 19 20 = false) ∧
    CanWrite (croft20 { st := 3 }) .tally 19 20 0x040 4 = true ∧
    CanWrite hosted .tally 1 0 0x050 1 = true ∧ CanWrite hosted .tally 1 0 0x050 2 = true ∧
    Device.modeValueOk (hosted.rg 1 0 0x044) = true ∧ hosted.modeLedgerOk 0 = true ∧ hosted.rg 1 0 0x048 + hosted.rg 1 0 0x04C % 256 * 2 ^ 32 ≤ hosted.stroke ∧
    hosted.stroke < (hosted.setRg 1 0 0x048 5).rg 1 0 0x048 ∧ Device.modeValueOk 3 = false := by decide

theorem witness_CroftsLeaveAndEnterService_check : ∃ x r, let d := stripWith (fun s => { s with result := some { d0 := 9, code := 8 } })
    d.resetUnderWay = false ∧ (d.croft 0).upset = none ∧ d.cur 0 = some x ∧ x.s.result = some r ∧ d.waitsSlot x = false ∧
    d.firedSite 0 (pipesOf x.i.opcode) = none ∧ x.passes (d.croft 0) 7 r r = false ∧ x.s.tk.attempt = 0 :=
  ⟨_, _, rfl, rfl, rfl, rfl, by decide, rfl, by decide, rfl⟩

/-- Step 5 of a Warm reset with croft 20 in service. -/
theorem witness_CroftsLeaveAndEnterService_warm : let d := (atStep 5).setCroft 20 { st := 1 }
    let d : Device := { d with power := { d.power with warm := true, warming := true } }
    d.resetUnderWay = true ∧ CanWrite d .tally 19 20 0x040 1 = true := by decide

/-- Words of the arithmetic instructions, written out from Tables 11-6 to 11-9. -/
def aluWords : List (Nat × ROp) :=
  [(word16 1 3 5, .setq), (word16 2 3 5, .addq), (word16 5 3 5, .shlq), (word16 6 3 5, .shrq), (word16 7 3 5, .rorq), (word16 0xD 3 8, .movq),
   (word16 0xD 3 9, .addrq), (word16 0xE 3 8, .subq), (word16 0xE 3 9, .andq)] ++
  [ROp.add, .sub, .and, .or, .xor, .andn, .sll, .srl, .sra, .rol, .ror, .slt, .sltu, .min, .max, .minu, .maxu].zipIdx.map (fun p => (word32 1 3 4 5 p.2, p.1)) ++
  [ROp.clz, .ctz, .popc].zipIdx.map (fun p => (word32 1 3 4 0 (0x11 + p.2), p.1)) ++
  [(word32 1 3 4 5 0x15, .slli), (word32 1 3 4 5 0x17, .srli), (word32 1 3 4 5 0x19, .srai)] ++
  [ROp.mul, .mulh, .mulhu].zipIdx.map (fun p => (word32 1 3 4 5 (0x20 + p.2), p.1)) ++
  [ROp.div, .divu, .rem, .remu].zipIdx.map (fun p => (word32 1 3 4 5 (0x28 + p.2), p.1)) ++
  [ROp.addi, .andi, .ori, .xori, .slti, .sltiu, .ldhi, .pcadd].zipIdx.map (fun p => (word32 (2 + p.2) 3 4 5 6, p.1))

theorem aluWords_fetched : ∀ p ∈ aluWords, fetched (core p.1) p.2 = true := by decide

theorem witness_ReeveArithmeticGivesItsResult : ∀ p ∈ aluWords, ∃ i d1, Fetches (core p.1) 1 p.2 i d1 := fun p h => fetches_of (aluWords_fetched p h)

/-- Words of the control transfers, written out from Tables 11-6 to 11-11. -/
def flowWords : List (Nat × ROp) :=
  [(word16 8 3 5, .jzq), (word16 9 3 5, .jnzq), (word16 0xA 3 5, .decq), (word16 0xB 0 4, .goq), (word16 0xC 0 4, .callq), (word16 0xF 3 0, .jmpq),
   (word16 0xF 0 1, .retq)] ++
  [ROp.beq, .bne, .blt, .bge, .bltu, .bgeu, .jmp, .jmpr].zipIdx.map (fun p => (word32 (0x16 + p.2) 3 4 5 6, p.1)) ++
  [(word32 0x1E 0 4 0 0, .call), (word32 0x1F 0 4 0 0, .callr), (word32 0x20 0 0 0 0, .ret), (word32 0x21 0 4 2 0, .loop)]

theorem flowWords_fetched : ∀ p ∈ flowWords, fetched (core p.1) p.2 = true := by decide

theorem witness_ReeveControlTransfers : ∀ p ∈ flowWords, ∃ i d1, Fetches (core p.1) 1 p.2 i d1 := fun p h => fetches_of (flowWords_fetched p h)

theorem witness_ReeveControlTransfers_cases :
    (∃ i d1, Fetches (core (word32 0x1E 0 4 0 0) { winptr := 0xF0, regs := [(7, sramBase + 4096)] }) 1 .call i d1 ∧ ((decide ((d1.reeve 1).flight = []) && decide ((d1.reeve 1).res = 15) &&
      accOk (d1.writeBlocks 1 (d1.reeve 1).priv ((d1.reeve 1).spillBlocks ((d1.reeve 1).get 7)))) = true)) ∧
    (∃ i d1, Fetches (core (word32 0x20 0 0 0 0) { winptr := 0x50 }) 1 .ret i d1 ∧ (decide ((d1.reeve 1).flight = []) && decide (3 < (d1.reeve 1).res)) = true) ∧
    (∃ i d1, Fetches (core (word32 0x21 0 4 2 0) { regs := [(4, 9)] }) 1 .loop i d1 ∧
      (decide ((d1.reeve 1).lcount % 2 ^ 48 = 0) && decide ((d1.reeve 1).get i.ra % 2 ^ 48 ≠ 0)) = true) :=
  ⟨fetchesWith_of (p := fun _ d1 => decide ((d1.reeve 1).flight = []) && decide ((d1.reeve 1).res = 15) &&
      accOk (d1.writeBlocks 1 (d1.reeve 1).priv ((d1.reeve 1).spillBlocks ((d1.reeve 1).get 7)))) (by decide),
    fetchesWith_of (p := fun _ d1 => decide ((d1.reeve 1).flight = []) && decide (3 < (d1.reeve 1).res)) (by decide),
    fetchesWith_of (p := fun i d1 => decide ((d1.reeve 1).lcount % 2 ^ 48 = 0) && decide ((d1.reeve 1).get i.ra % 2 ^ 48 ≠ 0)) (by decide)⟩

/-- Words of the loads, stores and atomics, written out from Tables 11-6, 11-8 and 11-10. -/
def accessWords : List (Nat × ROp) :=
  [(word16 3 3 5, .ldq), (word16 4 3 5, .stq)] ++
  [ROp.ldb, .ldbu, .ldh, .ldhu, .ldw, .ldwu, .ldd, .stb, .sth, .stw, .std].zipIdx.map (fun p => (word32 (0xA + p.2) 3 4 5 6, p.1)) ++
  [(word32 0x15 3 4 0 0x18, .bld), (word32 0x15 3 4 0 0x11, .bldu), (word32 0x15 0 4 5 0x1A, .bst), (word32 0x15 3 4 0 0x1B, .ll),
   (word32 0x15 3 4 5 0x1C, .sc), (word32 0x15 2 4 8 0x15, .aadd), (word32 0x15 2 4 8 0x1E, .aswp)]

/-- At the SRAM address in r4, and s7 in SRAM: untranslated, and aligned for every form. -/
theorem accessWords_fetched : ∀ p ∈ accessWords, fetchedWith (core p.1 { regs := [(4, sramBase + 64), (7, sramBase + 128)] }) p.2 (fun _ d1 =>
    !(d1.reeve 1).tr && decide (sramBase ≤ (d1.reeve 1).get 4) && decide ((d1.reeve 1).get 4 % 16 = 0) && d1.mem.wf &&
    (List.range 16).all (fun k => (d1.latent.find? (greenUnit ((d1.reeve 1).get 4 + k))).isNone)) = true := by decide

theorem witness_ReeveAccesses : ∀ p ∈ accessWords, ∃ i d1, Fetches (core p.1 { regs := [(4, sramBase + 64), (7, sramBase + 128)] }) 1 p.2 i d1 ∧
    (!(d1.reeve 1).tr && decide (sramBase ≤ (d1.reeve 1).get 4) && decide ((d1.reeve 1).get 4 % 16 = 0) && d1.mem.wf &&
    (List.range 16).all (fun k => (d1.latent.find? (greenUnit ((d1.reeve 1).get 4 + k))).isNone)) = true :=
  fun p h => fetchesWith_of (accessWords_fetched p h)

/-- Reeve 1 in SRAM with its stacks in SRAM. -/
def handled (w st : Nat) : Device :=
  core w { status := st, tsbp := sramBase + 0x1000, tsbp2 := sramBase + 0x2000, evbase := sramBase + 0x400, regs := [(7, sramBase + 0x800)] }

theorem witness_ReeveEntersAndReturns :
    fetchedWith (handled (word32 0x20 0 9 0 2) 0x0B) .trap (fun i d1 => decide ((d1.reeve 1).priv ≠ 0) && d1.mem.wf && decide (((d1.reeve 1).advance i.len).res < 15) && !(d1.reeve 1).tr) = true ∧
    fetchedWith (handled (word32 0x20 0 0 0 5) 0x0B) .brk (fun _ d1 => decide (d1.fld 14 0 0x044 1 1 = 0) && d1.mem.wf) = true ∧
    fetchedWith (handled (word16 0xF 0 3) 0x0B) .brkq (fun _ d1 => decide (d1.fld 14 0 0x044 1 1 = 0) && d1.mem.wf) = true := by decide

theorem witness_ReeveEntersAndReturns_faults : (handled 0 0x0B).mayRun 1 = true ∧ ((handled 0 0x0B).reeve 1).iml ≠ 7 ∧
    (match (handled 0 0x0B).fetchAt 1 sramBase 0 with
      | (.instr none, d1) => d1.mem.wf
      | _ => false) = true ∧
    (match (handled 0 0x0B).fetchAt 1 sramBase 2 with
      | (.fault c _ _, d1) => decide (c = 0x06) && d1.mem.wf
      | _ => false) = true := by decide

theorem witness_ReeveEntersAndReturns_double : ((handled 0 0x7B).reeve 1).iml = 7 ∧ ((handled 0 0x7B).reeve 1).df = true ∧ (handled 0 0x7B).mayRun 1 = true ∧ (handled 0 0x7B).resetUnderWay = false := by decide

theorem witness_ReeveEntersAndReturns_interrupt :
    let d := (handled 0 0x03).upReeve 1 (fun r => { r with warn := true })
    d.atBoundary 1 = true ∧ d.dueInterrupt 1 = some (0x09, 6) ∧ (d.reeve 1).longFlight = false := by decide

set_option maxRecDepth 10000 in
/-- A frame in SRAM at s6, of a caller at Monitor with its window two groups back. -/
theorem witness_ReeveEntersAndReturns_rete :
    (let d := core (word32 0x20 0 0 0 1) { status := 0x3B, winptr := 0x52, tsbp2 := sramBase + 0x2000, regs := [(6, sramBase + 0x800), (7, sramBase + 0x800)] }
     let d := { d with mem := d.mem.writeBytes (sramBase + 0x800) ([sramBase + 64, 0x03, 0, 0, 0x30].flatMap (bytesOf 8)) }
     fetchedWith d .rete (fun _ d1 => decide ((d1.reeve 1).priv ≠ 0) && decide ((d1.reeve 1).flight = []) &&
      match d1.readBlocks 1 (d1.reeve 1).priv [((d1.reeve 1).get 6, 128)] with
      | (.ok [f], d2) =>
        let w (k : Nat) : Nat := f / 2 ^ (64 * k) % 2 ^ 64
        decide (w 4 / 2 ^ 16 % 2 ^ 32 = (d1.reeve 1).spilled) && statusOk (putField (w 1) 6 1 0) && decide (w 1 % 4 ≤ (d1.reeve 1).priv) &&
        decide ((d1.reeve 1).cur = (w 4 % 16 + 2) % 16) && decide ((d1.reeve 1).res = w 4 / 16 % 32 + 2) && decide (d2.reeve 1 = d1.reeve 1)
      | _ => false) = true) := by decide

/-- Words of the system instructions, written out from Tables 11-6 and 11-11. -/
def sysWords : List (Nat × ROp) :=
  [(word16 0xF 0 2, .nopq), (word16 0xF 3 4, .sowq), (word32 0x20 0 0 0 3, .wfi), (word32 0x20 0 0 0 4, .fence), (word32 0x20 3 4 0 6, .exit),
   (word32 0x20 3 4 0 7, .sow), (word32 0x20 3 4 0 8, .sowsync), (word32 0x20 3 4 1 0x10, .csrr), (word32 0x20 3 4 2 0x11, .csrw),
   (word32 0x20 3 4 2 0x12, .csrs), (word32 0x20 3 4 2 0x13, .csrc)]

theorem sysWords_fetched : ∀ p ∈ sysWords, fetched (core p.1) p.2 = true := by decide

/-- Reeve 1 at User privilege with a running CONTROL job. -/
def userCore (w : Nat) : Device :=
  (((core w { status := 0x80, regs := [(4, 128)] }).setChan 0 { st := .run }).setJob 0 { ch := 0, seq := 0, jidx := 0, cidx := 0, desc := 1, st := .running, reeve := some 1, startedDurable := true })

theorem witness_ReeveSystemInstructions : ∀ p ∈ sysWords, ∃ i d1, Fetches (core p.1) 1 p.2 i d1 := fun p h => fetches_of (sysWords_fetched p h)

theorem witness_ReeveSystemInstructions_user : ∀ p ∈ [(word32 0x20 3 4 0 6, ROp.exit), (word32 0x20 3 4 0 7, .sow), (word32 0x20 3 4 0 8, .sowsync)],
    fetchedWith (userCore p.1) p.2 (fun _ d1 => decide ((d1.reeve 1).priv = 0) && (match d1.boundJob 1 with
      | some (tag, j) => decide (d1.job? tag = some j) && Device.sownOver j
      | none => false) && decide ((d1.reeve 1).get 4 % 128 = 0)) = true := by decide

theorem witness_ReeveSystemInstructions_events :
    (core 0 { flight := [{ bank := 0, ix := 3, val := 7 }] }).watchdogFrozen 1 = false ∧ ((core 0 { status := 0xBB }).reeve 1).le = true ∧
    (let d := (core 0 { st := 2 }).setReeve 4 { st := 1 }
     (d.reeve 1).st = 2 ∧ d.takingOver 4 = true ∧ d.resetUnderWay = false ∧ (List.range 5).find? (fun k => decide ((d.reeve k).st = 1)) = some 4) := by decide

/-- Words of the long instructions on 32-bit elements, written out from Tables 12-9 and 12-10. -/
def longWords : List (Nat × ROp) :=
  [ROp.lsize, .ladd, .lsub, .lmul, .land, .lor, .lxor, .ltest, .lget, .lgets, .lgath, .lprobe, .lput, .lputs, .lscat].zipIdx.map (fun p =>
    (word32 0x30 2 4 (if p.1 ∈ [ROp.lsize, .lget, .lprobe, .lput] then 0 else 6) (2 + p.2 * 64), p.1)) ++
  [ROp.lcopy, .lfill, .lsum].zipIdx.map (fun p => (word32 0x30 2 4 p.2 (2 + 15 * 64), p.1))

/-- Reeve 1 with the long unit up, VL 1, and an address in SRAM in r4. -/
def longCore (w : Nat) : Device := core w { status := 0x8B, longReady := true, vl := 1, regs := [(4, sramBase + 64)] }

theorem longWords_fetched : ∀ p ∈ longWords, fetchedWith (longCore p.1) p.2 (fun i d1 =>
    i.longOk && decide ((d1.reeve 1).vl ≤ i.vlmax) && (d1.reeve 1).le && (d1.reeve 1).longReady && !(d1.reeve 1).tr && d1.mem.wf &&
    decide (((d1.reeve 1).get 4) % (i.ew / 8) = 0) &&
    !(d1.reeve 1).longFlight && (List.range 16).all (fun k => (d1.latent.find? (greenUnit ((d1.reeve 1).get 4 + k))).isNone)) = true := by decide

theorem witness_LongInstructionsActElementwise : ∀ p ∈ longWords, ∃ i d1, Fetches (longCore p.1) 1 p.2 i d1 ∧
    (i.longOk && decide ((d1.reeve 1).vl ≤ i.vlmax) && (d1.reeve 1).le && (d1.reeve 1).longReady && !(d1.reeve 1).tr && d1.mem.wf &&
    decide (((d1.reeve 1).get 4) % (i.ew / 8) = 0) &&
    !(d1.reeve 1).longFlight && (List.range 16).all (fun k => (d1.latent.find? (greenUnit ((d1.reeve 1).get 4 + k))).isNone)) = true := fun p h => fetchesWith_of (longWords_fetched p h)

theorem witness_OwnersDriveTheirChannels :
    (∀ st : ChState, ∀ b ∈ [true, false], let d := channel { st := st, cmdBusy := b, accept := 0xE, tail := 0xE, done := 0x80000007, crHead := 7, fqTail := 1 }
      Device.mustHold (d.chan 9) 0x000 = false ∧ Device.mustHold (d.chan 9) 0x00C = false ∧ Device.mustHold (d.chan 9) 0x014 = false ∧
      Device.mustHold { d.chan 9 with entry := none } 0x000 = true ∧ (d.chan 9).mirror ≠ .mirrored ∧ d.hostMay 0 0 true = true ∧ d.ready = true ∧ d.chanOwner 9 = some (0, 0) ∧ d.pwrState ≠ 2) ∧
    ringDist 16 0xE 0x80000003 = 5 ∧ ringDist 16 0x80000003 0x00000004 = 17 ∧ ringDist 16 7 0x80000007 = 16 ∧ ringDist 16 0 1 = 1 ∧ ringDist 16 0 0x80000000 = 16 := by
  refine ⟨?_, by decide⟩
  intro st b _
  cases st <;> cases b <;> decide

theorem witness_OwnersDriveTheirChannels_fault (slot act : Nat) (ha : act = 0 ∨ act = 1) (hs : slot = 0 ∨ slot = 1) :
    let j : Job := { ch := 9, seq := 0, jidx := 0, cidx := 0, desc := 0, st := .parked, faults := [{ cause := 1, access := 0, instr := 0, element := 0, addr := 0, place := .copy, slot := some 0 }] ++
      (if slot = 0 then [] else [{ cause := 1, access := 0, instr := 0, element := 0, addr := 0, place := .copy, slot := some 1 }]) }
    let d0 := (channel { st := .run, fqTail := 2 }).setJob 3 j
    let d := { d0 with mem := d0.mem.writeBytes (0x30002 + windowBase) [BitVec.ofNat 8 act] }
    ∃ d1, (d.lookOwner 9).readHigh (Device.fqPa (d.entry 9) 0 + 2) 1 = (.ok act, d1) ∧
      (d1.jobsOf 9).find? (fun e => e.2.faults.any (fun f => f.slot = some 0)) = some (3, j) := by
  rcases ha with rfl | rfl <;> rcases hs with rfl | rfl <;> exact ⟨_, rfl, rfl⟩

/-- A STREAM descriptor of one instruction, a FENCE, a MARK and a CONTROL descriptor. -/
def descOf (kind : Nat) : Nat := kind + (if kind = 0 then 2 ^ 320 else 0)

/-- Channel 9 in RUN with a job of a kind that waits. -/
def waiting (kind : Nat) : Device := (channel { st := .run, tail := 1 }).setJob 3 { ch := 9, seq := 0, jidx := 0, cidx := 0, desc := descOf kind }

theorem witness_JobsPassThroughTheirStates :
    (∀ kind ∈ [0, 1, 3, 4], dsKind (descOf kind) = kind ∧ ((waiting kind).chan 9).st = .run ∧ (waiting kind).stoodDown = false ∧
      dsNotBefore (descOf kind) ≤ (waiting kind).stroke ∧ ((waiting kind).chan 9).pend = none ∧ ((waiting kind).chan 9).wbPending = false) ∧
    (waiting 1).freeReeve.isSome = true ∧ 3 ≤ (waiting 1).power.step ∧
    (let d := channel { st := .run, tail := 1 }
     d.hostServes 0 = true ∧ ixAdvance 16 0 1 = 1 ∧ ixAdvance 16 0 0 = 0) ∧
    (let d := channel { st := .run, fetched := [{ jidx := 0, desc := 0 }] }
     (d.chan 9).pauseOwed = none ∧ d.computeOff = false ∧ d.tagFree 9 = true ∧ d.slotFree 9 = true ∧ d.placesServe entry16 = true ∧ d.farSlotFree entry16 0 = true ∧ hasNear entry16 = true ∧
     d.rangeLost (nearRecPa 3 0) 128 = false ∧ d.rangeLost (nearRecPa 3 1) 128 = false ∧ d.mem.wf = true ∧ d.power.mute = false) := by
  decide

theorem witness_JobsPassThroughTheirStates_fetch :
    let d := channel { st := .run, tail := 1 }
    (∃ v d1, (d.useEntry 9).readFor 4 (ringPa entry16 (entJrBase entry16) + 0 % 2 ^ 20 * 64) 64 = (.ok v, d1)) ∧
    (∃ d1, (({ d with poison := [0x10000] } : Device).useEntry 9).readFor 4 (ringPa entry16 (entJrBase entry16) + 0 % 2 ^ 20 * 64) 64 = (.poison, d1)) ∧
    (∃ d1, (((List.range 8).foldl (fun d k => d.setFld 16 k 0x00C 0 3 4) d).useEntry 9).readFor 4 (ringPa entry16 (entJrBase entry16) + 0 % 2 ^ 20 * 64) 64 = (.lost, d1)) := by
  exact ⟨⟨_, _, rfl⟩, ⟨_, rfl⟩, ⟨_, rfl⟩⟩

/-- Channel 9 with a whole gibibyte mapped onto HBM, owned by it, and a FILL job of two units with one left. -/
def filling (copied bytes : Nat) (st : JobState) : Device :=
  let d := (channel { st := .run, windows := [(0, 0xFFFFFFF)] }).setJob 3 { ch := 9, seq := 0, jidx := 0, cidx := 0, desc := 2 + 7 * 2 ^ 256 + 0x1000000 * 2 ^ 384 + bytes * 2 ^ 448 + 2 ^ 488, st := st, startedDurable := true, copied := copied }
  let d := d.setChan 9 { d.chan 9 with entry := some entry16, windows := [(0, 0xFFFFFFF)] }
  { d with mem := d.mem.writeBytes windowBase [0x3F] }

/-- Whether sixteen bytes translate for a write of the Sower to an address, memory in canonical form. -/
def writesAt (d : Device) (ch va pa : Nat) : Bool :=
  match d.sowerXlates ch .write (Device.pieceHolds 65520 va) (pageParts va 16) with
  | (.ok ps _, d3) => decide (ps = [(va, pa, 16)]) && d3.mem.wf
  | _ => false

theorem writesAt_spec {d : Device} {ch va pa : Nat} (h : writesAt d ch va pa = true) :
    ∃ d3 se, d.sowerXlates ch .write (Device.pieceHolds 65520 va) (pageParts va 16) = (.ok [(va, pa, 16)] se, d3) ∧ d3.mem.wf = true := by
  simp only [writesAt] at h
  split at h
  · next ps se d3 e => simp at h; exact ⟨d3, se, by rw [e, h.1], h.2⟩
  · cases h

/-- Whether a unit is moved, leaving a job under a tag. -/
def unitMoved (d : Device) (tag : Nat) (j : Job) (off : Nat) : Bool :=
  match d.copyUnit tag j off with
  | (.ok _, .write, d4) => decide (d4.job? tag = some j)
  | _ => false

theorem unitMoved_spec {d : Device} {tag : Nat} {j : Job} {off : Nat} (h : unitMoved d tag j off = true) :
    ∃ ss d4, d.copyUnit tag j off = (.ok ss, .write, d4) ∧ d4.job? tag = some j := by
  simp only [unitMoved] at h
  split at h
  · next ss d4 e => exact ⟨ss, d4, e, by simpa using h⟩
  · cases h

/-- Whether sixteen bytes of a COPY's source are read from HBM. -/
def readsAt (d : Device) (ch off va : Nat) : Bool :=
  match d.sowerXlates ch .read (Device.pieceHolds off va) [(va, 16)] with
  | (.ok qs _, d1) => decide (regionOf (d1.ownPa ((qs.map (fun p => p.2.1)).headD 0)) = .hbm) && (match d1.readParts ch greenSlice [] va qs with
      | (.ok _, _) => true
      | _ => false)
  | _ => false

set_option exponentiation.threshold 600 in
/-- The same job as a COPY from 0x2000000. -/
theorem witness_CopyAndFillMovePieces_copy :
    let d := filling 65520 65536 .running
    let d := d.setJob 3 { ch := 9, seq := 0, jidx := 0, cidx := 0, desc := 2 + 0x2000000 * 2 ^ 256 + 0x1000000 * 2 ^ 384 + 65536 * 2 ^ 448, st := .running, startedDurable := true, copied := 65520 }
    (∃ j, d.job? 3 = some j ∧ j.copyBuf = none ∧ dsFill j.desc = false ∧ dsKind j.desc = 2 ∧ d.pieceWaits j = false) ∧
    readsAt d 9 65520 (0x2000000 + 65520) = true ∧ writesAt d 9 (0x1000000 + 65520) (0x1000000 + 65520) = true := by
  refine ⟨⟨_, rfl, ?_⟩, ?_, ?_⟩ <;> decide +kernel

set_option exponentiation.threshold 600 in
theorem witness_CopyAndFillMovePieces :
    (∀ st ∈ [JobState.waiting, JobState.running], ∃ j, (filling 65520 65536 st).job? 3 = some j ∧ dsKind j.desc = 2 ∧ dsFill j.desc = true ∧ j.copied < dsBytes j.desc ∧
      4096 - j.copied % 65536 / 16 = 1 ∧ ((filling 65520 65536 st).chan 9).quota = 0 ∧ (filling 65520 65536 st).pieceWaits j = false ∧ dsNotBefore j.desc = 0) ∧
    (let d := filling 65520 65536 .running
     ∃ j, d.job? 3 = some j ∧ (∃ d3 se, d.sowerXlates 9 .write (Device.pieceHolds 65520 (dsDst j.desc + 65520)) (pageParts (dsDst j.desc + 65520) 16) = (.ok [(dsDst j.desc + 65520, dsDst j.desc + 65520, 16)] se, d3) ∧ d3.mem.wf = true) ∧
       (∃ ss d4, d.copyUnit 3 j 65520 = (.ok ss, .write, d4) ∧ d4.job? 3 = some j)) := by
  refine ⟨?_, ?_⟩
  · intro st hst
    simp at hst
    rcases hst with rfl | rfl <;> exact ⟨_, rfl, by decide, by decide, by decide, by decide, by decide, by decide, by decide⟩
  · exact ⟨_, rfl, writesAt_spec (by decide +kernel), unitMoved_spec (by decide +kernel)⟩

/-- Channel 9 in a state with one job of a state under tag 3. -/
def withJob (c : Channel) (j : Job) : Device := (channel c).setJob 3 { j with ch := 9 }

theorem witness_ChannelsKeepTheirRecords :
    (let j : Job := { ch := 9, seq := 0, jidx := 0, cidx := 0, desc := 0, st := .finished, finishDurable := true }
     let d := withJob { st := .run } j
     d.oldestOpen 9 = some (3, j) ∧ d.farOwed 3 = false ∧ d.latent = [] ∧ d.computeOff = false ∧ (d.chan 9).mirror ≠ .mirrored ∧ d.power.mute = false ∧ regionOf (Device.crPa (d.entry 9) 0) = .hbm ∧ d.mem.wf = true ∧
     ((d.useEntry 9).writeFor 4 (Device.crPa (d.entry 9) 0) (bytesOf 32 (d.recordOf j 0))).1 = .ok 0 ∧
     (((List.range 8).foldl (fun d k => d.setFld 16 k 0x00C 0 3 4) d).writeFails (Device.crPa (d.entry 9) 0) (bytesOf 32 (d.recordOf j 0))).isSome = true) ∧
    (let f : JobFault := { cause := 1, access := 0, instr := 0, element := 0, addr := 0, place := .copy }
     let j : Job := { ch := 9, seq := 0, jidx := 0, cidx := 0, desc := 0, st := .parked, faults := [f] }
     let d := withJob { st := .run } j
     d.unposted 9 = some (3, j, f) ∧ ringDist 16 0 0 < 16 ∧ d.placesServe (d.entry 9) = true ∧ (d.writeHigh (Device.fqPa (d.entry 9) 0) (bytesOf 32 0)).1 = .ok 0) ∧
    (let j : Job := { ch := 9, seq := 0, jidx := 0, cidx := 0, desc := 0, st := .complete }
     let d := withJob { st := .draining } j
     (d.retireList 9 0 64).length = 1 ∧ d.placesServe (d.entry 9) = true ∧ (d.jobsOf 9).all (fun y => y.2.st = .complete) = true) ∧
    (let d := (channel {}).setChan 9 { st := .enabling }
     (d.readFor 4 (d.entryPa 9) 128).1 = .ok 0 ∧ (d.chan 9).adopting = none ∧ (d.chan 9).waits = [] ∧ ent 0 0 0 1 = 0 ∧ (d.chans.filter (fun x => x.2.entry.isSome)).length < 512) ∧
    CanWrite (channel {}) .tally 4 0 0x04C (9 + 2 ^ 31) = true ∧ (channel {}).fld 4 0 0x04C 31 1 = 0 ∧
    ((channel {}).setRg 4 0 0x04C (9 + 2 ^ 31)).fld 4 0 0x04C 31 1 = 1 ∧
    field 0x10000 16 8 ≠ 0 ∧ field 0 3 5 = 0 := by decide +kernel

/-- A sound entry of one window, all of HBM below the reserved range, in place at the table's base. -/
def soundEntry : Nat := entry16 + 1 * 2 ^ (8 * 0x20 + 16) + 0x40000 * 2 ^ (8 * 0x58) + 1 * 2 ^ (8 * 0x60)

def entryStored : Device :=
  let d := (hosted.setChan 9 { st := .enabling }).setRg 4 0 0x048 1
  { d with mem := (d.mem.writeBytes (windowBase + d.entryPa 9) (bytesOf 128 soundEntry)).writeBytes (windowBase + 0x40000) (bytesOf 16 (0xFFFFFFF * 2 ^ 64)) }

set_option exponentiation.threshold 1100 in
theorem witness_ChannelsKeepTheirRecords_load :
    (entryStored.readFor 4 (entryStored.entryPa 9) 128).1 = .ok soundEntry ∧ entryStored.entryPasses soundEntry = true ∧
    (entryStored.readWindows (ent soundEntry 0x58 0 64) (ent soundEntry 0x60 0 7)).1 = .ok 0 := by decide +kernel

theorem witness_SwapsAreNamedAndBanksSwitched :
    (let d := ready.setCroft 16 { st := 2 }
     CanWrite d .tally 11 0 0x044 (0 + 3 * 2 ^ 4 + 2 ^ 31) = true ∧ d.fld 11 0 0x044 31 1 = 0 ∧ (d.croft 3).st ≠ 2 ∧ (d.croft 3).st ≠ 4 ∧
     (d.croft 3).retiring = false ∧ (d.seedCroft (Device.hamletOf 3)).isSome = true ∧ (ready.seedCroft (Device.hamletOf 3)).isSome = false) ∧
    (let d := (ready.setBankState 5 1).setBankState 130 2
     CanWrite d .tally 11 0 0x044 (1 + 5 * 2 ^ 4 + 2 ^ 31) = true ∧ d.bankState 5 = 1 ∧ d.seedBanks (bankDie 5) ≠ []) ∧
    (ready.setFld 11 0 0x044 31 1 1).fld 11 0 0x044 31 1 = 1 ∧
    (let d : Device := { ready with spare := { copying := [(5, 130, 0)] } }
     d.logicalOf 5 = some 5 ∧ d.bankErrors 5 = [] ∧ d.midStrip = [] ∧ (d.setCroft 20 { st := 1, strips := [{ tk := ticket, e := 0, ckE := 0 }] }).midStrip ≠ []) := by decide

theorem witness_HbmPlacementIsOneToOne :
    0x1234567890 < 0x4800000000 ∧ hbmPlace 0x1234567890 = (2, 3, 0x12345690) ∧ hbmChannel 0x1234577890 = 227 ∧ hbmPlace 0x1234577890 = (7, 3, 0x12345690) := by decide

theorem witness_ArbitrationConfigurationWaitsForTheWindow :
    (∀ v ∈ [0x04000100, 0x04000000, 0x003F0001, 0x00400041, 0x00400040], CanWrite ready .tally 16 7 0x040 v = true ∧ CanWrite ready .tally 17 0 0x040 v = true) ∧
    ready.locked 16 7 = false ∧ ready.locked 17 0 = false := by decide

theorem witness_InvalidationsRemoveWhatTheyName :
    (∀ v, CanWrite ready .tally 5 0 0x044 v = true ∧ CanWrite ready .tally 5 0 0x048 v = true ∧ CanWrite ready .tally 5 0 0x04C v = true ∧
      CanWrite hosted (.host 1 0) 5 0 0x044 v = true ∧ CanWrite hosted (.host 1 0) 5 0 0x048 v = true ∧ CanWrite hosted (.host 1 0) 5 0 0x04C v = true ∧
      CanWrite ready .tally 5 0 0x0BC v = true ∧ CanWrite ready .tally 5 0 0x080 v = true) ∧
    viaMatrix .tally = true ∧ viaMatrix (.host 1 0) = false ∧ ready.fld 5 0 0x04C 31 1 = 0 ∧ ready.xlt.fwInv.2.2.testBit 31 = false ∧ ready.locked 5 0 = false ∧
    (let d := ready.setRg 5 0 0x04C (2 ^ 31)
     d.fld 5 0 0x04C 31 1 = 1 ∧ d.xlt.invWait = []) ∧
    (let x : Strip := { tk := ticket, e := 0, ckE := 0 }
     let d := ready.setCroft 0 { strips := [x] }
     let u : InvUse := .strip 0 (d.croft 0).gen x.tk.job x.tk.instr x.tk.strip
     let d : Device := { d with xlt := { invWait := [u], fwWait := [u], fwInv := (0, 0, 2 ^ 31) } }
     d.xlt.fwInv.2.2.testBit 31 = true ∧ ∃ w ∈ d.xlt.invWait, d.stillUsing w = true) ∧
    (let d : Device := { ready with xlt := { fwInv := (0, 0, 2 ^ 31) } }
     d.xlt.fwInv.2.2.testBit 31 = true ∧ d.xlt.fwWait = []) := by
  refine ⟨fun v => ⟨rfl, rfl, rfl, rfl, rfl, rfl, rfl, rfl⟩, by decide, by decide, by decide, by decide, by decide, by decide, by decide, by decide⟩

theorem witness_MemoryAtomicsScrubAndLoss :
    (let d := ready
     regionOf 0x10 = .hbm ∧ regionOf granaryBase = .granary ∧ regionOf (3 * 2 ^ 52) = .pool 0 ∧ d.rangeLost 0x10 16 = false ∧ d.rangePoison 0x10 16 = false ∧
     d.mem.wf = true ∧ d.computeOff = false ∧ d.latent = [] ∧ unitBase 0x10 = 0 ∧ ({ d with poison := [0] } : Device).rangePoison 0x10 16 = true ∧ ({ d with poison := [granaryBase] } : Device).rangePoison granaryBase 16 = true) ∧
    (let d := (ready.setFld 16 0 0x048 8 1 1).setFld 16 0 0x00C 0 3 2
     (hbmPlace 0x10).1 = 0 ∧ (hbmPlace 0x10).2.1 ≠ 31 ∧ d.computeOff = false ∧ d.fld 16 0 0x048 8 1 = 1 ∧ d.stackState 0 = 2) ∧
    (ready.setFld 17 0 0x044 16 1 1).fld 17 0 0x044 16 1 = 1 ∧ ready.stackState 7 ≠ 4 := by decide

theorem witness_MailboxesNumberTheirWords :
    (∀ v, CanWrite ready .tally 13 2 0x040 v = true ∧ CanWrite ready .tally 13 2 0x044 v = true ∧ CanWrite hosted (.host 1 0) 13 2 0x044 v = true ∧
      CanWrite ready (.reeve 2) 22 2 0x044 v = true ∧ CanWrite ready .tally 20 0 0x040 v = true) ∧
    CanRead ready .tally 13 2 0x048 = true ∧ CanRead ready (.reeve 2) 22 2 0x048 = true ∧ ready.servedBy 2 = some 2 ∧
    (ready.setReeve 2 { st := 3 }).servedBy 2 = none := by
  refine ⟨fun v => ⟨rfl, rfl, rfl, rfl, rfl⟩, by decide, by decide, by decide, by decide⟩

/-- Channel 3 of housekeeping DMA BUSY with an operation over 48 bytes of control SRAM. -/
def dma (op : Nat) (dst : Nat := sramBase + 0x100) : Device :=
  let d := ((ready.setRg 21 0 (hkdBase 3) sramBase).setRg 21 0 (hkdBase 3 + 8) dst).setRg 21 0 (hkdBase 3 + 0x10) 48
  (d.setRg 21 0 (hkdBase 3 + 0x24) op).setRg 21 0 (hkdBase 3 + 0x28) 1

theorem witness_HousekeepingDmaMovesBursts :
    (∀ v, CanWrite ready .tally 21 0 (hkdBase 3 + 0x24) v = true ∧ CanWrite ready (.reeve 1) 21 0 (hkdBase 7 + 0x24) v = true ∧ CanWrite ready .tally 21 0 0x040 v = true) ∧
    (∀ op ∈ [0, 1, 2], (dma op).hkdDue = some 3 ∧ (dma op).hkdOp 3 = op ∧ (dma op).hkdLen 3 = 48 ∧ (dma op).hkdDone 3 = 0 ∧ (dma op).hkdSrc 3 = sramBase ∧
      (dma op).hkdDst 3 = sramBase + 0x100 ∧ (dma op).hkdState 3 = 1 ∧ 3 ≤ (dma op).power.step) ∧
    inSram (sramBase + 0x100) 48 ∧ inSram sramBase 48 ∧ ready.mem.wf = true ∧ (dma 1 0x40000000).target 0x40000000 = .hole ∧ (dma 1 0x40000000).hkdDst 3 = 0x40000000 ∧
    ready.hkdState 3 = 0 ∧ (let d := (((((dma 1 0x40000000).setRg 21 0 (hkdBase 6 + 8) 0x40000000).setRg 21 0 (hkdBase 6 + 0x10) 48).setRg 21 0 (hkdBase 6 + 0x24) 1).setRg 21 0 (hkdBase 6 + 0x28) 1)
     d.hkdDue = some 3 ∧ ((List.range 7).map (fun k => (3 + 1 + k) % 8)).find? (fun j => decide (d.hkdState j = 1)) = some 6 ∧
     ∀ c ∈ [3, 6], d.hkdDone c < d.hkdLen c ∧ d.hkdOp c = 1 ∧ d.target (d.hkdDst c + d.hkdDone c) = .hole ∧ (d.hkdDst c + d.hkdDone c) % 16 = 0) ∧
    (List.range 48).all (fun k => (ready.latent.find? (greenUnit (sramBase + k))).isNone) = true ∧
    (ready.setRg 21 0 0x010 256).fld 21 0 0x010 8 1 = 1 ∧ ready.fld 21 0 0x010 8 1 = 0 := by
  refine ⟨fun v => ⟨rfl, rfl, rfl⟩, by decide, ⟨by decide, by decide⟩, ⟨by decide, by decide⟩, by decide, by decide, by decide, by decide, by decide, by decide, by decide, by decide⟩

theorem witness_HdmWritesAreAppliedOrDropped :
    (∀ b : Bool, let d := decoded b
      (d.host 0).up = true ∧ (d.host 0).memEn = true ∧ (d.host 0).hdm = some (0x4000000000, 0x4800000000) ∧ d.power.memActive = b ∧ d.ideBlocked 0 = false ∧
      d.rangeLost 0x40 64 = false ∧ d.computeOff = false ∧ d.latent = [] ∧ d.mem.wf = true ∧ 0x40 + 64 ≤ d.reservedBase ∧ (0x4040000000 - 0x4000000000) / 64 * 64 < hbmSize ∧
      d.reservedBase < 0x47FFFFFFC0 + 64) ∧
    ((List.range 8).foldl (fun d k => d.setFld 16 k 0x00C 0 3 4) (decoded true)).rangeLost 0x40 64 = true := by
  refine ⟨?_, by decide⟩
  intro b
  cases b <;> decide

theorem witness_HostRequestsAreServed :
    (let d := decoded true
     (d.host 0).up = true ∧ d.power.memActive = true ∧ d.ideBlocked 0 = false ∧ 0x40 + 64 ≤ d.reservedBase ∧ d.rangeLost 0x40 64 = false ∧ d.rangePoison 0x40 64 = false ∧ d.computeOff = false ∧ d.latent = []) ∧
    (decoded false).power.memActive = false ∧ (hosted.host 0).cacheEn = true ∧ (hosted.setHost 0 {}).hostServes 0 = false ∧
    Device.msixOpen { msixEn := [0], msix := [(5, 0)] } 0 5 = true ∧ Device.msixOpen {} 0 5 = false ∧
    hosted.fnEnabled 1 2 = true ∧ (2 : Nat) ∉ (hosted.host 1).d3 ∧ hosted.ideBlocked 1 = false ∧
    CanWrite hosted .tally 6 1 0x040 6 = true ∧ hosted.locked 6 1 = false ∧
    hosted.hostMay 1 0 true = true ∧ hosted.hostMay 1 2 true = true ∧ hosted.hostMay 1 0 false = true ∧ hosted.ready = true ∧
    regKey 9 0 0x040 + 4 ≤ Device.barSize 0 0 ∧ 9 * 0x1000 + 4 ≤ Device.barSize 2 2 := by decide

theorem witness_HostRequestsAreServed_two :
    ∃ t1, exec (.barAccess 1 0 0 (regKey 5 0 0x044) 4 (some [1, 2, 3, 4])) (on hosted) = .next t1 ∧ t1.dev.hostMay 1 0 true = true := ⟨_, rfl, by decide⟩

/-- A hosted module locked to its BELL input at stroke 100, with 1 ms strokes. -/
def following (code : Nat) : Device :=
  let d := hosted.setFld 7 0 0x040 0 3 code
  { d with bell := { stroke := 100, state := 2, source := code, holdover := some 200000, sources := [(code, { stroke := 100, period := 2, free := false, hops := 0, origin := 0, run := 3 })] } }

/-- A BELL frame of a stroke at 1 ms. -/
def frameOf (stroke : Nat) : Nat := let v := 0xD5 + stroke * 2 ^ 8 + 2 * 2 ^ 48; v + crc32c (bytesOf 8 v) * 2 ^ 64

theorem witness_BellTimeFollowsItsSource :
    hosted.power.vnw = true ∧ field 0 0 8 ≠ 0xD5 ∧
    (∀ n ∈ [101, 103, 90, 1], let v := frameOf n
      field v 0 8 = 0xD5 ∧ field v 52 12 = 0 ∧ field v 64 32 = crc32c (bytesOf 8 v) ∧ field v 48 3 ≤ 4 ∧ field v 8 40 = n) ∧
    (∀ code ∈ [1, 5], let d := following code
      d.power.vnw = true ∧ (d.bell.sources.find? code).isSome = true ∧ d.bell.source = code ∧ d.bell.behind = false ∧ d.fld 7 0 0x040 0 3 = code ∧
      ¬ (d.bell.stroke = lastStroke ∧ d.bell.phase = 2 ^ 24 - 1) ∧ d.fld 7 0 0x040 8 8 = 64) ∧
    wholePeriods 2 200100 = some 1 ∧ wholePeriods 2 300000 = none ∧
    ((following 5).setFld 8 1 0x00C 0 3 2).alnUp 1 = true ∧ (following 5).fld 8 1 0x040 1 1 = 1 ∧ (following 5).fld 8 1 0x040 2 1 = 1 ∧
    hosted.bell.source = 2 ∧ hosted.bell.stroke < lastStroke ∧ (following 5).bell.stroke < lastStroke ∧
    CanWrite hosted .tally 7 0 0x040 0x33 = true ∧ ((hosted.setPort 1 { delayN := 255 }).port 1).delayN = 255 := by decide +kernel

theorem witness_RingLinksDeliverInOrder :
    (let d := ringed
     d.alnUp 1 = true ∧ d.hostMay 1 0 true = true ∧ d.ready = true ∧ d.fld 8 1 0x008 0 1 = 0 ∧ d.assigned = true ∧ d.moduleId = 5 ∧ d.ring.links.find? 6 = none ∧
     CanWrite d .tally 8 0 0x048 0x1009 = true ∧ d.locked 8 0 = false ∧ CanWrite d .tally 8 0 0x0C0 0x19 = true ∧ CanWrite d .tally 8 0 0x0FC 1 = true) ∧
    ((ringed.setPort 1 { unacked := [(3, { kind := 1, dest := 6, src := 5 }), (4, { kind := 2, dest := 6, src := 5 })] }).port 1).naks < 63 ∧
    ((ringed.setPort 1 { naks := 63 }).port 1).naks = 63 ∧
    (let d : Device := { ringed with spare := { ringed.spare with lanesUsed := [1] } }
     d.rg 8 1 0x00C % 8 = 2 ∧ d.spare.lanesUsed = [1]) := by decide

/-- Module 5 of the ring with its first mebibyte open to peers for reads and writes. -/
def opened : Device := ringed.setRg 8 0 0x0C0 (1 + 20 * 2 + 2 ^ 7)

theorem open_to_peers (w : Bool) : OpenToPeers opened 0x40 16 w := ⟨0, by decide, by decide, by decide, by decide, fun _ => by decide⟩

theorem witness_RingFramesAreServed :
    (let d := opened
     d.alnUp 1 = true ∧ d.assigned = true ∧ d.moduleId = 5 ∧ d.fld 8 0 0x048 13 1 = 0 ∧ d.computeOff = false ∧ d.stoodDown = false ∧ d.mem.wf = true ∧
     0x40 + 256 ≤ d.reservedBase ∧ d.rangeLost 0x40 16 = false ∧ d.rangePoison 0x40 16 = false ∧
     d.rangeLost (0x47FE000000 + (6 * 256 + 3) * 32) 32 = false ∧ d.rangePoison (0x47FE000000 + (6 * 256 + 3) * 32) 32 = false ∧ d.latent = [] ∧ d.routeOf 9 = none ∧
     d.routeOf 6 = some (1, 1, 400) ∧ (d.port 1).queue = [] ∧ (d.port 1).unacked = [] ∧ 10 ≤ (d.port 1).credits.get 0 2 ∧ 10 ≤ (d.port 1).credits.get 0 0 ∧ 0 < d.fld 8 0 0x054 16 2) ∧
    ((opened.setFld 8 0 0x048 13 1 1).fld 8 0 0x048 13 1 = 1) ∧ ({ opened with poison := [0x40] } : Device).rangePoison 0x40 16 = true ∧
    (∃ r l, ({ opened with ring := { opened.ring with far := [{ frame := { kind := 1, dest := 6, src := 5 }, n := 16 }] } } : Device).ring.far = r :: l ∧ r.resp = none) := by
  refine ⟨by decide, by decide, by decide, _, [], rfl, rfl⟩

set_option exponentiation.threshold 1100 in
theorem witness_MirrorAndLeaseAreKept :
    (let d := mirrored { mirror := .mirrored, missed := 2, ledgerQ := [{ tag := 3, step := 3, sent := true }], leaseUnread := some 8, mirrorOut := [0, 0x1000, 0] }
     d.alnUp 1 = true ∧ d.assigned = true ∧ d.moduleId = 5 ∧ d.fld 8 0 0x048 13 1 = 0 ∧ d.routeOf 6 = some (1, 1, 400) ∧ (d.port 1).queue = [] ∧ (d.port 1).unacked = [] ∧
     10 ≤ (d.port 1).credits.get 0 2 ∧ 10 ≤ (d.port 1).credits.get 0 4 ∧ d.fld 3 0 0x04C 8 1 = 1 ∧ entLedger farEntry = 1 ∧ entRingSpace farEntry = 0 ∧
     2 ^ farRecLog2 farEntry * 128 ≤ d.fld 3 0 0x040 8 8 * 2 ^ 28 ∧ d.fld 1 0 0x040 6 2 = 2 ∧ entUnderstudyEn (d.entry 9) = true ∧ entUnderstudy (d.entry 9) = 6 ∧
     (d.chan 9).mirror = .mirrored ∧ (d.readPa (farBase (d.entry 9)) 64).1 = .ok 0 ∧ field 0 0 12 ≠ d.moduleId) ∧
    (let d : Device := { mirrored {} with ledger := { setups := [{ origin := 6, channel := 2, entry := farEntry }] } }
     d.ledger.setups.find? (fun y => y.origin = 6 && y.channel = 2) = some { origin := 6, channel := 2, entry := farEntry }) ∧
    (let v := putField 0 480 32 (crc32c (bytesOf 60 0)); field v 480 32 = crc32c (bytesOf 60 v)) ∧ recValid (putField 0 480 32 (recCheck 0)) = true ∧
    ((mirrored { mirror := .unmirrored }).jobsOf 9).length = 0 ∧
    (let h := putField 5 128 40 8; field (hdrSeal h) 480 32 = crc32c (bytesOf 60 (hdrSeal h)) ∧ field (hdrSeal h) 0 12 = 5 ∧ field (hdrSeal h) 128 40 = 8) := by decide +kernel

/-- Channel 9 about to recover. -/
def recovers : Device := mirrored { st := .enabling, recovering := true }

/-- A header that module 6 owns, sealed. -/
def otherHeader : Nat := hdrSeal (6 + 2 ^ 12)

set_option exponentiation.threshold 1100 in
theorem witness_ChannelsAreRecoveredAndAdopted :
    (let d := recovers
     (d.chan 9).recovering = true ∧ (d.chan 9).st = .enabling ∧ (d.chan 9).entry.isSome = true ∧ (d.chan 9).hold = none ∧ (d.chan 9).abortAfter = false ∧
     d.readHeader 9 = .ok 0 ∧ field 0 12 1 = 0 ∧ d.recsOf 9 0 none = [] ∧ hasFar (d.entry 9) = true ∧ d.crofts = []) ∧
    (let d := { recovers with mem := recovers.mem.writeBytes (windowBase + farBase farEntry) (bytesOf 64 otherHeader) }
     d.readHeader 9 = .ok otherHeader ∧ field otherHeader 12 1 = 1 ∧ field otherHeader 0 12 ≠ d.moduleId) ∧
    (let d := { recovers with mem := recovers.mem.writeBytes (windowBase + farBase farEntry) [1] }
     d.readHeader 9 = .lost) := by decide +kernel

/-- Module 5 with channel 2 of module 6 in its mirror store, its far header in host memory, and channels 30 to 33 free for adoption. -/
def adopting : Device :=
  let d := ((mirrored {}).setRg 3 0 0x048 (30 + 4 * 2 ^ 12)).setRg 4 0 0x048 1
  { d with ledger := { setups := [{ origin := 6, channel := 2, entry := farEntry, command := true }] }
           mem := d.mem.writeBytes (windowBase + farBase farEntry) (bytesOf 64 otherHeader) }

set_option exponentiation.threshold 1100 in
theorem witness_ChannelsAreRecoveredAndAdopted_two :
    (let d := adopting
     let a := farBase (putField farEntry 16 8 (d.fld 3 0 0x04C 0 8))
     d.ledger.setups.find? (fun y => y.origin = 6 && y.channel = 2) = some { origin := 6, channel := 2, entry := farEntry, command := true } ∧
     d.fld 3 0 0x04C 7 1 = 0 ∧ d.hostServes 0 = true ∧ regionOf a = .host 0 ∧ d.mem.readLE (windowBase + a) 64 = otherHeader ∧ hdrValid otherHeader = true ∧
     d.mem.wf = true ∧ field otherHeader 12 1 = 1 ∧ field otherHeader 0 12 = 6 ∧ field otherHeader 14 1 = 0 ∧
     d.fld 3 0 0x048 0 12 = 30 ∧ d.fld 3 0 0x048 12 13 = 4 ∧ (d.chan 30).st = .off ∧ d.ledger.adoptLog.length < 64 ∧
     regionOf (d.entryPa 30) = .hbm) ∧
    CanWrite adopting .tally 3 0 0x050 (6 + 2 ^ 31) = true ∧ adopting.fld 3 0 0x050 31 1 = 0 ∧ CanWrite adopting .tally 3 0 0x05C (2 + 2 ^ 12) = true ∧
    (adopting.chan 2).st = .off ∧ adopting.computeOff = false ∧ adopting.rangeLost 0x47FC000000 64 = false ∧ CanWrite adopting .tally 3 0 0x040 0x105 = true ∧ adopting.locked 3 0 = false := by decide +kernel

theorem witness_GateSessionsOpenAndClose :
    gated.endpointUp 0 = true ∧ gated.gate.session.isSome = false ∧ (gated.gate.slots.get {} 2).state = 1 ∧ ¬ gated.bellNow < (gated.gate.slots.get {} 2).until_ ∧
    gated.gate.lifecycle = 1 ∧ gated.gate.tamper = false ∧ gated.gate.sids.length < 65535 ∧ (List.replicate 32 (0 : Byte)).length = 32 ∧
    (gated.gate.slots.get {} 1).state ≠ 1 ∧ (inSession 2).gate.session.isSome = true ∧ (inSession 2).endpointUp 0 = true ∧
    hosted.gate.lifecycle = 0 ∧ hosted.endpointUp 0 = true ∧ hosted.endpointUp 1 = true ∧ gated.power.vnw = true ∧ 3 ≤ gated.power.step ∧ gated.power.standby = false ∧
    gated.fld 9 0 0x00C 0 3 ≠ 5 ∧ asleep.power.vnw = true ∧ ¬ 3 ≤ asleep.power.step := by decide

theorem witness_GateSessionsOpenAndClose_prove :
    ∃ (o : Opening) (m : GateMsg), ({ gated with gate := { gated.gate with opening := some o } } : Device).gate.opening = some o ∧ o.binding = m.binding ∧ o.slot = m.slot ∧ m.args = [] ∧
      m.mac = Config.hmacSha384 (gated.gate.slots.get {} o.slot).key (0x02 :: bytesOf 32 o.nm ++ bytesOf 32 o.nh ++ bytesOf 16 gated.gate.serial) :=
  ⟨{ slot := 2, binding := 0, nh := 1, nm := 2 }, { binding := 0, slot := 2, mac := _ }, rfl, rfl, rfl, rfl, rfl⟩

theorem witness_GateSessionsOpenAndClose_close :
    ∃ (x : Session) (m : GateMsg), (inSession 2).gate.session = some x ∧ x.seqIn < 2 ^ 32 - 1 ∧ Authentic x m 0x1F m.args :=
  ⟨_, { binding := 0, sid := 7, seq := 1, mac := Config.hmacSha384 5 (0x10 :: bytesOf 2 7 ++ bytesOf 4 1 ++ (BitVec.ofNat 8 0x1F :: [])) }, rfl, by decide, by decide, rfl, rfl, rfl⟩

theorem authentic_message (n code : Nat) (a : List Byte) (ha : a.length < 920) :
    ∃ (x : Session) (m : GateMsg), (inSession n).gate.session = some x ∧ x.slot = n ∧ (inSession n).endpointUp m.binding = true ∧ x.seqIn < 2 ^ 32 - 1 ∧ m.args = a ∧
      Authentic x m 0x10 (BitVec.ofNat 8 code :: a) :=
  ⟨_, { binding := 0, sid := 7, seq := 1, args := a, mac := Config.hmacSha384 5 (0x10 :: bytesOf 2 7 ++ bytesOf 4 1 ++ (BitVec.ofNat 8 0x10 :: BitVec.ofNat 8 code :: a)) },
    rfl, rfl, show gated.endpointUp 0 = true by decide, show (0 : Nat) < 2 ^ 32 - 1 by decide, rfl, ha, rfl, rfl, rfl⟩

theorem witness_GateCommandsAct :
    (∀ n ∈ [0, 2], ∀ code ∈ [1, 2, 3, 4, 5, 6, 7, 8, 9, 0xA, 0xB], ∀ a : List Byte, a.length < 920 → ∃ (x : Session) (m : GateMsg), (inSession n).gate.session = some x ∧ x.slot = n ∧
      (inSession n).endpointUp m.binding = true ∧ x.seqIn < 2 ^ 32 - 1 ∧ m.args = a ∧ Authentic x m 0x10 (BitVec.ofNat 8 code :: a)) ∧
    (let k := (inSession 2).gate.slots.get {} 2
     k.rights.testBit 0 = true ∧ k.rights.testBit 3 = true ∧ k.rights.testBit 5 = false) ∧ (inSession 0).fld 8 0 0x01C 0 1 = 0 ∧ (inSession 0).gate.lifecycle < 2 ∧
    (∀ e ∈ (inSession 0).chans, e.2.st = .off) ∧ (inSession 0).gate.transfer = false ∧ (inSession 0).gate.pendingBank = false :=
  ⟨fun n _ code _ a ha => authentic_message n code a ha, by decide, by decide, by decide, by decide, by decide, by decide⟩

theorem witness_ManagementRequestsAreServed :
    (inSession 0).endpointUp 0 = true ∧ (∃ x, (inSession 0).gate.session = some x ∧ x.binding = 0 ∧ (x.slot = 0 ∨ ((inSession 0).gate.slots.get {} x.slot).rights.testBit 6 = true)) ∧
    ({ inSession 0 with gate := { (inSession 0).gate with transfer := true } } : Device).gate.transfer = true ∧ (inSession 0).gate.bankB.valid = false ∧
    ({ inSession 0 with gate := { (inSession 0).gate with bankB := {} } } : Device).gate.bankB.valid = true ∧ hosted.endpointUp 2 = true :=
  ⟨by decide, ⟨_, rfl, rfl, .inl rfl⟩, by decide, by decide, by decide, by decide⟩

theorem witness_TallyPortReadsAndWrites :
    (inTally 2).power.vnw = true ∧ (inTally 2).dbg.inStep = true ∧ CanWrite (inTally 0) .tally 14 0 0x060 1 = true ∧ hosted.dbg.inStep = false ∧ hosted.power.vnw = true ∧
    crc8 0x50 8 < 256 ∧ 0x50 % 4 = 0 ∧ 0x50 / 4 * 4 = 0x050 ∧ (0x51 : Nat) % 4 = 1 ∧ (0x0C : Nat) / 4 * 4 = 0x00C ∧ (0x6C : Nat) / 4 * 4 = 0x06C ∧
    Device.implemented 14 0 0x050 = true ∧ (inTally 2).fld 14 0 0x020 1 1 = 0 ∧ (inTally 2).latches = [] ∧ (inTally 0).dbg.level < 2 ∧
    ({ inTally 2 with dbg := { (inTally 2).dbg with access := some (false, 0, 0, false) } } : Device).dbg.access.isSome = true := by decide

theorem witness_DebuggerSteersReeves :
    (let d := (inTally 2).setReeve 1 { logical := some 1, halted := true, pc := 0x40 }
     (d.reeve 1).halted = true ∧ d.dbg.level = 2 ∧ CanWrite d .tally 14 0 0x040 (2 ^ 9) = true ∧ CanWrite d (.host 1 0) 14 0 0x040 (2 ^ 17) = true ∧ CanWrite d .tally 14 0 0x040 2 = true ∧
     CanRead d (.host 1 0) 14 0 0x054 = true ∧ CanWrite d .tally 14 0 0x054 5 = true ∧ field ((d.setRg 14 0 0x050 0x10020).rg 14 0 0x050) 16 3 = 1 ∧ d.fld 14 0 0x020 1 1 = 0 ∧
     CanWrite d .tally 14 0 0x070 0xF = true ∧ CanWrite d .tally 14 0 0x06C 9 = true ∧ CanRead d .tally 14 0 0x06C = true ∧ d.dbg.access = none ∧ CanWrite d .tally 14 0 0x060 2 = true ∧
     CanWrite d .tally 14 0 0x060 (4 + 7 * 2 ^ 16) = true ∧ ((d.setRg 14 0 0x080 0x20).rg 14 0 0x080).testBit 5 = true ∧ d.bellNow < 2 ^ 64 ∧ 3 ≤ d.power.step) ∧
    (let d := (inTally 2).setReeve 1 { logical := some 1, haltReq := true }
     (d.reeve 1).haltReq = true ∧ (d.reeve 1).st = 0 ∧ (d.reeve 1).locked = false ∧ (d.reeve 1).sow = none) ∧
    (let d := (inTally 2).setReeve 1 { logical := some 1, haltReq := true, locked := true }
     (d.reeve 1).locked = true) ∧
    (let d := ({ inTally 2 with dbg := { (inTally 2).dbg with access := some (true, sramBase, 7, false), lifetime := 9 } } : Device).setRg 14 0 0x064 (sramBase % 2 ^ 32)
     let a := (d.setRg 14 0 0x068 (sramBase / 2 ^ 32)).rg 14 0 0x064 / 4 * 4 + (d.setRg 14 0 0x068 (sramBase / 2 ^ 32)).rg 14 0 0x068 * 2 ^ 32
     a = sramBase ∧ sramBase + 4 ≤ sramBase + 0x800000 ∧ d.dbg.lifetime ≠ 0xFFFF ∧ d.mem.wf = true) := by decide

set_option exponentiation.threshold 1100 in
theorem witness_MirrorAndLeaseCommandsComplete :
    (let d := mirrored { mirror := .mirrored, missed := 2 }
     d.alnUp 1 = true ∧ d.assigned = true ∧ d.moduleId = 5 ∧ d.fld 8 0 0x048 13 1 = 0 ∧ d.setupOk 6 2 farEntry = true ∧ d.setupOk 6 2 0 = false ∧
     (d.chan 9).mirror = .mirrored ∧ 2 ≤ (d.chan 9).missed) ∧
    (let d : Device := { mirrored {} with ledger := { setups := [{ origin := 6, channel := 2, entry := farEntry }] } }
     d.ledger.setups.find? (fun y => y.origin = 6 && y.channel = 2) = some { origin := 6, channel := 2, entry := farEntry }) ∧
    (let v := putField 0 480 32 (crc32c (bytesOf 60 0)); field v 480 32 = crc32c (bytesOf 60 v)) ∧
    (let d := mirrored { mirror := .refused, setupDue := true }
     (d.chan 9).entry.isSome = true ∧ entUnderstudyEn (d.entry 9) = true ∧ entUnderstudy (d.entry 9) = 6 ∧ (d.chan 9).setupDue = true ∧ (d.chan 9).mirrorOut = []) ∧
    (let d := mirrored { mirror := .unmirrored, resync := true, mirrorOut := [0] }
     (d.chan 9).mirrorOut = [0] ∧ (d.chan 9).resync = true ∧ (d.chan 9).pauseOwed = none) ∧
    (let d := mirrored { mirror := .unmirrored }
     (d.chan 9).mirror = .unmirrored ∧ (d.chan 9).resync = false ∧ (d.routeOf (entUnderstudy (d.entry 9))).isSome = true) := by decide +kernel

set_option exponentiation.threshold 1100 in
/-- A far header in host memory that holds the lease the channel waits to read back. -/
theorem witness_MirrorAndLeaseCommandsComplete_lease :
    (let d := mirrored { leaseUnread := some 8 }
     let v := hdrSeal (putField 5 128 40 8)
     let d := { d with mem := d.mem.writeBytes (windowBase + d.ownPa (farBase farEntry)) (bytesOf 64 v) }
     (d.chan 9).leaseUnread = some 8 ∧ (d.readPa (farBase (d.entry 9)) 64).1 = .ok v ∧ field v 480 32 = crc32c (bytesOf 60 v) ∧
     field v 0 12 = d.moduleId ∧ field v 128 40 = 8) := by decide +kernel

theorem witness_GateCommandsComplete :
    (∀ n ∈ [0, 2], ∀ code ∈ [1, 2, 3, 4, 5, 6, 7, 8, 9, 0xA, 0xB], ∀ a : List Byte, a.length < 920 → ∃ (x : Session) (m : GateMsg), (inSession n).gate.session = some x ∧ x.slot = n ∧
      (inSession n).endpointUp m.binding = true ∧ x.seqIn < 2 ^ 32 - 1 ∧ m.args = a ∧ Authentic x m 0x10 (BitVec.ofNat 8 code :: a)) ∧
    ((inSession 2).gate.slots.get {} 2).rights.testBit 3 = true ∧ calBounds 3 = some (-20, 0) ∧ (inSession 0).fld 8 0 0x01C 0 1 = 0 ∧ (inSession 0).gate.lifecycle < 4 ∧
    (∀ e ∈ (inSession 0).chans, e.2.st = .off) ∧ (inSession 0).gate.transfer = false ∧ (inSession 0).gate.pendingBank = false ∧ 0 < Device.maxLevel (inSession 0).gate.lifecycle :=
  ⟨fun n _ code _ a ha => authentic_message n code a ha, by decide, by decide, by decide, by decide, by decide, by decide, by decide, by decide⟩

theorem witness_PowerCommandsComplete :
    (CanWrite ready .tally 9 0 0x040 1 = true ∧ CanWrite ready .tally 9 0 0x040 3 = true ∧ viaMatrix .tally = true ∧ ready.fld 9 0 0x00C 0 3 = 1 ∧ ready.blocking = false ∧
     ready.chans = [] ∧ ready.jobs = [] ∧ ready.power.wake = none ∧ ready.power.step = 7 ∧ ready.power.gated = []) ∧
    (CanWrite (ready.setFld 9 0 0x00C 0 3 2) .tally 9 0 0x040 2 = true ∧ (ready.setFld 9 0 0x00C 0 3 2).fld 9 0 0x00C 0 3 = 2) ∧
    (ready.spare.phases = [] ∧ ready.fld 1 0 0x040 0 2 = 0 ∧ ready.power.standClass = 0 ∧ ready.bell.phase = ready.slotPhase ∧ ready.bell.state ≠ 3 ∧ ready.power.stepUp = [] ∧
     ready.sower.paceOwed = [] ∧ 600 < ready.clockOf 1) ∧
    ({ ready with sower := { clock := (1700, 1800) } } : Device).clockOf 0 < 1750 ∧
    ({ ready with spare := { phases := [(0, 1), (4, 1)] } } : Device).spare.phases = [(0, 1), (4, 1)] := by decide

end Sys2Proof.Tests
end

section
/-! PROOF. The placement of HBM addresses (R190), and its inverse. -/
namespace Sys2Proof.Machine

/-- The hash `h` of R190, from the address bits 16 and up. -/
def hbmHash (top : Nat) : Nat := top % 2 ^ 7 ^^^ top / 2 ^ 7 % 2 ^ 7 ^^^ top / 2 ^ 14 % 2 ^ 7 ^^^ top / 2 ^ 21 % 2 ^ 2

/-- The die bit `d` of R190, from the address bits 16 and up. -/
def hbmDie (top : Nat) : Nat := (top + top / 2 ^ 8 + top / 2 ^ 16) % 2

/-- The address bits 16 and up that go with a die and with bits 17 and up, which are the index's: R190 solved for bit 16. -/
def hbmTop (die t : Nat) : Nat := t * 2 + (die + t / 2 ^ 7 + t / 2 ^ 15) % 2

/-- The address placed at an offset of a stack's pseudo-channel: R190 solved for its bits, those from 16 up first and then, under their hash,
bits 14 to 8. -/
def hbmPa (stack pc off : Nat) : Nat :=
  let top := hbmTop (stack / 4) (off / 2 ^ 9)
  2 ^ 16 * top + 2 ^ 15 * (off / 2 ^ 8 % 2) + 2 ^ 8 * ((4 * pc + stack % 4) ^^^ hbmHash top) + off % 2 ^ 8

theorem hbmTop_div_two (die t : Nat) : hbmTop die t / 2 = t := by simp only [hbmTop]; omega

theorem hbmDie_hbmTop {die : Nat} (t : Nat) (h : die < 2) : hbmDie (hbmTop die t) = die := by
  have e1 : hbmTop die t / 2 ^ 8 = t / 2 ^ 7 := by simp only [hbmTop]; omega
  have e2 : hbmTop die t / 2 ^ 16 = t / 2 ^ 15 := by simp only [hbmTop]; omega
  rw [hbmDie, e1, e2, hbmTop]
  omega

theorem hbmTop_hbmDie (top : Nat) : hbmTop (hbmDie top) (top / 2) = top := by
  have e1 : top / 2 / 2 ^ 7 = top / 2 ^ 8 := by omega
  have e2 : top / 2 / 2 ^ 15 = top / 2 ^ 16 := by omega
  simp only [hbmTop, hbmDie, e1, e2]
  omega

theorem hbmHash_lt (top : Nat) : hbmHash top < 2 ^ 7 := by
  have h (n : Nat) : n % 2 ^ 7 < 2 ^ 7 := Nat.mod_lt _ (by decide)
  have h2 : top / 2 ^ 21 % 2 ^ 2 < 2 ^ 7 := by omega
  exact Nat.xor_lt_two_pow (Nat.xor_lt_two_pow (Nat.xor_lt_two_pow (h _) (h _)) (h _)) h2

/-- On one-bit values exclusive or is the sum modulo 2. -/
theorem xor3_bits (a b c : Nat) : a % 2 ^ 1 ^^^ b % 2 ^ 1 ^^^ c % 2 ^ 1 = (a + b + c) % 2 := by
  have h : (a % 2 ^ 1 ^^^ b % 2 ^ 1 ^^^ c % 2 ^ 1) < 2 ^ 1 :=
    Nat.xor_lt_two_pow (Nat.xor_lt_two_pow (Nat.mod_lt _ (by decide)) (Nat.mod_lt _ (by decide))) (Nat.mod_lt _ (by decide))
  rw [← Nat.mod_eq_of_lt h, pow_one, Nat.xor_mod_two_eq, ← Nat.mod_add_mod, Nat.xor_mod_two_eq]
  omega

/-- R190, said of the address's parts: its bits from 16 up, bit 15, bits 14 to 8 and the byte of the granule. -/
theorem hbmPlace_eq (pa : Nat) :
    let top := pa / 2 ^ 16
    let c := pa / 2 ^ 8 % 2 ^ 7 ^^^ hbmHash top
    hbmPlace pa = (4 * hbmDie top + c % 4, c / 4, 256 * (2 * (top / 2 % 2 ^ 22) + pa / 2 ^ 15 % 2) + pa % 2 ^ 8) := by
  have hd : (pa / 2 ^ 16 % 2 + pa / 2 ^ 24 % 2 + pa / 2 ^ 32 % 2) % 2 = hbmDie (pa / 2 ^ 16) := by simp only [hbmDie]; omega
  simp only [hbmPlace, field_eq, hbmHash, ← hd, Nat.div_div_eq_div_mul, ← Nat.pow_add, pow_one]
  rfl

theorem hbmPlace_parts {top b g o : Nat} (ht : top < 2 ^ 23) (hb : b < 2) (hg : g < 2 ^ 7) (ho : o < 2 ^ 8) :
    hbmPlace (2 ^ 16 * top + 2 ^ 15 * b + 2 ^ 8 * g + o) =
      (4 * hbmDie top + (g ^^^ hbmHash top) % 4, (g ^^^ hbmHash top) / 4, 256 * (2 * (top / 2) + b) + o) := by
  have e1 : (2 ^ 16 * top + 2 ^ 15 * b + 2 ^ 8 * g + o) / 2 ^ 16 = top := by omega
  have e2 : (2 ^ 16 * top + 2 ^ 15 * b + 2 ^ 8 * g + o) / 2 ^ 8 % 2 ^ 7 = g := by omega
  have e3 : (2 ^ 16 * top + 2 ^ 15 * b + 2 ^ 8 * g + o) / 2 ^ 15 % 2 = b := by omega
  have e4 : (2 ^ 16 * top + 2 ^ 15 * b + 2 ^ 8 * g + o) % 2 ^ 8 = o := by omega
  have e5 : top / 2 % 2 ^ 22 = top / 2 := by omega
  simp only [hbmPlace_eq, e1, e2, e3, e4, e5]

/-- The address found for a place lies at that place. -/
theorem hbmPlace_hbmPa {stack pc off : Nat} (hs : stack < 8) (hp : pc < 32) (ho : off < 0x48000000) : hbmPlace (hbmPa stack pc off) = (stack, pc, off) := by
  have ht := hbmTop_div_two (stack / 4) (off / 2 ^ 9)
  have hdie := hbmDie_hbmTop (die := stack / 4) (off / 2 ^ 9) (by omega)
  simp only [hbmPa]
  generalize hbmTop (stack / 4) (off / 2 ^ 9) = top at ht hdie
  have hg : (4 * pc + stack % 4) ^^^ hbmHash top < 2 ^ 7 := Nat.xor_lt_two_pow (by omega) (hbmHash_lt _)
  rw [hbmPlace_parts (by omega) (Nat.mod_lt _ (by decide)) hg (Nat.mod_lt _ (by decide)), Nat.xor_assoc, Nat.xor_self, Nat.xor_zero, hdie, ht]
  simp only [Prod.mk.injEq]
  omega

/-- An address of the HBM range is the one found for its place. -/
theorem hbmPa_hbmPlace {pa : Nat} (h : pa < hbmSize) : hbmPa (hbmPlace pa).1 (hbmPlace pa).2.1 (hbmPlace pa).2.2 = pa := by
  obtain ⟨top, b, g, o, hb, hg, ho, rfl⟩ : ∃ top b g o, b < 2 ∧ g < 2 ^ 7 ∧ o < 2 ^ 8 ∧ pa = 2 ^ 16 * top + 2 ^ 15 * b + 2 ^ 8 * g + o :=
    ⟨pa / 2 ^ 16, pa / 2 ^ 15 % 2, pa / 2 ^ 8 % 2 ^ 7, pa % 2 ^ 8, by omega, by omega, by omega, by omega⟩
  have ht : top < 2 ^ 23 := by simp only [hbmSize] at h; omega
  rw [hbmPlace_parts ht hb hg ho]
  have hx : g = (g ^^^ hbmHash top) ^^^ hbmHash top := by rw [Nat.xor_assoc, Nat.xor_self, Nat.xor_zero]
  simp only [hbmPa]
  generalize g ^^^ hbmHash top = c at hx
  have e1 : (4 * hbmDie top + c % 4) / 4 = hbmDie top := by omega
  have e2 : 4 * (c / 4) + (4 * hbmDie top + c % 4) % 4 = c := by omega
  have e3 : (256 * (2 * (top / 2) + b) + o) / 2 ^ 9 = top / 2 := by omega
  rw [e1, e2, e3, hbmTop_hbmDie, ← hx]
  omega

theorem hbmPa_lt {stack pc off : Nat} (hp : pc < 32) (ho : off < 0x48000000) : hbmPa stack pc off < hbmSize := by
  have ht := hbmTop_div_two (stack / 4) (off / 2 ^ 9)
  simp only [hbmPa, hbmSize]
  generalize hbmTop (stack / 4) (off / 2 ^ 9) = top at ht
  have hg : (4 * pc + stack % 4) ^^^ hbmHash top < 2 ^ 7 := Nat.xor_lt_two_pow (by omega) (hbmHash_lt _)
  omega

/-- Settles O37: the bits are R190's own, and `hbmPa` inverts them. -/
theorem hbmPlacementIsOneToOne : Obligations.HbmPlacementIsOneToOne := by
  refine ⟨fun pa hpa => ?_, fun stack hs pc hp off ho => ?_⟩
  · intro bits d h c stack pc
    have hd : d = hbmDie (pa / 2 ^ 16) := by
      simp only [d, bits, hbmDie, Nat.add_sub_cancel_left, xor3_bits]; omega
    have hh : h = hbmHash (pa / 2 ^ 16) := by
      simp only [h, bits, hbmHash, Nat.div_div_eq_div_mul, ← Nat.pow_add]
    have hc : c < 2 ^ 7 := Nat.xor_lt_two_pow (Nat.mod_lt _ (by decide)) (hh ▸ hbmHash_lt _)
    have hd2 : d < 2 := hd ▸ Nat.mod_lt _ (by decide)
    have hplace : hbmPlace pa = (stack, pc, 256 * (2 * bits 38 17 + bits 15 15) + bits 7 0) := by
      simp only [hbmPlace_eq, stack, pc, c, hd, hh, bits, Nat.div_div_eq_div_mul, ← pow_succ, pow_zero, Nat.div_one, Nat.reduceAdd, Nat.reduceSub, pow_one]
    refine ⟨hplace, by rw [hbmChannel, hplace], by omega, by omega, ?_⟩
    have hi : bits 38 17 < 0x240000 := by simp only [bits]; omega
    have hb : bits 15 15 < 2 := Nat.mod_lt _ (by decide)
    have ho : bits 7 0 < 256 := Nat.mod_lt _ (by decide)
    omega
  · refine ⟨hbmPa stack pc off, ⟨hbmPa_lt hp ho, hbmPlace_hbmPa hs hp ho⟩, fun pb ⟨hpb, he⟩ => ?_⟩
    rw [← hbmPa_hbmPlace hpb, he]

end Sys2Proof.Machine
end

section
/-! PROOF. The windows of the arbiters of the stacks and of the Granary (R211, R214). -/
namespace Sys2Proof.Machine

/-! ## Bits of a value written over a mask -/

theorem testBit_andNot (a m i : Nat) : (Device.andNot a m).testBit i = (a.testBit i && !m.testBit i) := by
  simp only [Device.andNot, Nat.testBit_xor, Nat.testBit_and]
  cases a.testBit i <;> cases m.testBit i <;> rfl

/-- Two numbers agree in a field where they agree in its bits. -/
theorem field_eq_field_iff (a b lo len : Nat) : field a lo len = field b lo len ↔ ∀ i, lo ≤ i → i < lo + len → a.testBit i = b.testBit i := by
  constructor
  · intro h i h1 h2
    obtain ⟨k, rfl⟩ := Nat.exists_eq_add_of_le h1
    have e := congrArg (·.testBit k) h
    simpa [field, show k < len by omega] using e
  · intro h
    refine Nat.eq_of_testBit_eq fun k => ?_
    by_cases hk : k < len
    · simpa [field, hk] using h (lo + k) (by omega) (by omega)
    · simp [field, hk]

theorem field_low (v len : Nat) : field v 0 len = v % 2 ^ len := rfl

/-! ## The register ARB_CFG -/

/-- The row of HBM_ARB_CFG and of GRN_ARB_CFG: QUOTA and WINDOW, which LOCK protects. -/
def arbCfgRow : RegRow := { off := 0x040, reset := 0x4000100, fields := [(0, 12, .rwl), (16, 12, .rwl)] }

/-- ARB_CFG as an unlocked write through the normal view would leave it. -/
def arbCfgValue (old v : Nat) : Nat := Device.produceValue arbCfgRow false old v 0

theorem findRow_arbCfg {kind : Nat} (inst : Nat) (h : kind = 16 ∨ kind = 17) : findRow (rowsKind kind) inst 0x040 = some arbCfgRow := by
  rcases h with rfl | rfl <;> rfl

/-- The write's bits in QUOTA and WINDOW, the old ones elsewhere. -/
theorem testBit_arbCfgValue (old v i : Nat) :
    (arbCfgValue old v).testBit i = if i < 12 ∨ 16 ≤ i ∧ i < 28 then v.testBit i else old.testBit i := by
  have hm : arbCfgRow.maskOf .rwl = (2 ^ 12 - 1) ||| (2 ^ 12 - 1) <<< 16 := by decide
  have h0 : arbCfgRow.maskOf .rw = 0 ∧ arbCfgRow.maskOf .w1c = 0 ∧ arbCfgRow.maskOf .w1s = 0 := by decide
  obtain ⟨hrw, hc, hs⟩ := h0
  have hbit : (arbCfgRow.maskOf .rwl).testBit i = decide (i < 12 ∨ 16 ≤ i ∧ i < 28) := by
    rw [hm, Nat.testBit_or, Nat.testBit_shiftLeft, Nat.testBit_two_pow_sub_one, Nat.testBit_two_pow_sub_one, Bool.eq_iff_iff]
    simp
    omega
  simp only [arbCfgValue, Device.produceValue, hrw, hc, hs, Bool.false_eq_true, if_false, Nat.zero_or, Nat.and_zero, Nat.or_zero, Nat.testBit_or,
    Nat.testBit_and, testBit_andNot, Nat.zero_testBit, hbit]
  by_cases hi : i < 12 ∨ 16 ≤ i ∧ i < 28
  · simp only [hi, decide_true, Bool.not_true, Bool.and_false, Bool.and_true, if_true]
    rfl
  · simp only [hi, decide_false, Bool.not_false, Bool.and_true, Bool.and_false, Bool.or_false, if_false]

theorem arbCfgValue_lt {old : Nat} (v : Nat) (h : old < 2 ^ 32) : arbCfgValue old v < 2 ^ 32 := by
  refine Nat.lt_pow_two_of_testBit _ fun i hi => ?_
  rw [testBit_arbCfgValue, if_neg (by omega), Nat.testBit_lt_two_pow (lt_of_lt_of_le h (Nat.pow_le_pow_right (by decide) hi))]

theorem arbCfgValue_quota (old v : Nat) : arbCfgValue old v % 2 ^ 12 = v % 2 ^ 12 := by
  rw [← field_low, ← field_low, field_eq_field_iff]
  intro i _ hi
  rw [testBit_arbCfgValue, if_pos (Or.inl (by omega))]

theorem arbCfgValue_window (old v : Nat) : arbCfgValue old v / 2 ^ 16 % 2 ^ 12 = v / 2 ^ 16 % 2 ^ 12 := by
  rw [← field_eq, ← field_eq, field_eq_field_iff]
  intro i h1 h2
  rw [testBit_arbCfgValue, if_pos (Or.inr ⟨h1, h2⟩)]

/-- The register keeps its value only where it holds the QUOTA and the WINDOW written. -/
theorem arbCfgValue_eq_old_iff (old v : Nat) :
    arbCfgValue old v = old ↔ old % 2 ^ 12 = v % 2 ^ 12 ∧ old / 2 ^ 16 % 2 ^ 12 = v / 2 ^ 16 % 2 ^ 12 := by
  constructor
  · intro h
    rw [← arbCfgValue_quota old v, ← arbCfgValue_window old v, h]
    exact ⟨rfl, rfl⟩
  · rintro ⟨hq, hw⟩
    rw [← field_low, ← field_low, field_eq_field_iff] at hq
    rw [← field_eq, ← field_eq, field_eq_field_iff] at hw
    refine Nat.eq_of_testBit_eq fun i => ?_
    rw [testBit_arbCfgValue]
    split
    · next hi =>
      rcases hi with hi | ⟨h1, h2⟩
      · exact (hq i (by omega) (by omega)).symm
      · exact (hw i h1 (by omega)).symm
    · rfl

/-- What R214 ignores: QUOTA 0 or above WINDOW, or WINDOW below 64. -/
def arbCfgBad (v : Nat) : Prop := v % 2 ^ 12 = 0 ∨ v / 2 ^ 16 % 2 ^ 12 < v % 2 ^ 12 ∨ v / 2 ^ 16 % 2 ^ 12 < 64

/-- R214's check is made on the value that the write would give. -/
theorem valueOk_arbCfg {kind : Nat} (h : kind = 16 ∨ kind = 17) (old v : Nat) : Device.valueOk kind 0x040 (arbCfgValue old v) = true ↔ ¬ arbCfgBad v := by
  rcases h with rfl | rfl <;>
  · simp only [Device.valueOk, field_low, field_eq _ 16, arbCfgValue_quota, arbCfgValue_window, arbCfgBad, Bool.and_eq_true, decide_eq_true_eq, not_or,
      Nat.not_lt, and_assoc, ne_eq]

namespace Device

section
variable {d : Device} {who : Initiator} {kind inst v : Nat} (hk : kind = 16 ∨ kind = 17) (hw : CanWrite d who kind inst 0x040 v = true)
  (hv : v < 2 ^ 32) (hl : d.locked kind inst = false)
include hk hw hv hl

/-- A write of an unlocked page's ARB_CFG that can reach it. -/
theorem writeReg_arbCfg : d.writeReg who kind inst 0x040 0 v =
      let new := arbCfgValue (d.rg kind inst 0x040) v
      if new = d.rg kind inst 0x040 then paged d who kind inst
      else if ¬ valueOk kind 0x040 new then (paged d who kind inst).err kind inst 1 0x040 0
      else (paged d who kind inst).setRg kind inst 0x040 new := by
  have hl' : (paged d who kind inst).locked kind inst = false := hl
  have hv' : v % 4294967296 = v := Nat.mod_eq_of_lt hv
  have hplain : (paged d who kind inst).regWrite who kind inst 0x040 0 v = (paged d who kind inst).plainWrite kind inst 0x040 0 v := by
    rcases hk with rfl | rfl <;> simp [regWrite, kMbxReeve, hv']
  have hstate : (paged d who kind inst).stateOk kind 0x040 = true := by rcases hk with rfl | rfl <;> rfl
  rw [writeReg_reaches 0 hw (by decide) (by omega) (by omega), hplain]
  simp only [plainWrite, findRow_arbCfg inst hk, hl', hstate, paged_rg, arbCfgValue, Bool.false_eq_true, false_and, if_false, not_true_eq_false]
  rfl

/-- R214: the whole of a bad value is ignored, and recorded. -/
theorem writeReg_arbCfg_bad (hbad : arbCfgBad v) : d.writeReg who kind inst 0x040 0 v =
    if d.rg kind inst 0x040 % 2 ^ 12 = v % 2 ^ 12 ∧ d.rg kind inst 0x040 / 2 ^ 16 % 2 ^ 12 = v / 2 ^ 16 % 2 ^ 12 then paged d who kind inst
    else (paged d who kind inst).err kind inst 1 0x040 0 := by
  have hok := mt (valueOk_arbCfg hk (d.rg kind inst 0x040) v).mp (not_not_intro hbad)
  simp only [writeReg_arbCfg hk hw hv hl, arbCfgValue_eq_old_iff, if_pos hok]

/-- R214: any other value is stored in the register, and nothing else changes. -/
theorem writeReg_arbCfg_good (hgood : ¬ arbCfgBad v) :
    let t := d.writeReg who kind inst 0x040 0 v
    t.rg kind inst 0x040 = arbCfgValue (d.rg kind inst 0x040) v ∧
      (∀ k i o, regKey k i o ≠ regKey kind inst 0x040 → t.rg k i o = d.rg k i o) ∧ t = { paged d who kind inst with regs := t.regs } := by
  have hok := not_not_intro ((valueOk_arbCfg hk (d.rg kind inst 0x040) v).mpr hgood)
  simp only [writeReg_arbCfg hk hw hv hl, if_neg hok]
  split
  · next hsame => exact ⟨hsame.symm, fun _ _ _ _ => rfl, rfl⟩
  · refine ⟨?_, fun k i o h => ?_, rfl⟩
    · rw [rg_setRg_same, Nat.mod_eq_of_lt (arbCfgValue_lt v (d.rg_lt kind inst 0x040))]
    · rw [rg_setRg_ne _ _ _ _ _ _ _ _ h.symm, paged_rg]

end

end Device

/-! ## The end of a window -/

namespace Map

theorem find?_erase {α : Type} (m : Map α) (k j : Nat) : (m.erase k).find? j = if j = k then none else m.find? j := by
  induction m with
  | nil => simp [erase]
  | cons e m ih =>
    obtain ⟨a, u⟩ := e
    by_cases ha : a = k
    · have he : erase ((a, u) :: m) k = erase m k := by simp [erase, ha]
      rw [he, ih]
      split
      · rfl
      · next hj => rw [find?, if_neg (by omega)]
    · have he : erase ((a, u) :: m) k = (a, u) :: erase m k := by simp [erase, ha]
      rw [he, find?, find?, ih]
      by_cases hj : a = j
      · rw [if_pos hj, if_pos hj, if_neg (by omega)]
      · rw [if_neg hj, if_neg hj]

theorem find?_erase_ne {α : Type} (m : Map α) {k j : Nat} (h : j ≠ k) : (m.erase k).find? j = m.find? j := by simp [find?_erase, h]

@[simp] theorem get_erase_same {α : Type} (m : Map α) (dflt : α) (k : Nat) : (m.erase k).get dflt k = dflt := by simp [get, find?_erase]

end Map

/-- A point of a stack's page or of the Granary's has its windows configured by that page's ARB_CFG. -/
theorem arbPage_of_point {kind inst point : Nat} (h : (kind = 16 ∧ inst < 8) ∨ (kind = 17 ∧ inst = 0))
    (hp : if kind = 16 then 32 * inst ≤ point ∧ point < 32 * inst + 32 else 256 ≤ point ∧ point < 512) :
    point ≤ 523 ∧ Device.arbPage point = if kind = 16 then inst else 8 := by
  rcases h with ⟨rfl, hi⟩ | ⟨rfl, rfl⟩
  · rw [if_pos rfl] at hp ⊢
    exact ⟨by omega, by rw [Device.arbPage, if_pos (by omega)]; omega⟩
  · rw [if_neg (by decide)] at hp ⊢
    exact ⟨by omega, by rw [Device.arbPage, if_neg (by omega), if_pos hp.2]⟩

theorem arbReg_of_page (d : Device) {kind inst : Nat} (h : (kind = 16 ∧ inst < 8) ∨ (kind = 17 ∧ inst = 0)) :
    d.arbReg (if kind = 16 then inst else 8) = d.rg kind inst 0x040 := by
  rcases h with ⟨rfl, hi⟩ | ⟨rfl, rfl⟩
  · rw [if_pos rfl, Device.arbReg, if_pos hi]
  · rfl

theorem arbCfgWrite_does {who : Initiator} {kind inst v : Nat} {s : State} {P : Device → Prop} (hk : kind = 16 ∨ kind = 17)
    (h : P (s.dev.writeReg who kind inst 0x040 0 v)) : Does (.arbCfgWrite who kind inst v) s P := by
  refine ⟨_, rfl, rfl, ?_⟩
  rwa [if_neg (by omega)]

theorem highClassWindowEnd_does {point : Nat} {s : State} {P : Device → Prop} (h : P (s.dev.windowEnd point)) : Does (.highClassWindowEnd point) s P :=
  ⟨_, rfl, rfl, h⟩

/-- The end of a window of a point of a page takes that page's register over and clears the point's grants. -/
theorem windowEnd_eq (d : Device) {kind inst point : Nat} (h : (kind = 16 ∧ inst < 8) ∨ (kind = 17 ∧ inst = 0))
    (hp : if kind = 16 then 32 * inst ≤ point ∧ point < 32 * inst + 32 else 256 ≤ point ∧ point < 512) :
    d.windowEnd point =
      { d with grants := d.grants.erase point, arbCfg := d.arbCfg.set (if kind = 16 then inst else 8) (d.rg kind inst 0x040) } := by
  obtain ⟨hle, hpage⟩ := arbPage_of_point h hp
  rw [Device.windowEnd, if_pos hle, hpage, arbReg_of_page d h]

/-- Settles O38: a write replaces QUOTA and WINDOW or, failing R214's check, is only recorded; a window's end takes the register over, for every
point of its page at once, which is the model's choice (log entry 92). -/
theorem arbitrationConfigurationWaitsForTheWindow : Obligations.ArbitrationConfigurationWaitsForTheWindow := by
  intro s who kind inst v d hpage hw hv hl quota window bad page
  have hk : kind = 16 ∨ kind = 17 := hpage.imp And.left And.left
  refine ⟨fun hbad => arbCfgWrite_does hk (Device.writeReg_arbCfg_bad hk hw hv hl hbad), fun hgood => arbCfgWrite_does hk ?_,
    fun point hp => highClassWindowEnd_does ?_⟩
  · obtain ⟨hreg, hother, hrest⟩ := Device.writeReg_arbCfg_good hk hw hv hl hgood
    exact ⟨hreg ▸ arbCfgValue_quota _ v, hreg ▸ arbCfgValue_window _ v, hother, hrest⟩
  · rw [windowEnd_eq s.dev hpage hp]
    exact ⟨Map.get_set_same .., Map.get_erase_same .., fun p h => Map.find?_set_ne _ _ h.symm, fun p h => Map.find?_erase_ne _ h, rfl⟩

end Sys2Proof.Machine
end

section
/-! PROOF. CXL.mem writes (R205, R388, R553): a write that is dropped, and one that is applied run by run of its enabled bytes. -/
namespace Sys2Proof.Machine

/-! ## The check units and the runs of enabled bytes of a line -/

theorem mem_unitsOf {pa n u : Nat} : u ∈ Device.unitsOf pa n ↔ u % 16 = 0 ∧ pa / 16 * 16 ≤ u ∧ u < pa + n := by
  simp only [Device.unitsOf, ceilDiv, List.mem_map, List.mem_range]
  constructor
  · rintro ⟨k, hk, rfl⟩
    omega
  · rintro ⟨h0, hlo, hhi⟩
    exact ⟨u / 16 - pa / 16, by omega, by omega⟩

/-- A unit of HBM is a 32-byte burst. -/
theorem unitBase_hbm {pa : Nat} (h : pa < hbmSize) : unitBase pa = pa / 32 * 32 := if_pos h

theorem unitSize_pos (pa : Nat) : 0 < unitSize pa := by rw [unitSize]; split <;> decide

/-- What the runs found among the first `m` bytes of a line are: enabled bytes, the last run first, and a run about every stretch of them. -/
structure RunsTo (enables m : Nat) (rs : List (Nat × Nat)) : Prop where
  nonempty : ∀ r ∈ rs, 0 < r.2
  enabled : ∀ r ∈ rs, ∀ k, r.1 ≤ k → k < r.1 + r.2 → enables.testBit k = true
  ends : ∀ r ∈ rs, r.1 + r.2 ≤ m
  ends_tail : ∀ r ∈ rs.tail, r.1 + r.2 < m
  covers : ∀ x n, 0 < n → x + n ≤ m → (∀ k, x ≤ k → k < x + n → enables.testBit k = true) → ∃ r ∈ rs, r.1 ≤ x ∧ x + n ≤ r.1 + r.2

namespace RunsTo

variable {enables m : Nat} {rs : List (Nat × Nat)}

theorem nil : RunsTo enables 0 [] := ⟨by simp, by simp, by simp, by simp, by omega⟩

theorem skip (h : RunsTo enables m rs) (hm : enables.testBit m = false) : RunsTo enables (m + 1) rs where
  nonempty := h.nonempty
  enabled := h.enabled
  ends r hr := Nat.le_succ_of_le (h.ends r hr)
  ends_tail r hr := Nat.lt_succ_of_lt (h.ends_tail r hr)
  covers x n hn hx hon := by
    have hlast : x + n ≠ m + 1 := fun e => by simp [hon m (by omega) (by omega)] at hm
    exact h.covers x n hn (by omega) hon

theorem extend {x n : Nat} (h : RunsTo enables (x + n) ((x, n) :: rs)) (hm : enables.testBit (x + n) = true) :
    RunsTo enables (x + n + 1) ((x, n + 1) :: rs) where
  nonempty := List.forall_mem_cons.2 ⟨Nat.succ_pos n, fun r hr => h.nonempty r (List.mem_cons_of_mem _ hr)⟩
  enabled := by
    rw [List.forall_mem_cons]
    refine ⟨fun k h1 h2 => ?_, fun r hr => h.enabled r (List.mem_cons_of_mem _ hr)⟩
    by_cases hk : k = x + n
    · exact hk ▸ hm
    · exact h.enabled (x, n) List.mem_cons_self k h1 (show k < x + n by simp only at h2; omega)
  ends := List.forall_mem_cons.2 ⟨le_rfl, fun r hr => Nat.le_succ_of_le (h.ends r (List.mem_cons_of_mem _ hr))⟩
  ends_tail r hr := Nat.lt_succ_of_lt (h.ends_tail r hr)
  covers y j hj hy hon := by
    have hold : ∀ j', 0 < j' → j' ≤ j → y + j' ≤ x + n → ∃ r ∈ (x, n) :: rs, r.1 ≤ y ∧ y + j' ≤ r.1 + r.2 :=
      fun j' h0 hle hy' => h.covers y j' h0 hy' fun k h1 h2 => hon k h1 (by omega)
    by_cases hlast : y + j = x + n + 1
    · by_cases h1 : j = 1
      · exact ⟨(x, n + 1), List.mem_cons_self, by simp only; omega, by simp only; omega⟩
      · obtain ⟨r, hr, hlo, hhi⟩ := hold (j - 1) (by omega) (by omega) (by omega)
        rcases List.mem_cons.1 hr with rfl | hr
        · exact ⟨(x, n + 1), List.mem_cons_self, hlo, by simp only; omega⟩
        · have := h.ends_tail r hr
          omega
    · obtain ⟨r, hr, hlo, hhi⟩ := hold j hj le_rfl (by omega)
      rcases List.mem_cons.1 hr with rfl | hr
      · exact ⟨(x, n + 1), List.mem_cons_self, hlo, by simp only at hhi ⊢; omega⟩
      · exact ⟨r, List.mem_cons_of_mem _ hr, hlo, hhi⟩

theorem start (h : RunsTo enables m rs) (hends : ∀ r ∈ rs, r.1 + r.2 < m) (hm : enables.testBit m = true) : RunsTo enables (m + 1) ((m, 1) :: rs) where
  nonempty := List.forall_mem_cons.2 ⟨Nat.one_pos, h.nonempty⟩
  enabled := List.forall_mem_cons.2 ⟨fun k h1 h2 => by rwa [show k = m by simp only at h1 h2; omega], h.enabled⟩
  ends := List.forall_mem_cons.2 ⟨le_rfl, fun r hr => Nat.le_succ_of_le (h.ends r hr)⟩
  ends_tail r hr := Nat.lt_succ_of_lt (hends r hr)
  covers x n hn hx hon := by
    by_cases hlast : x + n = m + 1
    · by_cases h1 : n = 1
      · exact ⟨(m, 1), List.mem_cons_self, by simp only; omega, by simp only; omega⟩
      · obtain ⟨r, hr, -, hhi⟩ := h.covers x (n - 1) (by omega) (by omega) fun k h1 h2 => hon k h1 (by omega)
        have := hends r hr
        omega
    · obtain ⟨r, hr, hr'⟩ := h.covers x n hn (by omega) hon
      exact ⟨r, List.mem_cons_of_mem _ hr, hr'⟩

end RunsTo

/-- The turn of `enabledRuns` at byte `k`. -/
def addByte (enables : Nat) (rs : List (Nat × Nat)) (k : Nat) : List (Nat × Nat) :=
  if enables.testBit k then
    match rs with
    | (x, n) :: rest => if x + n = k then (x, n + 1) :: rest else (k, 1) :: rs
    | [] => [(k, 1)]
  else rs

theorem enabledRuns_eq (enables : Nat) : Device.enabledRuns enables = (List.range 64).foldl (addByte enables) [] := rfl

theorem addByte_runsTo {enables m : Nat} {rs : List (Nat × Nat)} (h : RunsTo enables m rs) : RunsTo enables (m + 1) (addByte enables rs m) := by
  cases hm : enables.testBit m with
  | false => simpa only [addByte, hm, Bool.false_eq_true, if_false] using h.skip hm
  | true =>
    match rs, h with
    | [], h => simpa only [addByte, hm, if_true] using h.start (fun r hr => absurd hr List.not_mem_nil) hm
    | (x, n) :: rest, h =>
      by_cases he : x + n = m
      · subst he
        simpa only [addByte, hm, if_true] using h.extend hm
      · have hends : ∀ r ∈ (x, n) :: rest, r.1 + r.2 < m :=
          List.forall_mem_cons.2 ⟨lt_of_le_of_ne (h.ends (x, n) List.mem_cons_self) he, h.ends_tail⟩
        simpa only [addByte, hm, if_true, if_neg he] using h.start hends hm

theorem foldl_addByte_runsTo (enables m : Nat) : RunsTo enables m ((List.range m).foldl (addByte enables) []) := by
  induction m with
  | zero => exact .nil
  | succ m ih =>
    rw [List.range_succ, List.foldl_concat]
    exact addByte_runsTo ih

theorem enabledRuns_runsTo (enables : Nat) : RunsTo enables 64 (Device.enabledRuns enables) :=
  enabledRuns_eq enables ▸ foldl_addByte_runsTo enables 64

theorem exists_run_iff {enables k : Nat} (hk : k < 64) :
    (∃ r ∈ Device.enabledRuns enables, r.1 ≤ k ∧ k < r.1 + r.2) ↔ enables.testBit k = true := by
  have h := enabledRuns_runsTo enables
  refine ⟨fun ⟨r, hr, h1, h2⟩ => h.enabled r hr k h1 h2, fun hon => ?_⟩
  exact h.covers k 1 Nat.one_pos hk fun j h1 h2 => by rwa [show j = k by omega]

/-- A run covers a burst of the line whole where all its bytes are enabled. -/
theorem exists_coversUnit_iff {a enables u : Nat} (ha : a % 64 = 0) (hs : a + 64 ≤ hbmSize) (hu : unitBase u = u) :
    (∃ r ∈ Device.enabledRuns enables, Device.coversUnit (a + r.1) r.2 u = true) ↔ a ≤ u ∧ u < a + 64 ∧ ∀ k < 32, enables.testBit (u - a + k) = true := by
  have h := enabledRuns_runsTo enables
  simp only [Device.coversUnit, hu, Bool.and_eq_true, decide_eq_true_eq]
  constructor
  · rintro ⟨r, hr, hlo, hhi⟩
    have hend := h.ends r hr
    have hsize : unitSize u = 32 := if_pos (by have := unitSize_pos u; omega)
    rw [hsize] at hhi
    exact ⟨by omega, by omega, fun k hk => h.enabled r hr _ (by omega) (by omega)⟩
  · rintro ⟨hlo, hhi, hon⟩
    have hsize : unitSize u = 32 := if_pos (by omega)
    rw [unitBase_hbm (by omega)] at hu
    obtain ⟨r, hr, h1, h2⟩ := h.covers (u - a) 32 (by decide) (by omega) fun k h1 h2 => by
      rw [show k = u - a + (k - (u - a)) by omega]; exact hon _ (by omega)
    exact ⟨r, hr, by omega, by omega⟩

/-! ## The bytes of the runs in memory -/

@[simp] theorem length_bytesOf (n v : Nat) : (bytesOf n v).length = n := by
  induction n generalizing v with
  | zero => rfl
  | succ n ih => rw [bytesOf, List.length_cons, ih]

theorem getElem_bytesOf (n v k : Nat) (h : k < (bytesOf n v).length) : (bytesOf n v)[k] = BitVec.ofNat 8 (v / 2 ^ (8 * k)) := by
  induction n generalizing v k with
  | zero => simp at h
  | succ n ih =>
    cases k with
    | zero => simp [bytesOf]
    | succ k =>
      have e : 2 ^ (8 * (k + 1)) = 256 * 2 ^ (8 * k) := by rw [Nat.mul_succ, Nat.pow_add, Nat.mul_comm]
      rw [e, ← Nat.div_div_eq_div_mul]
      exact ih _ _ _

/-- A run of a line's bytes written to memory. -/
def putRun (a data : Nat) (m : Memory) (r : Nat × Nat) : Memory := m.writeBytes (windowBase + (a + r.1)) (bytesOf r.2 (data / 2 ^ (8 * r.1)))

/-- A byte of memory lies in a run of the line at `a`. -/
def InRun (a y : Nat) (r : Nat × Nat) : Prop := windowBase + a + r.1 ≤ y ∧ y < windowBase + a + r.1 + r.2

theorem inRun_line {a k : Nat} {r : Nat × Nat} : InRun a (windowBase + a + k) r ↔ r.1 ≤ k ∧ k < r.1 + r.2 := by
  simp only [InRun]; omega

theorem putRun_wf {m : Memory} (a data : Nat) (r : Nat × Nat) (h : m.wf = true) : (putRun a data m r).wf = true := Memory.writeBytes_wf _ _ h

theorem byte_putRun_inside {m : Memory} {a data y : Nat} {r : Nat × Nat} (h : m.wf = true) (hy : InRun a y r) :
    (putRun a data m r).byte y = BitVec.ofNat 8 (data / 2 ^ (8 * (y - (windowBase + a)))) := by
  obtain ⟨hlo, hhi⟩ := hy
  obtain ⟨j, rfl⟩ := Nat.exists_eq_add_of_le hlo
  have hj : j < (bytesOf r.2 (data / 2 ^ (8 * r.1))).length := by rw [length_bytesOf]; omega
  rw [putRun, ← Nat.add_assoc, Memory.byte_writeBytes_inside _ _ _ h hj, getElem_bytesOf, Nat.div_div_eq_div_mul, ← Nat.pow_add, ← Nat.mul_add,
    show windowBase + a + r.1 + j - (windowBase + a) = r.1 + j by omega]

theorem byte_putRun_outside {m : Memory} {a data y : Nat} {r : Nat × Nat} (h : m.wf = true) (hy : ¬ InRun a y r) :
    (putRun a data m r).byte y = m.byte y := by
  rw [InRun] at hy
  exact Memory.byte_writeBytes_outside _ _ _ h (by rw [length_bytesOf]; omega)

theorem byte_foldl_putRun_outside {m : Memory} {a data y : Nat} {rs : List (Nat × Nat)} (h : m.wf = true) (hy : ∀ r ∈ rs, ¬ InRun a y r) :
    (rs.foldl (putRun a data) m).byte y = m.byte y := by
  induction rs generalizing m with
  | nil => rfl
  | cons r rs ih =>
    obtain ⟨hr, hrs⟩ := List.forall_mem_cons.1 hy
    rw [List.foldl_cons, ih (putRun_wf a data r h) hrs, byte_putRun_outside h hr]

theorem byte_foldl_putRun_inside {m : Memory} {a data y : Nat} {rs : List (Nat × Nat)} (h : m.wf = true) (hy : ∃ r ∈ rs, InRun a y r) :
    (rs.foldl (putRun a data) m).byte y = BitVec.ofNat 8 (data / 2 ^ (8 * (y - (windowBase + a)))) := by
  induction rs generalizing m with
  | nil => simp at hy
  | cons r rs ih =>
    rw [List.foldl_cons]
    by_cases hrs : ∃ r ∈ rs, InRun a y r
    · exact ih (putRun_wf a data r h) hrs
    · have hr : InRun a y r := by simpa [hrs] using hy
      rw [byte_foldl_putRun_outside (putRun_wf a data r h) (by simpa using hrs), byte_putRun_inside h hr]

/-- Exactly the enabled bytes of a line are written. -/
theorem byte_line_written {m : Memory} {a data enables k : Nat} (h : m.wf = true) (hk : k < 64) :
    ((Device.enabledRuns enables).foldl (putRun a data) m).byte (windowBase + a + k) =
      if enables.testBit k then BitVec.ofNat 8 (data / 2 ^ (8 * k)) else m.byte (windowBase + a + k) := by
  have hrun : (∃ r ∈ Device.enabledRuns enables, InRun a (windowBase + a + k) r) ↔ enables.testBit k = true := by
    simp only [inRun_line, exists_run_iff hk]
  split
  · next hon => rw [byte_foldl_putRun_inside h (hrun.2 hon), Nat.add_sub_cancel_left]
  · next hoff => exact byte_foldl_putRun_outside h fun r hr hin => hoff (hrun.1 ⟨r, hr, hin⟩)

/-! ## The poison of the runs -/

/-- The list of poisoned units with the unit of an address in it. -/
def addPoison (ps : List Nat) (u : Nat) : List Nat := if ps.contains (unitBase u) then ps else ps ++ [unitBase u]

theorem mem_foldl_addPoison {us ps : List Nat} {v : Nat} : v ∈ us.foldl addPoison ps ↔ v ∈ ps ∨ ∃ u ∈ us, unitBase u = v := by
  induction us generalizing ps with
  | nil => simp
  | cons u us ih =>
    have hu : v ∈ addPoison ps u ↔ v ∈ ps ∨ unitBase u = v := by
      rw [addPoison]
      split
      · next h => exact ⟨.inl, fun h' => h'.elim id fun e => e ▸ by simpa using h⟩
      · simp [eq_comm]
    simp only [List.foldl_cons, ih, hu, List.exists_mem_cons_iff, or_assoc]

/-- The poisoned units after a run of the line at `a` is written (R205). -/
def poisonRun (a : Nat) (poison : Bool) (ps : List Nat) (r : Nat × Nat) : List Nat :=
  let kept := ps.filter (fun u => ¬ (Device.coversUnit (a + r.1) r.2 u))
  if poison then (Device.unitsOf (a + r.1) r.2).foldl addPoison kept else kept

/-- Good data take the poison of the units that they cover whole, and of no other. -/
theorem mem_foldl_poisonRun_good {a u : Nat} {rs : List (Nat × Nat)} {ps : List Nat} :
    u ∈ rs.foldl (poisonRun a false) ps ↔ u ∈ ps ∧ ¬ ∃ r ∈ rs, Device.coversUnit (a + r.1) r.2 u = true := by
  induction rs generalizing ps with
  | nil => simp
  | cons r rs ih =>
    have hr : u ∈ poisonRun a false ps r ↔ u ∈ ps ∧ ¬ Device.coversUnit (a + r.1) r.2 u = true := by simp [poisonRun]
    rw [List.foldl_cons, ih, hr, List.exists_mem_cons_iff, not_or, and_assoc]

/-- A run written with poison poisons the burst of each of its bytes. -/
theorem mem_poisonRun_of_byte {a k : Nat} {ps : List Nat} {r : Nat × Nat} (hk : r.1 ≤ k ∧ k < r.1 + r.2) (hs : a + k < hbmSize) :
    unitBase (a + k) ∈ poisonRun a true ps r := by
  rw [poisonRun, if_pos rfl, mem_foldl_addPoison]
  refine .inr ⟨(a + k) / 16 * 16, mem_unitsOf.2 (by omega), ?_⟩
  rw [unitBase_hbm (by omega), unitBase_hbm hs]
  omega

/-- A run written with poison takes the poison of no burst: a burst that it covers whole is poisoned again. -/
theorem poisonRun_keeps {a u : Nat} {ps : List Nat} {r : Nat × Nat} (hu : unitBase u = u) (hs : u < hbmSize) (h : u ∈ ps) : u ∈ poisonRun a true ps r := by
  by_cases hc : Device.coversUnit (a + r.1) r.2 u = true
  · simp only [Device.coversUnit, hu, Bool.and_eq_true, decide_eq_true_eq, show unitSize u = 32 from if_pos hs] at hc
    obtain ⟨j, rfl⟩ := Nat.exists_eq_add_of_le (show a ≤ u by omega)
    exact hu ▸ mem_poisonRun_of_byte (by omega) hs
  · rw [poisonRun, if_pos rfl, mem_foldl_addPoison]
    exact .inl (by simpa [h] using hc)

theorem foldl_poisonRun_keeps {a u : Nat} {rs : List (Nat × Nat)} {ps : List Nat} (hu : unitBase u = u) (hs : u < hbmSize) (h : u ∈ ps) :
    u ∈ rs.foldl (poisonRun a true) ps := by
  induction rs generalizing ps with
  | nil => exact h
  | cons r rs ih => exact ih (poisonRun_keeps hu hs h)

theorem mem_foldl_poisonRun_of_byte {a k : Nat} {rs : List (Nat × Nat)} {ps : List Nat} (hk : ∃ r ∈ rs, r.1 ≤ k ∧ k < r.1 + r.2) (hs : a + k < hbmSize) :
    unitBase (a + k) ∈ rs.foldl (poisonRun a true) ps := by
  have hb := unitBase_hbm hs
  induction rs generalizing ps with
  | nil => simp at hk
  | cons r rs ih =>
    rcases (List.exists_mem_cons_iff ..).1 hk with hr | hrs
    · have hlt : unitBase (a + k) < hbmSize := by omega
      rw [List.foldl_cons]
      exact foldl_poisonRun_keeps (by rw [unitBase_hbm hlt]; omega) hlt (mem_poisonRun_of_byte hr hs)
    · exact ih hrs

/-! ## A write of HBM that finds no error -/

theorem Map.find?_filter_eq_none {α : Type} {m : Map α} {k : Nat} (p : Nat × α → Bool) (h : m.find? k = none) : Map.find? (m.filter p) k = none := by
  induction m with
  | nil => rfl
  | cons e m ih =>
    obtain ⟨j, v⟩ := e
    by_cases hj : j = k
    · simp [Map.find?, hj] at h
    · rw [Map.find?, if_neg hj] at h
      rw [List.filter_cons]
      split
      · rw [Map.find?, if_neg hj, ih h]
      · exact ih h

namespace Device

theorem findErrors_none {d : Device} {us : List Nat} (scrub : Bool) (h : ∀ u ∈ us, d.latent.find? (unitBase u) = none) :
    d.findErrors us scrub = (false, d) := by
  rw [findErrors]
  induction us with
  | nil => rfl
  | cons u us ih =>
    obtain ⟨hu, hus⟩ := List.forall_mem_cons.1 h
    rw [List.foldl_cons, hu]
    exact ih hus

/-- The ECC side of a write that finds no error only forgets the units it writes afresh. -/
theorem writeErrors_none {d : Device} {pa n : Nat} (h : ∀ u ∈ unitsOf pa n, d.latent.find? (unitBase u) = none) :
    d.writeErrors pa n = { d with latent := d.latent.filter (fun e => !(coversUnit pa n e.1)) } :=
  congrArg Prod.snd (findErrors_none false fun u hu => Map.find?_filter_eq_none _ (h u hu))

theorem ownPa_hbm {d : Device} {pa : Nat} (h : pa < hbmSize) : d.ownPa pa = pa := by simp [ownPa, regionOf, h]

/-- A write of HBM units without stored errors: the bytes are memory's, and the poison of the units covered whole is gone (R205). -/
theorem writePa_hbm {d : Device} {pa : Nat} {bs : List Byte} (h : pa < hbmSize) (hon : d.computeOff = false) (hlost : d.rangeLost pa bs.length = false)
    (hl : ∀ u ∈ unitsOf pa bs.length, d.latent.find? (unitBase u) = none) :
    ∃ l v, (d.writePa pa bs).2 =
        { d with mem := d.mem.writeBytes (windowBase + pa) bs, latent := l, reeves := v, poison := d.poison.filter (fun u => ¬ (coversUnit pa bs.length u)) } ∧
      ∀ u, d.latent.find? u = none → l.find? u = none := by
  have hregion : regionOf pa = .hbm := if_pos h
  refine ⟨d.latent.filter (fun e => !(coversUnit pa bs.length e.1)), (d.dropResv (windowBase + pa) bs.length).reeves, ?_, fun u => Map.find?_filter_eq_none _⟩
  simp only [writePa, ownPa_hbm h, hregion, writeModule, hon, hlost, writeErrors_none hl]
  rfl

theorem foldl_setPoison (us : List Nat) (d : Device) : us.foldl (fun d u => d.setPoison u) d = { d with poison := us.foldl addPoison d.poison } := by
  induction us generalizing d with
  | nil => rfl
  | cons u us ih =>
    have hu : d.setPoison u = { d with poison := addPoison d.poison u } := by
      rw [setPoison, addPoison]; split <;> rfl
    rw [List.foldl_cons, ih, hu, List.foldl_cons]

/-! ## The runs of a CXL.mem write -/

/-- A line of HBM whose bytes can be written: the compute dies are on, no stack under it is LOST and its units hold no stored error. -/
structure LineClean (d : Device) (a : Nat) : Prop where
  inHbm : a + 64 ≤ hbmSize
  computeOn : d.computeOff = false
  stacked : d.rangeLost a 64 = false
  errorFree : ∀ u ∈ unitsOf a 64, d.latent.find? (unitBase u) = none

/-- The line is still clean after writes of bytes that leave no new stored error. -/
theorem LineClean.written {d : Device} {a : Nat} (h : d.LineClean a) (m : Memory) {l : Map Nat} (v : Map Reeve) (ps : List Nat)
    (hl : ∀ u, d.latent.find? u = none → l.find? u = none) : LineClean { d with mem := m, latent := l, reeves := v, poison := ps } a :=
  ⟨h.inHbm, h.computeOn, h.stacked, fun u hu => hl _ (h.errorFree u hu)⟩

theorem unitsOf_run_subset {a u : Nat} {r : Nat × Nat} (hr : r.1 + r.2 ≤ 64) (h : u ∈ unitsOf (a + r.1) r.2) : u ∈ unitsOf a 64 := by
  rw [mem_unitsOf] at h ⊢
  omega

/-- The turn of `memWrite` at a run. -/
def writeRun (a data : Nat) (poison : Bool) (d : Device) (r : Nat × Nat) : Device :=
  let d := (d.writePa (a + r.1) (bytesOf r.2 (data / 2 ^ (8 * r.1)))).2
  if poison then (unitsOf (a + r.1) r.2).foldl (fun d u => d.setPoison u) d else d

theorem writeRun_eq {d : Device} {a : Nat} {r : Nat × Nat} (data : Nat) (poison : Bool) (h : d.LineClean a) (hn : 0 < r.2) (hr : r.1 + r.2 ≤ 64) :
    ∃ l v, d.writeRun a data poison r = { d with mem := putRun a data d.mem r, latent := l, reeves := v, poison := poisonRun a poison d.poison r } ∧
      ∀ u, d.latent.find? u = none → l.find? u = none := by
  have hlen : (bytesOf r.2 (data / 2 ^ (8 * r.1))).length = r.2 := length_bytesOf ..
  have hsub : ∀ u ∈ unitsOf (a + r.1) (bytesOf r.2 (data / 2 ^ (8 * r.1))).length, u ∈ unitsOf a 64 := fun u hu => unitsOf_run_subset hr (hlen ▸ hu)
  have hlost : d.rangeLost (a + r.1) (bytesOf r.2 (data / 2 ^ (8 * r.1))).length = false :=
    List.any_eq_false.2 fun u hu => List.any_eq_false.1 h.stacked u (hsub u hu)
  have hin := h.inHbm
  obtain ⟨l, v, hw, hl⟩ := writePa_hbm (by omega) h.computeOn hlost fun u hu => h.errorFree u (hsub u hu)
  refine ⟨l, v, ?_, hl⟩
  rw [writeRun, hw, hlen]
  cases poison with
  | false => rfl
  | true => exact foldl_setPoison ..

theorem foldl_writeRun_eq {d : Device} {a : Nat} {rs : List (Nat × Nat)} (data : Nat) (poison : Bool) (h : d.LineClean a)
    (hrs : ∀ r ∈ rs, 0 < r.2 ∧ r.1 + r.2 ≤ 64) :
    ∃ l v, rs.foldl (writeRun a data poison) d =
      { d with mem := rs.foldl (putRun a data) d.mem, latent := l, reeves := v, poison := rs.foldl (poisonRun a poison) d.poison } := by
  induction rs generalizing d with
  | nil => exact ⟨_, _, rfl⟩
  | cons r rs ih =>
    obtain ⟨⟨hn, hr⟩, hrs⟩ := List.forall_mem_cons.1 hrs
    obtain ⟨l, v, hw, hl⟩ := writeRun_eq data poison h hn hr
    rw [List.foldl_cons, hw]
    exact ih (h.written _ v _ hl) hrs

/-! ## The ways a CXL.mem write goes -/

theorem regKey_inj (kind inst : Nat) {o o' : Nat} : regKey kind inst o = regKey kind inst o' ↔ o = o' := Nat.add_left_cancel_iff

section
variable {d : Device} {p hpa a : Nat} (enables data : Nat) (poison : Bool) (haddr : d.hdmAddr p hpa = some a)
include haddr

/-- R388: before Memory_Active, or held back by IDE_REQUIRE. -/
theorem memWrite_early (h : d.power.memActive = false ∨ d.ideBlocked p = true) :
    d.memWrite p hpa enables data poison = ((d.count 6 p 0x080).event 6 p 3).emit (.memDone p) := by
  have hearly : ¬ d.power.memActive ∨ d.ideBlocked p := by simpa using h
  simp only [memWrite, haddr, if_pos hearly, hdmEarly]

variable (hactive : d.power.memActive = true) (hide : d.ideBlocked p = false)
include hactive hide

/-- R553: into the reserved range or a LOST stack. -/
theorem memWrite_dropped (h : d.inReserved a 64 = true ∨ d.rangeLost a 64 = true) :
    d.memWrite p hpa enables data poison = ((d.count 6 p 0x0A0).event 6 p 6).emit (.memDone p) := by
  simp [memWrite, haddr, hactive, hide, h]

theorem memWrite_applied (hres : d.inReserved a 64 = false) (hlost : d.rangeLost a 64 = false) :
    d.memWrite p hpa enables data poison = (((enabledRuns enables).foldl (writeRun a data poison) d).count 6 p 0x090).emit (.memDone p) := by
  simp only [memWrite, haddr, hactive, hide, hres, hlost, Bool.false_eq_true, not_true_eq_false, or_self, if_false]
  rfl

end

/-- What an applied write leaves: its enabled runs in memory and in the poisoned units, and the page's events as they were. -/
theorem applied_spec {d : Device} {p hpa a : Nat} (enables data : Nat) (poison : Bool) (haddr : d.hdmAddr p hpa = some a)
    (hactive : d.power.memActive = true) (hide : d.ideBlocked p = false) (hres : d.inReserved a 64 = false) (hclean : d.LineClean a) :
    let t := d.memWrite p hpa enables data poison
    t.out = d.out ++ [.memDone p] ∧ t.mem = (enabledRuns enables).foldl (putRun a data) d.mem ∧
      t.poison = (enabledRuns enables).foldl (poisonRun a poison) d.poison ∧ t.rg 6 p 0x010 = d.rg 6 p 0x010 := by
  have hruns := enabledRuns_runsTo enables
  obtain ⟨l, v, hw⟩ := foldl_writeRun_eq data poison hclean fun r hr => ⟨hruns.nonempty r hr, hruns.ends r hr⟩
  rw [memWrite_applied enables data poison haddr hactive hide hres hclean.stacked, hw]
  refine ⟨by simp [emit, count], by simp [count], by simp [count], ?_⟩
  exact countBy_rg _ _ _ _ _ _ _ _ (by simp [regKey_inj]) (by simp [regKey_inj])

theorem hdmAddr_eq {d : Device} {p hpa base size : Nat} (hp : p < 2) (hup : (d.host p).up = true) (hmem : (d.host p).memEn = true)
    (hhdm : (d.host p).hdm = some (base, size)) (hlo : base ≤ hpa) (hhi : hpa < base + size) : d.hdmAddr p hpa = some ((hpa - base) / 64 * 64) := by
  simp only [hdmAddr, hhdm]
  exact if_pos ⟨hp, hup, hmem, hlo, hhi⟩

/-! ## The counters and the event of a dropped write -/

/-- A counter of a page that is not frozen counts modulo 2^48 (R157, R482). -/
theorem counter_count (d : Device) (kind inst off : Nat) (h : d.fld kind inst 0x008 0 1 = 0) :
    (d.count kind inst off).counter kind inst off = (d.counter kind inst off + 1) % 2 ^ 48 := by
  have hne : regKey kind inst (off + 4) ≠ regKey kind inst off := fun e => by simpa using (regKey_inj kind inst).1 e
  simp only [count, countBy, counter, if_neg (show ¬ d.fld kind inst 0x008 0 1 = 1 by omega)]
  rw [rg_setRg_ne _ _ _ _ _ _ _ _ hne, rg_setRg_same, rg_setRg_same]
  omega

/-- A count leaves the page's other counters. -/
theorem counter_count_ne (d : Device) (kind inst : Nat) {o o' : Nat} (h : o' + 4 < o ∨ o + 4 < o') :
    (d.count kind inst o).counter kind inst o' = d.counter kind inst o' := by
  rw [counter, counter, count, countBy_rg, countBy_rg] <;> rw [Ne, regKey_inj] <;> omega

/-- An event of a host port's page leaves its counters. -/
theorem counter_event_hlk (d : Device) (p b : Nat) {o : Nat} (h : 0x010 < o) : (d.event 6 p b).counter 6 p o = d.counter 6 p o := by
  have hglb : ∀ o', regKey 6 p o' ≠ 0x010 := fun o' => by simp only [regKey, pageNo]; omega
  rw [counter, counter, event_rg _ _ _ _ _ _ _ _ (hglb _), event_rg _ _ _ _ _ _ _ _ (hglb _)] <;> rw [Ne, regKey_inj] <;> omega

/-- What a dropped write leaves: memory as it was, the page's event set, and one count in the page's counter. -/
theorem dropped_spec (d : Device) (p c b : Nat) (hc : 0x010 < c) (hb : b < 32) :
    let t := ((d.count 6 p c).event 6 p b).emit (.memDone p)
    t.out = d.out ++ [.memDone p] ∧ t.mem = d.mem ∧ t.poison = d.poison ∧ (t.rg 6 p 0x010).testBit b = true ∧
      (d.fld 6 p 0x008 0 1 = 0 → t.counter 6 p c = (d.counter 6 p c + 1) % 2 ^ 48) ∧
      ∀ o, 0x010 < o → o + 4 < c ∨ c + 4 < o → t.counter 6 p o = d.counter 6 p o := by
  refine ⟨by simp [emit, count], by simp [count], by simp [count], event_sets _ _ _ _ hb, fun h => ?_, fun o ho hne => ?_⟩
  · exact (counter_event_hlk _ p b hc).trans (counter_count d 6 p c h)
  · exact (counter_event_hlk _ p b ho).trans (counter_count_ne d 6 p hne)

end Device

theorem cxlMemWrite_does {p hpa enables data : Nat} {poison : Bool} {s : State} {P : Device → Prop} (h : P (s.dev.memWrite p hpa enables data poison)) :
    Does (.cxlMemWrite p hpa enables data poison) s P := ⟨_, rfl, rfl, h⟩

/-- Settles O43: a write dropped leaves its event and its count (`dropped_spec`); one applied is the fold of its enabled runs over memory and over
the poisoned units. -/
theorem hdmWritesAreAppliedOrDropped : Obligations.HdmWritesAreAppliedOrDropped := by
  intro s p hpa enables data base size poison d hp hup hmem hhdm hlo hhi a ha _ done byteOn whole
  have haddr : d.hdmAddr p hpa = some a := Device.hdmAddr_eq hp hup hmem hhdm hlo hhi
  have halign : a % 64 = 0 := Nat.mul_mod_left ..
  have hline : a + 64 ≤ hbmSize := by
    have hsize : hbmSize = 64 * 0x120000000 := rfl
    omega
  refine ⟨fun h => cxlMemWrite_does ?_, fun hactive hide => ⟨fun h => cxlMemWrite_does ?_, fun hres hlost hon hl hwf => cxlMemWrite_does ?_⟩⟩
  · rw [Device.memWrite_early enables data poison haddr h]
    obtain ⟨hout, hm, hps, hevent, hcount, hother⟩ := d.dropped_spec p 0x080 3 (by decide) (by decide)
    exact ⟨hout, hm, hps, hevent, hcount, hother 0x0A0 (by decide) (by decide)⟩
  · have hdrop : d.inReserved a 64 = true ∨ d.rangeLost a 64 = true := h.imp_left fun h => by simp [Device.inReserved, ha, h]
    rw [Device.memWrite_dropped enables data poison haddr hactive hide hdrop]
    obtain ⟨hout, hm, hps, hevent, hcount, -⟩ := d.dropped_spec p 0x0A0 6 (by decide) (by decide)
    exact ⟨hout, hm, hps, hevent, hcount⟩
  · have hopen : d.inReserved a 64 = false := by simp [Device.inReserved, hres]
    obtain ⟨hout, hm, hps, hevent⟩ := Device.applied_spec enables data poison haddr hactive hide hopen ⟨hline, hon, hlost, hl⟩
    refine ⟨hout, fun k hk => ?_, fun x hx => ?_, ?_, ?_, by rw [hevent]⟩
    · rw [hm, byte_line_written hwf hk]
    · exact hm ▸ byte_foldl_putRun_outside hwf fun r hr hin => by
        have := (enabledRuns_runsTo enables).ends r hr
        rw [InRun] at hin
        omega
    · rintro rfl u hu
      rw [hps, mem_foldl_poisonRun_good, exists_coversUnit_iff halign hline hu]
    · rintro rfl k hk hen
      exact hps ▸ mem_foldl_poisonRun_of_byte ((exists_run_iff hk).2 hen) (by omega)

end Sys2Proof.Machine
end
